-- ==== Sys2Proof/Word.lean ====
section
/-! DEFINITION. The word types of the model and the sparse table type. Only type synonyms stand here; every operation on
them is in Machine/. -/

namespace Sys2Proof

/-- A register word (R514: every register access is a whole 32-bit word). -/
abbrev Word := BitVec 32

/-- A count of Tempo, TEMPO[39:0] (R18), in nanoseconds. -/
abbrev Tempo := BitVec 40

/-- A host line address, host physical address bits [51:6] (R32). -/
abbrev HLine := BitVec 46

/-- The 64 bytes of one line, byte k in bits [8k+7:8k] (R37, R39). -/
abbrev LineData := BitVec 512

/-- The 80 stored symbols of one burst, codeword position i of R266 in bits [8i+7:8i]. -/
abbrev Burst := BitVec 640

/-- A sparse table: keys strictly rising, no entry equal to the value an unlisted key reads as. -/
abbrev Tab (α : Type) := List (Nat × α)

end Sys2Proof
end

