-- ==== Sys2Proof/Syntax.lean ====
section
/-! DEFINITION. The commands the block takes, one constructor per row of the table of operations, with their operands. An
operand that the physical circuits measure (a captured burst, a flipped bit, a sweep result, a sensor reading) is an
input of the command. -/

namespace Sys2Proof

/-- The opcodes of R34, and an op value that R34 does not list, which makes its request illegal. -/
inductive Op where
  | rd | wr | wrp | rdl | wru | ulk | afadd | aswp | acas | aor | aand | flush
  | other (code : BitVec 5)
  deriving DecidableEq, Repr

/-- The opcodes R34 lists, by code. -/
def listedCodes : List Nat := [0x00, 0x01, 0x02, 0x03, 0x04, 0x05, 0x08, 0x09, 0x0A, 0x0B, 0x0C, 0x10]

/-- The request flit of R32. The command's own name gives its opcode, unless `xop` holds a value that R34 does not list: the table has no row
of its own for such a request, so any of the request rows carries it (log entry 76). -/
structure RqFlit where
  addr : HLine
  len : BitVec 2
  tag : BitVec 12
  keyid : BitVec 8
  cls : BitVec 2
  budget : BitVec 14
  walk : Bool
  nt : Bool
  nec : Bool
  wsel : BitVec 3
  mask : BitVec 64
  operand : BitVec 64
  xop : Option (BitVec 5)
  deriving DecidableEq, Repr

/-- A write-data flit (R37); `upset` gives the bits of the stored words that flip while the line waits (R45). -/
structure WdFlit where
  tag : BitVec 12
  idx : BitVec 2
  data : LineData
  upset : LineData
  deriving DecidableEq, Repr

/-- The status a rank's mode registers report in the ALERT_n sequence (R255): CA parity, write CRC, back-off. -/
structure AlertRep where
  sck : Nat
  rk : Nat
  par : Bool
  crc : Bool
  abo : Bool
  deriving DecidableEq, Repr

/-- A run of consecutive passing points a sweep finds on a lane (R348): first and last point, in delay steps. -/
structure LaneRun where
  lane : Nat
  first : Int
  last : Int
  deriving DecidableEq, Repr

/-- A point of a Vref or DFE search: the lane group, the code or candidate tried, and the window found in steps (R349, R350). -/
structure CodeWin where
  grp : Nat
  code : Nat
  win : Nat
  deriving DecidableEq, Repr

/-- What a strobe pair found in step 2 or 3: coarse and fine place, and how many fine steps passed (R346). -/
structure Strobe where
  pair : Nat
  coarse : Nat
  fine : Int
  width : Nat
  deriving DecidableEq, Repr

/-- What an attempt at a training step measured on a rank (R346-R350). Lanes 0 to 39 count 4 * lane group + lane of the group; in step 1
`runs` holds the CS run as lane 0 and the CA lanes' runs as lanes 1 to 7. -/
structure TrainRes where
  answered : Bool
  runs : List LaneRun
  wruns : List LaneRun
  strobes : List Strobe
  vrefs : List CodeWin
  dvrefs : List CodeWin
  dfe : List CodeWin
  vrefCa : Nat
  vrefCs : Nat
  deriving DecidableEq, Repr

/-- The two outputs or inputs of the ring stop. -/
inductive RingDir where
  | cw | ccw
  deriving DecidableEq, Repr

/-- A ring message with the header of R139; `arg` is ARG[85:0], payload flits in order. -/
structure RingMsg where
  type : Nat
  dst : Nat
  src : Nat
  bc : Bool
  len : Nat
  mseq : Nat
  defl : Nat
  arg : Nat
  payload : List (BitVec 128)
  deriving DecidableEq, Repr

/-- A received message of a type of R140 that asks something of the tile, with its arguments decoded. -/
inductive RingIn where
  | disc (cw foreign : Bool) (count : Nat)
  | discDone (total : Nat)
  | discReq
  | mapOffer (src mseq id : Nat) (refused : Bool) (refuser reason : Nat) (words : List Word)
  | mapCommit (src id : Nat)
  | mapAbort (src id : Nat)
  | mapRetire (src id : Nat)
  | fwdReq (src mseq : Nat) (dl : Tempo) (promo : Bool) (ver ent : Nat) (op : Op) (f : RqFlit)
  | fwdWd (src mseq idx : Nat) (data : LineData)
  | fwdRsp (src mseq status : Nat) (misroute : Bool) (idx : Nat) (data : LineData)
  | mirrorWr (src mseq ch l : Nat) (b : Burst)
  | mirrorAck (src mseq : Nat)
  | mirrorRd (src mseq ch l : Nat)
  | mirrorData (src mseq : Nat) (b : Burst)
  | refToken (num : Nat)
  | faultNote (src cls srcNo : Nat) (t : Tempo)
  | linkDown (src : Nat) (ccw : Bool) (tile : Nat)
  deriving DecidableEq, Repr

/-- What a test slice found (R470-R478): its signature, the units that failed and were not mended, and whether spare rows mended a failure.
Units are ports 0 to 7 and 8 for the rest of CORE in S0; 16 * instance + half-bank in S1, the instances being write data buffer, response
buffer, read queue, write queue; bank-engine groups in S2; channels in S4. -/
structure SliceRes where
  sig : Word
  units : List Nat
  mended : Bool
  deriving DecidableEq, Repr

/-- A module's two thermal sensors at a poll, in units of 0.25 °C; none where a sensor did not answer (R445). -/
structure TsPair where
  ts0 : Option Int
  ts1 : Option Int
  deriving DecidableEq, Repr

/-- The wake sources of R422: a handshake at a served port, one at a port answered OFFLINE, the target sideband, a ring message, a register
access (on the CRYP page or not), and work for a voter or a shutdown request. -/
inductive WakeSrc where
  | served | offline | sideband | ring | register (cryp : Bool) | work
  deriving DecidableEq, Repr

/-- The commands. `p` is a port, `c` a channel, `sc` a subchannel (2 * channel + subchannel), `rk` a rank, `agent` the agent that makes a
register access (R515). `v1` and `v2` tell whether the first and the second read-back of a key clear find every word zero (R399). `corr` is
the number of words the ring stop corrected in a message's flits (R137). `upset` gives the bits of stored words that have flipped (R45). -/
inductive Instr where
  -- host requests (R21-R36, R91-R101)
  | rd (p : Nat) (f : RqFlit)
  | wr (p : Nat) (f : RqFlit)
  | wrp (p : Nat) (f : RqFlit)
  | rdl (p : Nat) (f : RqFlit)
  | wru (p : Nat) (f : RqFlit)
  | ulk (p : Nat) (f : RqFlit)
  | afadd (p : Nat) (f : RqFlit)
  | aswp (p : Nat) (f : RqFlit)
  | acas (p : Nat) (f : RqFlit)
  | aor (p : Nat) (f : RqFlit)
  | aand (p : Nat) (f : RqFlit)
  | flush (p : Nat) (f : RqFlit)
  -- the other channels and pins of a port (R37-R60, R83-R85)
  | writeDataFlit (p : Nat) (f : WdFlit)
  | responseSend (p : Nat) (upset : LineData)
  | negativeAcknowledge (p : Nat) (seq : BitVec 12)
  | responseRelease (p : Nat) (seq : BitVec 12)
  | hpResetRise (p : Nat)
  | hpResetFall (p : Nat)
  | panicRise (p : Nat)
  | panicFall (p : Nat)
  -- the ingress arbiter; `rid` is the request's identity, `i` a lock entry
  | arbiterGrant
  | deadlineClamp (rid : Nat)
  | lockTimeout (i : Nat)
  -- scheduling core, lattice and bank engines; `b` is a bank engine
  | proposalPlace (sc : Nat)
  | latticeTick (sc : Nat)
  | proposalLifeExpiry (sc : Nat)
  | accept (sc : Nat)
  | refuse (sc : Nat)
  | commandIssue (sc : Nat) (upset : LineData)
  | writeAlertWindowClose (sc : Nat)
  | drainStart (sc : Nat)
  | gambitIdleTimeout (b : Nat)
  | rtBucketRefill (sc : Nat)
  | readDataReturn (sc : Nat) (burst : Burst)
  -- mode registers, ZQ, refresh, ALERT_n; `j` is a refresh group of the rank
  | mrcmdMrr (agent : BitVec 4) (ch : BitVec 2) (sck rk : Bool) (ma : BitVec 8)
  | mrcmdMrw (agent : BitVec 4) (ch : BitVec 2) (sck rk : Bool) (ma wdata : BitVec 8)
  | zqcalStartDue (sc : Nat) (rk : Fin 2)
  | zqcalLatchDue (sc : Nat) (rk : Fin 2)
  | refreshIncrement (sc : Nat) (rk : Fin 2) (j : Fin 4)
  | mr4Poll
  | alertN (c : Nat) (reps : List AlertRep)
  | parWinExpiry (sc : Nat)
  -- scrubbing, integrity and repair; `i` is a tracker or remap entry
  | scrubLineDue (c : Nat)
  | scrubPassStart (c : Nat)
  | trackerWindowExpiry (i : Nat)
  | deviceCountDecay
  | eccsInjArm (agent : BitVec 4) (w : Word)
  | rmreq (agent : BitVec 4) (ch : BitVec 2) (sck rk : Bool) (bank : BitVec 5) (row : BitVec 18)
  | ersreq (agent : BitVec 4) (ch : BitVec 2) (sck rk : Bool) (grp : BitVec 4)
  | remapCopyComplete (i : Nat) (rows mirror : List Burst)
  | castle (agent : BitVec 4) (chans : BitVec 4)
  | retire (agent : BitVec 4) (chans : BitVec 4)
  -- PHY, training, live calibration; temperatures in units of 0.25 °C; `n` is a PPR list entry
  | pllLock (c : Nat)
  | pllLockTimeout (c : Nat)
  | pllLossOfLock (c : Nat)
  | relockCheckDone (c : Nat) (gates : Bool) (runs : List LaneRun)
  | phyZqRecal (c : Nat) (pu pd : BitVec 6)
  | tempSample (c : Nat) (t : Int)
  | idleGapTrimApply (sc : Nat)
  | gapInsert (sc : Nat)
  | dramInitDone (c : Nat)
  | trainStepDone (sc : Nat) (res : TrainRes)
  | pprEntryDone (n : Nat) (spare clean : Bool)
  | fillLineWrite (c : Nat)
  -- the DIMM sideband; outcome 1 OK, 2 CRC_ERR, 3 NOANS (R461)
  | spdReadDone (c : Nat) (outcome : BitVec 2) (words : List Word)
  | pmicPgoodTimeout (c : Nat)
  | thermalPoll (mods : List TsPair)
  | sideDxferRead (agent : BitVec 4) (ch dev : BitVec 2) (reg : BitVec 8)
  | sideDxferWrite (agent : BitVec 4) (ch dev : BitVec 2) (reg data : BitVec 8)
  | epPassStart (c : Nat)
  | epRunDone (sc : Nat) (rk : Fin 2) (a b : List LaneRun)
  | epProbeWaitExpiry (sc : Nat) (rk : Fin 2)
  | epRunTimeout (sc : Nat) (rk : Fin 2)
  -- inline encryption; `k` is a key slot
  | load (agent : BitVec 4)
  | clear (agent : BitVec 4)
  | clearAll (agent : BitVec 4) (v1 v2 : Bool)
  | keySlotChangeComplete (k : Nat) (v1 v2 : Bool)
  | tamperRise (v1 v2 : Bool)
  -- the test port; `pins` is what the boundary register samples
  | bypass
  | idcode
  | samplePreload (pins : Nat)
  | extest (v1 v2 : Bool)
  | scanEn (v1 v2 : Bool)
  -- power; `word` is the STATUS_WORD read after a failed attempt, `rho` a window's demand in percent, `v` a voter
  | vreqComplete
  | vreqTimeout (word : Option (BitVec 16))
  | pwrGoodFall
  | pgoodDownTimeout
  | vloopWindow (rho : Nat)
  | idleTimerExpiry
  | voteAgree (v : Nat)
  | voteRefuse (v : Nat)
  | voteWithdraw (v : Nat)
  | voteTimeout
  | sleepEntryComplete
  | wakeEvent (src : WakeSrc)
  | wakeComplete
  | coreIdleRegate
  -- reset, start-up, shutdown; `anchor` is the TR_ANCHOR strap
  | tileResetRelease (anchor : Bool)
  | tileResetAssert
  | bootGo (agent : BitVec 4)
  | goActedOn
  | shutdownRequest (agent : BitVec 4)
  | endgameDrainComplete (v1 v2 : Bool)
  | endgameDrainTimeout (v1 v2 : Bool)
  | bistSliceDone (res : SliceRes)
  | bistSliceBudgetExpiry
  -- the fault collector
  | faultReport (src loc aux : Nat) (akind : Bool) (addr : Nat)
  | captureWindowClose (v1 v2 : Bool)
  | checkTimerExpiry
  | faultStatusClear (agent : BitVec 4) (high : Bool) (w : Word)
  | firstFaultClear (agent : BitVec 4)
  | force (agent : BitVec 4) (page : Nat) (w : Word)
  | logPop (agent : BitVec 4) (upset : BitVec 128)
  -- register access; `wr` is the word written, none for a read; `addr` a byte address
  | bengDataAccess (agent : BitVec 4) (wr : Option Word)
  | pprw1Access (agent : BitVec 4) (wr : Option Word)
  | spddatRead (agent : BitVec 4)
  | commit (agent : BitVec 4) (page : Nat) (w : Word)
  | commitSafePoint (page : Nat)
  | claim (agent : BitVec 4) (page : Nat)
  | release (agent : BitVec 4) (page : Nat)
  | claimIdleTimeout (page : Nat)
  | agentReset (agent : BitVec 2)
  | targetResetPattern
  | sidebandWrite (bytes : List (BitVec 8))
  | sidebandRead (bytes : List (BitVec 8)) (len : Nat) (upset : BitVec 128)
  | registerWrite (agent : BitVec 4) (addr : BitVec 17) (w : Word) (v1 v2 : Bool)
  -- the ring
  | disc (corr : Nat) (dir : RingDir) (foreign : Bool) (count : BitVec 6)
  | discDone (corr : Nat) (total : BitVec 6)
  | discReq (corr : Nat)
  | discRepeatTimer
  | discLoopTimeout
  | mapOffer (corr : Nat) (src : BitVec 5) (mseq : BitVec 12) (id : BitVec 8) (refused : Bool) (refuser : BitVec 5) (reason : BitVec 4) (words : List Word)
  | mapOfferReturn (corr : Nat) (id : BitVec 8) (refused : Bool)
  | mapOfferTimeout
  | mapCommit (corr : Nat) (src : BitVec 5) (id : BitVec 8)
  | mapSwitch
  | mapAbort (corr : Nat) (src : BitVec 5) (id : BitVec 8)
  | mapRetire (corr : Nat) (src : BitVec 5) (id : BitVec 8)
  | mapRetireGo (agent : BitVec 4)
  | retTmoExpiry
  | migrationGo (agent : BitVec 4) (rate dst src : BitVec 4)
  | migrationCopyLine
  | fwdReq (corr : Nat) (src : BitVec 5) (mseq : BitVec 12) (dl : Tempo) (promo : Bool) (ver : BitVec 8) (ent : BitVec 4) (op : Op) (f : RqFlit)
  | fwdWd (corr : Nat) (src : BitVec 5) (mseq : BitVec 12) (idx : BitVec 2) (data : LineData)
  | fwdRsp (corr : Nat) (src : BitVec 5) (mseq : BitVec 12) (status : BitVec 4) (misroute : Bool) (idx : BitVec 2) (data : LineData)
  | mirrorWr (corr : Nat) (src : BitVec 5) (mseq : BitVec 12) (ch : BitVec 2) (line : BitVec 32) (burst : Burst)
  | mirrorAck (corr : Nat) (src : BitVec 5) (mseq : BitVec 12)
  | mirrorRd (corr : Nat) (src : BitVec 5) (mseq : BitVec 12) (ch : BitVec 2) (line : BitVec 32)
  | mirrorData (corr : Nat) (src : BitVec 5) (mseq : BitVec 12) (burst : Burst)
  | refToken (corr : Nat) (num : BitVec 3)
  | tokenHoldExpiry (num : BitVec 3)
  | tokenReturnTimeout (num : BitVec 3)
  | faultNote (corr : Nat) (src : BitVec 5) (cls : BitVec 2) (srcNo : BitVec 8) (t : Tempo)
  | linkDown (corr : Nat) (src : BitVec 5) (ccw : Bool) (tile : BitVec 5)
  | linkAckTimeout (dir : RingDir)
  | ringFlitError (dir : RingDir) (received : Bool)
  | ringUnknownType (type : BitVec 8)
  | ringDeflect (dir : RingDir) (msg : RingMsg)
  | rspTmoExpiry (mseq : BitVec 12)
  -- events listed after the table's main part
  | pwrGoodRise
  | voutModeReadDone (byte : Option (BitVec 8))
  | pmicPowerGood (c : Nat)
  | sideDxferDone (ack : Bool) (data : BitVec 8)
  | phyImpedanceCalibrationDone (c : Nat) (pu pd : BitVec 6)
  | dynamicAddressAssignment (a : BitVec 7)
  deriving DecidableEq, Repr

end Sys2Proof
end

