-- ==== Sys2Proof/Decode.lean ====
section
/-! DEFINITION. Commands spelled by words. The table of operations gives none of its rows any bits: commands arrive on the tile's pins, ports
and rings, each with operands of its own, so no word spells one (log entry 6). -/

namespace Sys2Proof

/-- The command a word spells by the table's bits. -/
def decodeTableWord (_nbits _w : Nat) : Option Instr := none

end Sys2Proof
end

