-- ==== Sys2Proof/Machine/Tab.lean ====
section
/-! DEFINITION. Sparse tables with an explicit default: read, write, and the canonical form. Small list helpers used by
every family. -/

namespace Sys2Proof.Machine

/-- The value a table holds at `k`; an unlisted key reads as `d`. -/
def tget {α : Type} (d : α) (t : Tab α) (k : Nat) : α :=
  match t with
  | [] => d
  | (k', v) :: r => if k' = k then v else tget d r k

/-- Insert a listed pair at its place in rising key order. -/
def tins {α : Type} (k : Nat) (v : α) (t : Tab α) : Tab α :=
  match t with
  | [] => [(k, v)]
  | (k', v') :: r => if k < k' then (k, v) :: (k', v') :: r else (k', v') :: tins k v r

/-- Remove every pair listed at `k`. -/
def tdel {α : Type} (k : Nat) (t : Tab α) : Tab α :=
  match t with
  | [] => []
  | (k', v') :: r => if k' = k then tdel k r else (k', v') :: tdel k r

/-- Write `v` at `k`, keeping the canonical form: writing the value an unlisted key reads as removes the pair. -/
def tput {α : Type} [DecidableEq α] (d : α) (k : Nat) (v : α) (t : Tab α) : Tab α :=
  if v = d then tdel k t else tins k v (tdel k t)

/-- Apply `f` to every entry; `d` is what an unlisted key then reads as. -/
def tmap {α β : Type} [DecidableEq β] (d : β) (f : α → β) (t : Tab α) : Tab β :=
  (t.map (fun e => (e.1, f e.2))).filter (fun e => decide (e.2 ≠ d))

/-- The canonical form: keys strictly rising and no pair equal to the default of its key. -/
def Tab.wf {α : Type} [DecidableEq α] (d : Nat → α) (t : Tab α) : Bool :=
  match t with
  | [] => true
  | [(k, v)] => decide (v ≠ d k)
  | (k, v) :: (k', v') :: r => decide (v ≠ d k) && decide (k < k') && Tab.wf d ((k', v') :: r)

/-- The element at a position, or a default. -/
def nth {α : Type} (d : α) (l : List α) (i : Nat) : α := (l[i]?).getD d

/-- Replace the element at a position. -/
def setNth {α : Type} (l : List α) (i : Nat) (v : α) : List α :=
  match l, i with
  | [], _ => []
  | _ :: r, 0 => v :: r
  | x :: r, i + 1 => x :: setNth r i v

/-- Apply `f` to the elements that satisfy `p`. -/
def mapIf {α : Type} (p : α → Bool) (f : α → α) (l : List α) : List α :=
  l.map (fun x => if p x then f x else x)

/-- The element that no other element is strictly better than, the first on ties; none of an empty list. -/
def best {α : Type} (better : α → α → Bool) (l : List α) : Option α :=
  match l with
  | [] => none
  | x :: r => some (r.foldl (fun b y => if better y b then y else b) x)

/-- Insertion into an ordered list: after every element that `y` is not strictly better than. -/
def insOrd {α : Type} (better : α → α → Bool) (y : α) (l : List α) : List α :=
  match l with
  | [] => [y]
  | x :: r => if better y x then y :: x :: r else x :: insOrd better y r

/-- Stable insertion sort, best first. -/
def sortBy {α : Type} (better : α → α → Bool) (l : List α) : List α :=
  l.foldl (fun acc y => insOrd better y acc) []

/-- Bits `hi:lo` of a number. -/
def bits (w hi lo : Nat) : Nat := (w >>> lo) % 2 ^ (hi + 1 - lo)

/-- A saturating add on a counter of `n` bits. -/
def satAdd (n c k : Nat) : Nat := min (c + k) (2 ^ n - 1)

/-- 1 for true, 0 for false. -/
def b2n (b : Bool) : Nat := if b then 1 else 0

end Sys2Proof.Machine
end

