-- ==== Sys2Proof/Machine/Codec.lean ====
section
/-! DEFINITION. The Reed-Solomon code of the integrity codec: field arithmetic, encoding, the three-kind decode and its classification
(R266-R276). -/

namespace Sys2Proof.Machine

open Sys2Proof

/-! ## GF(2^8) with 0x11D (R266) -/

/-- Multiply by alpha = 0x02. -/
def gfDouble (a : Nat) : Nat := if a < 128 then 2 * a else (2 * a) ^^^ 0x11D

/-- Product in GF(2^8). -/
def gfMulAux : Nat → Nat → Nat → Nat → Nat
  | 0, _, _, acc => acc
  | n + 1, a, b, acc => gfMulAux n (gfDouble a) (b / 2) (if b % 2 = 1 then acc ^^^ a else acc)

def gfMul (a b : Nat) : Nat := gfMulAux 8 a b 0

/-- Power of alpha. -/
def gfExp : Nat → Nat
  | 0 => 1
  | n + 1 => gfDouble (gfExp n)

/-- Power of an element. -/
def gfPow (a : Nat) : Nat → Nat
  | 0 => 1
  | n + 1 => gfMul a (gfPow a n)

/-- Inverse: the 254th power, by squaring. -/
def gfInv (a : Nat) : Nat :=
  let a2 := gfMul a a
  let a4 := gfMul a2 a2
  let a8 := gfMul a4 a4
  let a16 := gfMul a8 a8
  let a32 := gfMul a16 a16
  let a64 := gfMul a32 a32
  let a128 := gfMul a64 a64
  gfMul a2 (gfMul a4 (gfMul a8 (gfMul a16 (gfMul a32 (gfMul a64 a128)))))

/-! ## Encoding (R266-R270) -/

/-- Multiply a polynomial (lowest coefficient first) by (x + r). -/
def polyMulRoot (p : List Nat) (r : Nat) : List Nat :=
  List.zipWith (· ^^^ ·) (0 :: p) ((p.map (gfMul r)) ++ [0])

/-- The generator polynomial: the product of (x + alpha^j), j = 0 to 15. -/
def rsGen : List Nat := (List.range 16).foldl (fun p j => polyMulRoot p (gfExp j)) [1]

/-- One step of the division: shift the next symbol (highest position first) into the 16 remainder symbols. -/
def rsShift (g : List Nat) (rem : List Nat) (sym : Nat) : List Nat :=
  let fb := nth 0 rem 15 ^^^ sym
  List.zipWith (fun a b => a ^^^ gfMul fb b) (0 :: rem.take 15) (g.take 16)

/-- The fold symbols of a channel-local line address (R268). -/
def foldOf (l : Nat) : List Nat :=
  let h := (l % 2 ^ 32) ^^^ ((l <<< 13) % 2 ^ 32)
  (List.range 4).map (fun i => (h >>> (8 * i)) % 256)

/-- The check symbols of 64 data symbols stored at `l`. -/
def rsCheck (data : List Nat) (l : Nat) : List Nat :=
  let g := rsGen
  ((data ++ foldOf l).reverse).foldl (rsShift g) (List.replicate 16 0)

/-- The kinds of a stored line (R269). -/
inductive Kind where
  | normal | poison | fill
  deriving DecidableEq, Repr

/-- The kind constant (R269). -/
def kappa (k : Kind) : List Nat :=
  match k with
  | .normal => List.replicate 16 0
  | .poison => [0x3D, 0xA7, 0x19, 0xE2, 0x6B, 0xC4, 0x58, 0x91, 0x2F, 0xB6, 0x73, 0x0E, 0xD9, 0x45, 0x8C, 0xF0]
  | .fill => [0xC6, 0x1B, 0x94, 0x7D, 0xE8, 0x23, 0xAF, 0x5C, 0x81, 0x3A, 0xF7, 0x62, 0x0D, 0xB4, 0x49, 0x9E]

/-- The bytes of a number, lowest first. -/
def bytesOf (n w : Nat) : List Nat := (List.range n).map (fun i => (w >>> (8 * i)) % 256)

/-- The number spelled by bytes, lowest first. -/
def ofBytes (l : List Nat) : Nat := l.foldr (fun b acc => acc * 256 + b) 0

/-- The 80 stored symbols of a line of a kind at `l`. -/
def encodeLine (k : Kind) (data : LineData) (l : Nat) : Burst :=
  let d := bytesOf 64 data.toNat
  BitVec.ofNat 640 (ofBytes (List.zipWith (· ^^^ ·) (rsCheck d l) (kappa k) ++ d))

/-- A poison line and a fill line (R270). -/
def poisonBurst (l : Nat) : Burst := encodeLine .poison 0 l
def fillBurst (l : Nat) : Burst := encodeLine .fill 0 l

/-! ## Decoding (R273-R276) -/

/-- The lane group of a stored position (R271): data symbol k at position 16 + k in group k / 8, checks in groups 8 and 9. -/
def groupOfPos (i : Nat) : Nat := if i < 8 then 8 else if i < 16 then 9 else (i - 16) / 8

/-- The positions of a lane group. -/
def posOfGroup (g : Nat) : List Nat :=
  if g = 8 then List.range 8 else if g = 9 then (List.range 8).map (· + 8) else (List.range 8).map (· + (16 + 8 * g))

/-- R271: the bit of a burst that lane `lane` of group `g` carries at beat `beat`, 0 to 15: symbol j of the group occupies beats 2j and 2j + 1, its
bit b lies on lane b mod 4 at beat 2j + b div 4. -/
def laneBit (b : Burst) (g lane beat : Nat) : Bool := b.getLsbD (8 * nth 0 (posOfGroup g) (beat / 2) + 4 * (beat % 2) + lane)

/-- The lane group of a lane of the subchannel: DQ0 to DQ31 and CB0 to CB7 as lanes 0 to 39. -/
def groupOfLane (lane : Nat) : Nat := lane / 4

/-- R271: the 40 lanes at one beat of a burst, DQ0 first. -/
def beatOf (b : Burst) (beat : Nat) : BitVec 40 :=
  BitVec.ofNat 40 ((List.range 40).foldl (fun w n => if laneBit b (groupOfLane n) (n % 4) beat then w + 2 ^ n else w) 0)

/-- R272: the lane groups of DRAM device `d`, on modules of x8 devices or of x4 ones. -/
def deviceGroups (x8 : Bool) (d : Nat) : List Nat := if x8 then [2 * d, 2 * d + 1] else [d]

/-- Syndromes S_j, j = 0 to 15, of an 84-symbol word, position 0 first. -/
def syndromes (w : List Nat) : List Nat :=
  let r := w.reverse
  (List.range 16).map (fun j => let a := gfExp j; r.foldl (fun acc c => gfMul acc a ^^^ c) 0)

/-- Subtract `f` times row `p` from row `r`. -/
def rowSub (f : Nat) (p r : List Nat) : List Nat := List.zipWith (fun a b => a ^^^ gfMul f b) r p

/-- Gauss-Jordan elimination of an augmented matrix over GF(2^8), column by column; none when singular. -/
def eliminate : Nat → Nat → List (List Nat) → List (List Nat) → Option (List (List Nat))
  | 0, _, done, _ => some done
  | n + 1, c, done, rows =>
    match rows.find? (fun r => nth 0 r c != 0) with
    | none => none
    | some p0 =>
      let inv := gfInv (nth 0 p0 c)
      let p := p0.map (gfMul inv)
      let rest := (rows.erase p0).map (fun r => rowSub (nth 0 r c) p r)
      let done := done.map (fun r => rowSub (nth 0 r c) p r) ++ [p]
      eliminate n (c + 1) done rest

/-- The error values at the given positions that explain the syndromes, if any do. -/
def solveAt (ps : List Nat) (syn : List Nat) : Option (List Nat) :=
  let n := ps.length
  let rows := (List.range n).map (fun j => ps.map (fun p => gfExp (j * p % 255)) ++ [nth 0 syn j])
  match eliminate n 0 [] rows with
  | none => none
  | some m =>
    let vals := m.map (fun r => nth 0 r n)
    let ok := (List.range 16).all (fun j =>
      (List.zipWith (fun p v => gfMul v (gfExp (j * p % 255))) ps vals).foldl (· ^^^ ·) 0 == nth 0 syn j)
    if ok then some vals else none

/-- Polynomial product, lowest coefficient first, kept to `n` coefficients. -/
def polyMul (n : Nat) (a b : List Nat) : List Nat :=
  (List.range n).map (fun k => (List.range (k + 1)).foldl (fun acc i => acc ^^^ gfMul (nth 0 a i) (nth 0 b (k - i))) 0)

/-- One step of the Berlekamp-Massey iteration: locator, previous locator, its length, its shift, its discrepancy. -/
def bmStep (s : List Nat) (st : List Nat × List Nat × Nat × Nat × Nat) (n : Nat) : List Nat × List Nat × Nat × Nat × Nat :=
  let (c, b, l, m, bd) := st
  let d := (List.range (l + 1)).foldl (fun acc i => acc ^^^ gfMul (nth 0 c i) (nth 0 s (n - i))) 0
  if d = 0 then (c, b, l, m + 1, bd)
  else
    let coef := gfMul d (gfInv bd)
    let sh := List.replicate m 0 ++ b.map (gfMul coef)
    let len := max c.length sh.length
    let c' := (List.range len).map (fun i => nth 0 c i ^^^ nth 0 sh i)
    if 2 * l ≤ n then (c', c, n + 1 - l, 1, d) else (c', b, l, m + 1, bd)

/-- The error locator of a syndrome sequence. -/
def bmLocator (s : List Nat) : List Nat × Nat :=
  let r := (List.range s.length).foldl (bmStep s) ([1], [1], 0, 1, 1)
  (r.1, r.2.2.1)

/-- The positions 0 to 83 at which a locator vanishes. -/
def locatorRoots (c : List Nat) : List Nat :=
  (List.range 84).filter (fun p =>
    let x := gfExp ((255 - p) % 255)
    (c.reverse.foldl (fun acc k => gfMul acc x ^^^ k) 0) == 0)

/-- Errors beyond an erased group: at most 4, located from the syndromes freed of the erasures (R273). -/
def locateBeyond (er : List Nat) (syn : List Nat) : Option (List Nat) :=
  let gam := er.foldl (fun p e => polyMul (p.length + 1) p [1, gfExp e]) [1]
  let t := (polyMul 16 syn gam).drop er.length
  let (c, l) := bmLocator t
  let roots := locatorRoots c
  if l ≤ 4 ∧ roots.length = l ∧ roots.all (fun p => !er.contains p) = true then some roots else none

/-- What one kind's decode gives: the corrections (position, value) of an accepted result, or errors that lie only at the fold. -/
inductive OneKind where
  | accepted (fix : List (Nat × Nat))
  | foldOnly
  | failed
  deriving DecidableEq, Repr

/-- The corrections of a result: only symbols whose value changes (R274). -/
def fixesOf (ps vals : List Nat) : List (Nat × Nat) := (List.zip ps vals).filter (fun p => p.2 != 0)

/-- R273: decode an 84-symbol word under one kind, with at most one erased group. -/
def decodeKind (w : List Nat) (er : Option Nat) : OneKind :=
  let syn := syndromes w
  match er with
  | none =>
    if syn.all (· == 0) then .accepted []
    else
      match (List.range 10).findSome? (fun g => (solveAt (posOfGroup g) syn).map (fixesOf (posOfGroup g))) with
      | some fix => .accepted fix
      | none => if (solveAt [80, 81, 82, 83] syn).isSome then .foldOnly else .failed
  | some g =>
    let ps := posOfGroup g
    if syn.all (· == 0) then .accepted []
    else
      match locateBeyond ps syn with
      | none => .failed
      | some extra =>
        match solveAt (ps ++ extra) syn with
        | none => .failed
        | some vals =>
          if extra.isEmpty then .accepted (fixesOf ps vals)
          else if extra.all (fun p => decide (80 ≤ p)) then .foldOnly
          else if extra.any (fun p => decide (80 ≤ p)) then .failed
          else .accepted (fixesOf (ps ++ extra) vals)

/-- The classification of a read (R274): a line of a kind with its corrected stored symbols and the positions corrected,
misaddressed, or uncorrectable. -/
inductive Class where
  | line (k : Kind) (data : LineData) (stored : Burst) (fixed : List Nat)
  | misaddressed
  | uncorrectable
  deriving DecidableEq, Repr

/-- The stored symbols with corrections applied. -/
def applyFix (sym : List Nat) (fix : List (Nat × Nat)) : List Nat :=
  fix.foldl (fun l p => setNth l p.1 (nth 0 l p.1 ^^^ p.2)) sym

/-- R274: classify a burst read for line `l` under the erasure slot of its rank. -/
def classify (b : Burst) (l : Nat) (er : Option Nat) : Class :=
  let sym := bytesOf 80 b.toNat
  let word (k : Kind) : List Nat := List.zipWith (· ^^^ ·) (sym.take 16) (kappa k) ++ sym.drop 16 ++ foldOf l
  let rs := [Kind.normal, Kind.poison, Kind.fill].map (fun k => (k, decodeKind (word k) er))
  let acc := rs.filterMap (fun r => match r.2 with | .accepted f => some (r.1, f) | _ => none)
  match acc with
  | [(k, f)] =>
    let fixed := applyFix sym f
    .line k (BitVec.ofNat 512 (ofBytes (fixed.drop 16))) (BitVec.ofNat 640 (ofBytes fixed)) (f.map (·.1))
  | _ :: _ :: _ => .uncorrectable
  | [] => if (rs.filter (fun r => r.2 == .foldOnly)).length = 1 then .misaddressed else .uncorrectable

/-- The lane group a corrected read reports (R286): the one with the most corrected symbols outside an erased group, the lower on
a tie. -/
def reportGroup (fixed : List Nat) (er : Option Nat) : Option Nat :=
  let cnt (g : Nat) : Nat := if er = some g then 0 else (fixed.filter (fun p => groupOfPos p == g)).length
  let g := (List.range 10).foldl (fun m g => if cnt m < cnt g then g else m) 0
  if cnt g = 0 then none else some g

/-- The data symbols of a classification. -/
def Class.data? (c : Class) : Option (Kind × LineData × List Nat) :=
  match c with
  | .line k d _ f => some (k, d, f)
  | _ => none

end Sys2Proof.Machine
end

