-- ==== Sys2Proof/Machine/Cipher.lean ====
section
/-! DEFINITION. AES-256-XTS over one line (R388). The cipher's own tables are those of FIPS-197 and IEEE 1619, which R388 names (log
entry 23). -/

namespace Sys2Proof.Machine

open Sys2Proof

/-- Multiply by x in the AES field, 0x11B. -/
def aesDouble (a : Nat) : Nat := if a < 128 then 2 * a else (2 * a) ^^^ 0x11B

def aesMulAux : Nat → Nat → Nat → Nat → Nat
  | 0, _, _, acc => acc
  | n + 1, a, b, acc => aesMulAux n (aesDouble a) (b / 2) (if b % 2 = 1 then acc ^^^ a else acc)

/-- Product in the AES field. -/
def aesMul (a b : Nat) : Nat := aesMulAux 8 a b 0

/-- Inverse in the AES field, 0 for 0. -/
def aesInv (a : Nat) : Nat :=
  let a2 := aesMul a a
  let a4 := aesMul a2 a2
  let a8 := aesMul a4 a4
  let a16 := aesMul a8 a8
  let a32 := aesMul a16 a16
  let a64 := aesMul a32 a32
  let a128 := aesMul a64 a64
  aesMul a2 (aesMul a4 (aesMul a8 (aesMul a16 (aesMul a32 (aesMul a64 a128)))))

/-- Rotate a byte left. -/
def rotl8 (a k : Nat) : Nat := ((a <<< k) ||| (a >>> (8 - k))) % 256

/-- The AES S-box and its inverse. -/
def sbox (a : Nat) : Nat :=
  let b := aesInv a
  b ^^^ rotl8 b 1 ^^^ rotl8 b 2 ^^^ rotl8 b 3 ^^^ rotl8 b 4 ^^^ 0x63

def sboxInv (a : Nat) : Nat := aesInv (rotl8 a 1 ^^^ rotl8 a 3 ^^^ rotl8 a 6 ^^^ 0x05)

/-- Four-byte words of the AES-256 key schedule, 60 of them. -/
def expandKey (key : List Nat) : List (List Nat) :=
  let init := (List.range 8).map (fun i => (key.drop (4 * i)).take 4)
  ((List.range 52).foldl (fun (acc : List (List Nat) × Nat) j =>
    let i := j + 8
    let prev := nth [] acc.1 (i - 1)
    let old := nth [] acc.1 (i - 8)
    let t := if i % 8 = 0 then
        (match (prev.rotateLeft 1).map sbox with
         | a :: r => (a ^^^ acc.2) :: r
         | [] => [])
      else if i % 8 = 4 then prev.map sbox else prev
    (acc.1 ++ [List.zipWith (· ^^^ ·) old t], if i % 8 = 0 then aesDouble acc.2 else acc.2)) (init, 1)).1

/-- Round key `r` as 16 bytes. -/
def roundKey (ks : List (List Nat)) (r : Nat) : List Nat := ((ks.drop (4 * r)).take 4).flatten

def xorBytes (a b : List Nat) : List Nat := List.zipWith (· ^^^ ·) a b

def shiftRows (b : List Nat) : List Nat := (List.range 16).map (fun i => nth 0 b ((i + 4 * (i % 4)) % 16))
def unshiftRows (b : List Nat) : List Nat := (List.range 16).map (fun i => nth 0 b ((i + 16 - 4 * (i % 4)) % 16))

/-- Multiply each column by a circulant row. -/
def mixWith (m : List Nat) (b : List Nat) : List Nat :=
  (List.range 16).map (fun i =>
    let c := 4 * (i / 4)
    (List.range 4).foldl (fun acc k => acc ^^^ aesMul (nth 0 m ((k + 4 - i % 4) % 4)) (nth 0 b (c + k))) 0)

/-- AES-256 encryption of a block. -/
def aesEnc (ks : List (List Nat)) (b : List Nat) : List Nat :=
  let s := xorBytes b (roundKey ks 0)
  let s := (List.range 13).foldl (fun s r => xorBytes (mixWith [2, 3, 1, 1] (shiftRows (s.map sbox))) (roundKey ks (r + 1))) s
  xorBytes (shiftRows (s.map sbox)) (roundKey ks 14)

/-- AES-256 decryption of a block. -/
def aesDec (ks : List (List Nat)) (b : List Nat) : List Nat :=
  let s := (unshiftRows (xorBytes b (roundKey ks 14))).map sboxInv
  let s := (List.range 13).foldl (fun s r =>
    (unshiftRows (mixWith [14, 11, 13, 9] (xorBytes s (roundKey ks (13 - r))))).map sboxInv) s
  xorBytes s (roundKey ks 0)

/-- Multiply the tweak by alpha in GF(2^128), little-endian bytes. -/
def tweakStep (t : Nat) : Nat := if t < 2 ^ 127 then 2 * t else ((2 * t) % 2 ^ 128) ^^^ 0x87

/-- R388: encrypt or decrypt the 64 bytes of a line under a 64-byte key block (K1 then K2) with its host line address. -/
def xts (enc : Bool) (key : LineData) (addr : HLine) (data : LineData) : LineData :=
  let kb := bytesOf 64 key.toNat
  let k1 := expandKey (kb.take 32)
  let k2 := expandKey (kb.drop 32)
  let t0 := ofBytes (aesEnc k2 (bytesOf 16 addr.toNat))
  let out := (List.range 4).foldl (fun (acc : List Nat × Nat) j =>
    let t := bytesOf 16 acc.2
    let blk := xorBytes (bytesOf 16 (data.toNat >>> (128 * j))) t
    (acc.1 ++ xorBytes (if enc then aesEnc k1 blk else aesDec k1 blk) t, tweakStep acc.2)) ([], t0)
  BitVec.ofNat 512 (ofBytes out.1)

end Sys2Proof.Machine
end

