-- ==== Sys2Proof/Machine/Crc.lean ====
section
/-! DEFINITION. The cyclic redundancy checks: CRC-16 of a response flit (R40), CRC-32 of bytes (R472, R475), and CRC over bits in general. -/

namespace Sys2Proof.Machine

/-- One step of a CRC register of width `n` with generator `poly`, most significant bit first. -/
def crcStep (n poly reg : Nat) (b : Bool) : Nat :=
  let top := reg.testBit (n - 1)
  let sh := (reg * 2) % 2 ^ n
  if top != b then sh ^^^ poly else sh

/-- Shift `k` bits of `w` in, bit `k - 1` first. -/
def crcBits (n poly : Nat) (w : Nat) : Nat → Nat → Nat
  | 0, reg => reg
  | k + 1, reg => crcBits n poly w k (crcStep n poly reg (w.testBit k))

/-- The crc field of R40: generator 0x1021, preset 0xFFFF, bits [558:16] from bit 558 down, no final inversion. -/
def crc16 (flitHigh : Nat) : Nat := crcBits 16 0x1021 flitHigh 543 0xFFFF

/-- A byte's bits enter least significant first. -/
def crcByte (reg byte : Nat) : Nat := (List.range 8).foldl (fun r i => crcStep 32 0x04C11DB7 r (byte.testBit i)) reg

/-- A 32-bit word with its bits in reverse order. -/
def reflect32 (w : Nat) : Nat := (List.range 32).foldl (fun a i => 2 * a + b2n (w.testBit i)) 0

/-- CRC-32 of IEEE 802.3 over bytes. -/
def crc32 (bytes : List Nat) : Nat := reflect32 (bytes.foldl crcByte 0xFFFFFFFF) ^^^ 0xFFFFFFFF

/-- A word's bytes, least significant first. -/
def bytesLE (n w : Nat) : List Nat := (List.range n).map (fun i => (w >>> (8 * i)) % 256)

end Sys2Proof.Machine
end

