-- ==== Sys2Proof/Config.lean ====
section
/-! DEFINITION. The free values: what the spec leaves open. Opaque constants without a body, so that no proof can see a
value of one. -/

namespace Sys2Proof.Config

/-- The expected signature of slice `s`, BIST_EXPs, which the configurator derives from the four built parameters; the spec lists no value
(R482, log entry 7). -/
opaque bistExp (ports channels : Nat) (crypt ring : Bool) (s : Nat) : BitVec 32

/-- The eight SEC-DED check bits of a 64-bit word of a ring flit; the spec gives no code matrix (R137, log entry 92). -/
opaque ringCheck (w : BitVec 64) : BitVec 8

/-- The CA bits of a command as JESD79-5 spells it, by the command's place in R201's list, bank, row and column; the spec gives no encoding
(R202, log entry 94). -/
opaque caBits (cmd bk row col : Nat) : BitVec 28

/-- The byte JESD79-5 spells for mode register `ma` from the values R341 names as its sources; the spec gives no encoding (log entry 95). -/
opaque mrByte (ma : Nat) (src : List Nat) : BitVec 8

/-- Line `i` of the pseudo-random data the PHY's pattern generator writes at sweep point `pt`; the spec gives no polynomial (R347, R374, log
entry 96). -/
opaque pattern (pt i : Nat) : BitVec 640

end Sys2Proof.Config
end

