-- ==== Sys2Proof/Machine/RegMap.lean ====
section
/-! DEFINITION. The register map: every named field of every page, by page, byte offset and bit positions, and the
table of access codes and reset values, from the field tables of the spec (R65-R513, index R518, header R519). -/

namespace Sys2Proof.Machine

/-- A field of a register: page number, byte offset within the page, highest and lowest bit (R6, R8, R518). -/
structure FRef where
  page : Nat
  off : Nat
  hi : Nat
  lo : Nat
  deriving DecidableEq, Repr

/-- The access codes of R9. -/
inductive Acc where
  | rw | rs | ro | w1c | wo
  deriving DecidableEq, Repr

/-- A row of a field table: the field, its access code, its reset value. -/
structure FDef where
  ref : FRef
  acc : Acc
  rst : Nat
  deriving DecidableEq, Repr

/-- The address key of a word: page in the high part, byte offset in the low twelve bits (R518). -/
def regKey (page off : Nat) : Nat := page * 0x1000 + off

namespace Reg

def HPT_PCTL_AP_AGENT (p : Nat) : FRef := ⟨0x8 + p, 0x040, 2, 2⟩
def HPT_PCTL_APEN (p : Nat) : FRef := ⟨0x8 + p, 0x040, 1, 1⟩
def HPT_PCTL_PEN (p : Nat) : FRef := ⟨0x8 + p, 0x040, 0, 0⟩
def HPT_BUD0_DL_DEF (p : Nat) : FRef := ⟨0x8 + p, 0x044, 29, 16⟩
def HPT_BUD0_BE_DEF (p : Nat) : FRef := ⟨0x8 + p, 0x044, 13, 0⟩
def HPT_BUD1_RT_DEF (p : Nat) : FRef := ⟨0x8 + p, 0x048, 13, 0⟩
def HPT_WDCRD_HELD (p : Nat) : FRef := ⟨0x8 + p, 0x04c, 24, 16⟩
def HPT_WDCRD_ALLOC (p : Nat) : FRef := ⟨0x8 + p, 0x04c, 8, 0⟩
def HPT_RSPCAP_USED (p : Nat) : FRef := ⟨0x8 + p, 0x050, 25, 16⟩
def HPT_RSPCAP_CAP (p : Nat) : FRef := ⟨0x8 + p, 0x050, 9, 0⟩
def HPT_APBASE_BASE (p : Nat) : FRef := ⟨0x8 + p, 0x054, 31, 0⟩
def HPT_SEQ_MARK (p : Nat) : FRef := ⟨0x8 + p, 0x058, 27, 16⟩
def HPT_SEQ_NEXT (p : Nat) : FRef := ⟨0x8 + p, 0x058, 11, 0⟩
def HPT_NAKCNT_NAKS (p : Nat) : FRef := ⟨0x8 + p, 0x05c, 15, 0⟩
def HPT_EVT_WD_BAD (p : Nat) : FRef := ⟨0x8 + p, 0x014, 7, 7⟩
def HPT_EVT_WALKDEV (p : Nat) : FRef := ⟨0x8 + p, 0x014, 6, 6⟩
def HPT_EVT_PORT_RESET (p : Nat) : FRef := ⟨0x8 + p, 0x014, 5, 5⟩
def HPT_EVT_ALLOC_REFUSED (p : Nat) : FRef := ⟨0x8 + p, 0x014, 4, 4⟩
def HPT_EVT_NAK_LIMIT (p : Nat) : FRef := ⟨0x8 + p, 0x014, 3, 3⟩
def HPT_EVT_NAK_RANGE (p : Nat) : FRef := ⟨0x8 + p, 0x014, 2, 2⟩
def HPT_EVT_CRD_OVER (p : Nat) : FRef := ⟨0x8 + p, 0x014, 1, 1⟩
def HPT_EVT_DUP_TAG (p : Nat) : FRef := ⟨0x8 + p, 0x014, 0, 0⟩
def GLOB_WBWM_HI : FRef := ⟨0x0, 0x200, 24, 16⟩
def GLOB_WBWM_LO : FRef := ⟨0x0, 0x200, 8, 0⟩
def GLOB_RBWM_HI : FRef := ⟨0x0, 0x20c, 25, 16⟩
def GLOB_RBWM_LO : FRef := ⟨0x0, 0x20c, 9, 0⟩
def GLOB_WBCUT_CUT : FRef := ⟨0x0, 0x204, 2, 0⟩
def GLOB_WBSTAT_ALLOC_SUM : FRef := ⟨0x0, 0x208, 24, 16⟩
def GLOB_WBSTAT_OCC : FRef := ⟨0x0, 0x208, 8, 0⟩
def GLOB_RBSTAT_SHARED_USED : FRef := ⟨0x0, 0x210, 24, 16⟩
def GLOB_RBSTAT_OCC : FRef := ⟨0x0, 0x210, 9, 0⟩
def GLOB_BUFCE_RB_CE : FRef := ⟨0x0, 0x214, 31, 16⟩
def GLOB_BUFCE_WB_CE : FRef := ⟨0x0, 0x214, 15, 0⟩
def GLOB_BUFUE_RB_UE : FRef := ⟨0x0, 0x218, 31, 16⟩
def GLOB_BUFUE_WB_UE : FRef := ⟨0x0, 0x218, 15, 0⟩
def GLOB_BUFCLR_RB_CLR : FRef := ⟨0x0, 0x21c, 1, 1⟩
def GLOB_BUFCLR_WB_CLR : FRef := ⟨0x0, 0x21c, 0, 0⟩
def GLOB_BUFEVT_RB_UE : FRef := ⟨0x0, 0x220, 5, 5⟩
def GLOB_BUFEVT_WB_UE : FRef := ⟨0x0, 0x220, 4, 4⟩
def GLOB_BUFEVT_RB_LO : FRef := ⟨0x0, 0x220, 3, 3⟩
def GLOB_BUFEVT_RB_HI : FRef := ⟨0x0, 0x220, 2, 2⟩
def GLOB_BUFEVT_WB_LO : FRef := ⟨0x0, 0x220, 1, 1⟩
def GLOB_BUFEVT_WB_HI : FRef := ⟨0x0, 0x220, 0, 0⟩
def GLOB_BUFEVT_EN_EN : FRef := ⟨0x0, 0x224, 5, 0⟩
def GLOB_BUFLVL_RB_LVL : FRef := ⟨0x0, 0x228, 1, 1⟩
def GLOB_BUFLVL_WB_LVL : FRef := ⟨0x0, 0x228, 0, 0⟩
def GLOB_LOCKCTL_TMO : FRef := ⟨0x0, 0x240, 9, 0⟩
def GLOB_LOCKSTAT_HELD : FRef := ⟨0x0, 0x244, 20, 16⟩
def GLOB_LOCKSTAT_VALID : FRef := ⟨0x0, 0x244, 15, 0⟩
def GLOB_LOCKEVT_EN : FRef := ⟨0x0, 0x248, 18, 16⟩
def GLOB_LOCKEVT_LOST : FRef := ⟨0x0, 0x248, 2, 2⟩
def GLOB_LOCKEVT_RST_BRK : FRef := ⟨0x0, 0x248, 1, 1⟩
def GLOB_LOCKEVT_TMO_BRK : FRef := ⟨0x0, 0x248, 0, 0⟩
def GLOB_LOCKSEL_SEL : FRef := ⟨0x0, 0x24c, 3, 0⟩
def GLOB_LOCKINFO0_VLD : FRef := ⟨0x0, 0x250, 31, 31⟩
def GLOB_LOCKINFO0_PORT : FRef := ⟨0x0, 0x250, 30, 28⟩
def GLOB_LOCKINFO0_ADDR_HI : FRef := ⟨0x0, 0x250, 13, 0⟩
def GLOB_LOCKINFO1_ADDR_LO : FRef := ⟨0x0, 0x254, 31, 0⟩
def HPT_PANSTAT_RISES (p : Nat) : FRef := ⟨0x8 + p, 0x060, 31, 16⟩
def HPT_PANSTAT_SEEN (p : Nat) : FRef := ⟨0x8 + p, 0x060, 1, 1⟩
def HPT_PANSTAT_LEVEL (p : Nat) : FRef := ⟨0x8 + p, 0x060, 0, 0⟩
def HPT_ARBCNT_DEAD (p : Nat) : FRef := ⟨0x8 + p, 0x064, 31, 16⟩
def HPT_ARBCNT_PREEMPT (p : Nat) : FRef := ⟨0x8 + p, 0x064, 15, 0⟩
def AMAP_MAPCTL_RET_TMO : FRef := ⟨0x7, 0x040, 13, 0⟩
def AMAP_MAPSTAT_RETAIN : FRef := ⟨0x7, 0x044, 31, 16⟩
def AMAP_MAPSTAT_AGREE : FRef := ⟨0x7, 0x044, 1, 0⟩
def AMAP_RETIRE_GO : FRef := ⟨0x7, 0x048, 0, 0⟩
def AMAP_MISCNT_FWD : FRef := ⟨0x7, 0x04c, 31, 16⟩
def AMAP_MISCNT_MIS : FRef := ⟨0x7, 0x04c, 15, 0⟩
def AMAP_CHDEC_SPARE (n : Nat) : FRef := ⟨0x7, 0x050 + 4 * n, 15, 12⟩
def AMAP_CHDEC_BHASH (n : Nat) : FRef := ⟨0x7, 0x050 + 4 * n, 11, 11⟩
def AMAP_CHDEC_RK_EN (n : Nat) : FRef := ⟨0x7, 0x050 + 4 * n, 10, 10⟩
def AMAP_CHDEC_COL7 (n : Nat) : FRef := ⟨0x7, 0x050 + 4 * n, 9, 9⟩
def AMAP_CHDEC_ROW_BITS (n : Nat) : FRef := ⟨0x7, 0x050 + 4 * n, 4, 0⟩
def AMAP_CHSEL_RK (n : Nat) : FRef := ⟨0x7, 0x060 + 4 * n, 27, 24⟩
def AMAP_CHSEL_BA1 (n : Nat) : FRef := ⟨0x7, 0x060 + 4 * n, 23, 20⟩
def AMAP_CHSEL_BA0 (n : Nat) : FRef := ⟨0x7, 0x060 + 4 * n, 19, 16⟩
def AMAP_CHSEL_BG2 (n : Nat) : FRef := ⟨0x7, 0x060 + 4 * n, 15, 12⟩
def AMAP_CHSEL_BG1 (n : Nat) : FRef := ⟨0x7, 0x060 + 4 * n, 11, 8⟩
def AMAP_CHSEL_BG0 (n : Nat) : FRef := ⟨0x7, 0x060 + 4 * n, 7, 4⟩
def AMAP_CHSEL_SC (n : Nat) : FRef := ⟨0x7, 0x060 + 4 * n, 3, 0⟩
def AMAP_MIGCTL_RATE : FRef := ⟨0x7, 0x070, 15, 12⟩
def AMAP_MIGCTL_DST : FRef := ⟨0x7, 0x070, 11, 8⟩
def AMAP_MIGCTL_SRC : FRef := ⟨0x7, 0x070, 7, 4⟩
def AMAP_MIGCTL_GO : FRef := ⟨0x7, 0x070, 0, 0⟩
def AMAP_MIGWM_WM : FRef := ⟨0x7, 0x074, 31, 0⟩
def AMAP_MIGSTAT_UE : FRef := ⟨0x7, 0x078, 31, 16⟩
def AMAP_MIGSTAT_DONE : FRef := ⟨0x7, 0x078, 0, 0⟩
def AMAP_CMTSTAT_HOLD : FRef := ⟨0x7, 0x07c, 15, 0⟩
def AMAP_E_BASE_BASE (e : Nat) : FRef := ⟨0x7, 0x100 + 0x40 * e, 31, 0⟩
def AMAP_E_LIMIT_LIMIT (e : Nat) : FRef := ⟨0x7, 0x104 + 0x40 * e, 31, 0⟩
def AMAP_E_CFG_MTILE (e : Nat) : FRef := ⟨0x7, 0x108 + 0x40 * e, 31, 27⟩
def AMAP_E_CFG_MIRROR (e : Nat) : FRef := ⟨0x7, 0x108 + 0x40 * e, 26, 25⟩
def AMAP_E_CFG_HASH (e : Nat) : FRef := ⟨0x7, 0x108 + 0x40 * e, 24, 24⟩
def AMAP_E_CFG_GRAIN (e : Nat) : FRef := ⟨0x7, 0x108 + 0x40 * e, 23, 20⟩
def AMAP_E_CFG_NTGT (e : Nat) : FRef := ⟨0x7, 0x108 + 0x40 * e, 19, 15⟩
def AMAP_E_CFG_VLD (e : Nat) : FRef := ⟨0x7, 0x108 + 0x40 * e, 8, 8⟩
def AMAP_E_CFG_VER (e : Nat) : FRef := ⟨0x7, 0x108 + 0x40 * e, 7, 0⟩
def AMAP_E_CHBASE_CHBASE (e : Nat) : FRef := ⟨0x7, 0x10c + 0x40 * e, 17, 0⟩
def AMAP_E_SLOT (e k : Nat) : FRef := ⟨0x7, 0x110 + 0x40 * e + 4 * (k / 4), 8 * (k % 4) + 6, 8 * (k % 4)⟩
def AMAP_EVT_MIG_UE : FRef := ⟨0x7, 0x014, 12, 12⟩
def AMAP_EVT_MIG_DONE : FRef := ⟨0x7, 0x014, 11, 11⟩
def AMAP_EVT_RETIRED : FRef := ⟨0x7, 0x014, 10, 10⟩
def AMAP_EVT_COMMITTED : FRef := ⟨0x7, 0x014, 9, 9⟩
def AMAP_EVT_PEER_REFUSED : FRef := ⟨0x7, 0x014, 8, 8⟩
def AMAP_EVT_CHDEC_LOCKED : FRef := ⟨0x7, 0x014, 7, 7⟩
def AMAP_EVT_RETAIN_BUSY : FRef := ⟨0x7, 0x014, 6, 6⟩
def AMAP_EVT_MOVE : FRef := ⟨0x7, 0x014, 5, 5⟩
def AMAP_EVT_MIRROR : FRef := ⟨0x7, 0x014, 4, 4⟩
def AMAP_EVT_TGT : FRef := ⟨0x7, 0x014, 3, 3⟩
def AMAP_EVT_HASH_N : FRef := ⟨0x7, 0x014, 2, 2⟩
def AMAP_EVT_EXTENT : FRef := ⟨0x7, 0x014, 1, 1⟩
def AMAP_EVT_OVERLAP : FRef := ⟨0x7, 0x014, 0, 0⟩
def RING_CTL_RSP_TMO : FRef := ⟨0x3, 0x040, 31, 24⟩
def RING_CTL_LINK_TMO : FRef := ⟨0x3, 0x040, 23, 16⟩
def RING_CTL_TOK_HOLD : FRef := ⟨0x3, 0x040, 15, 8⟩
def RING_CTL_TOKENS : FRef := ⟨0x3, 0x040, 3, 0⟩
def RING_STAT_NUMBERED : FRef := ⟨0x3, 0x044, 31, 31⟩
def RING_STAT_TILE_NO : FRef := ⟨0x3, 0x044, 30, 26⟩
def RING_STAT_TILES : FRef := ⟨0x3, 0x044, 25, 20⟩
def RING_STAT_ANCHOR : FRef := ⟨0x3, 0x044, 19, 19⟩
def RING_STAT_CWI_UP : FRef := ⟨0x3, 0x044, 15, 15⟩
def RING_STAT_CWO_UP : FRef := ⟨0x3, 0x044, 14, 14⟩
def RING_STAT_CCWI_UP : FRef := ⟨0x3, 0x044, 13, 13⟩
def RING_STAT_CCWO_UP : FRef := ⟨0x3, 0x044, 12, 12⟩
def RING_CNT0_CORR : FRef := ⟨0x3, 0x048, 31, 16⟩
def RING_CNT0_RETRY : FRef := ⟨0x3, 0x048, 15, 0⟩
def RING_CNT1_DEFLECT : FRef := ⟨0x3, 0x04c, 31, 16⟩
def RING_CNT1_WAKE : FRef := ⟨0x3, 0x04c, 15, 0⟩
def RING_NOTE_TILE : FRef := ⟨0x3, 0x050, 23, 19⟩
def RING_NOTE_SRC : FRef := ⟨0x3, 0x050, 15, 8⟩
def RING_NOTE_CLASS : FRef := ⟨0x3, 0x050, 1, 0⟩
def RING_NOTET_TEMPO : FRef := ⟨0x3, 0x054, 31, 0⟩
def RING_EVT_NOTE : FRef := ⟨0x3, 0x014, 10, 10⟩
def RING_EVT_TOKLESS : FRef := ⟨0x3, 0x014, 9, 9⟩
def RING_EVT_TOK_REGEN : FRef := ⟨0x3, 0x014, 8, 8⟩
def RING_EVT_MIR_RESEND : FRef := ⟨0x3, 0x014, 7, 7⟩
def RING_EVT_FWD_LOST : FRef := ⟨0x3, 0x014, 6, 6⟩
def RING_EVT_LINK_DOWN : FRef := ⟨0x3, 0x014, 5, 5⟩
def RING_EVT_RENUMBER : FRef := ⟨0x3, 0x014, 4, 4⟩
def RING_EVT_OVERSIZE : FRef := ⟨0x3, 0x014, 3, 3⟩
def RING_EVT_MULTI_ANCHOR : FRef := ⟨0x3, 0x014, 2, 2⟩
def RING_EVT_DISC_FAIL : FRef := ⟨0x3, 0x014, 1, 1⟩
def RING_EVT_DISC_DONE : FRef := ⟨0x3, 0x014, 0, 0⟩
def SCHD_CTL_GAMBIT_EN : FRef := ⟨0x10, 0x008, 4, 4⟩
def SCHD_CTL_RTADM_EN : FRef := ⟨0x10, 0x008, 3, 3⟩
def SCHD_CTL_SLACK_EN : FRef := ⟨0x10, 0x008, 2, 2⟩
def SCHD_PCTL_PLIFE : FRef := ⟨0x10, 0x040, 3, 0⟩
def SCHD_SLACK_RT_MARGIN : FRef := ⟨0x10, 0x044, 27, 16⟩
def SCHD_SLACK_MARGIN : FRef := ⟨0x10, 0x044, 11, 0⟩
def SCHD_SVC_CONFL : FRef := ⟨0x10, 0x048, 23, 16⟩
def SCHD_SVC_EMPTY : FRef := ⟨0x10, 0x048, 15, 8⟩
def SCHD_SVC_HIT : FRef := ⟨0x10, 0x048, 7, 0⟩
def SCHD_QCAP_RD : FRef := ⟨0x10, 0x04c, 24, 16⟩
def SCHD_QCAP_WR : FRef := ⟨0x10, 0x04c, 8, 0⟩
def SCHD_WDRN_MAXBRK : FRef := ⟨0x10, 0x050, 27, 24⟩
def SCHD_WDRN_WHI : FRef := ⟨0x10, 0x050, 23, 16⟩
def SCHD_WDRN_WLO : FRef := ⟨0x10, 0x050, 7, 0⟩
def SCHD_RTADM_BANKQ : FRef := ⟨0x10, 0x054, 27, 24⟩
def SCHD_RTADM_DEPTH : FRef := ⟨0x10, 0x054, 21, 16⟩
def SCHD_RTADM_RATE : FRef := ⟨0x10, 0x054, 9, 0⟩
def SCHD_RTBND_VALID : FRef := ⟨0x10, 0x058, 31, 31⟩
def SCHD_RTBND_WCRT : FRef := ⟨0x10, 0x058, 15, 0⟩
def SCHD_GTMO0_T3 : FRef := ⟨0x10, 0x05c, 31, 24⟩
def SCHD_GTMO0_T2 : FRef := ⟨0x10, 0x05c, 23, 16⟩
def SCHD_GTMO0_T1 : FRef := ⟨0x10, 0x05c, 15, 8⟩
def SCHD_GTMO0_T0 : FRef := ⟨0x10, 0x05c, 7, 0⟩
def SCHD_GTMO1_T7 : FRef := ⟨0x10, 0x060, 31, 24⟩
def SCHD_GTMO1_T6 : FRef := ⟨0x10, 0x060, 23, 16⟩
def SCHD_GTMO1_T5 : FRef := ⟨0x10, 0x060, 15, 8⟩
def SCHD_GTMO1_T4 : FRef := ⟨0x10, 0x060, 7, 0⟩
def SCHD_CNT0_UNADM : FRef := ⟨0x10, 0x064, 31, 16⟩
def SCHD_CNT0_REFUSE : FRef := ⟨0x10, 0x064, 15, 0⟩
def SCHD_CNT1_DRAIN : FRef := ⟨0x10, 0x068, 31, 24⟩
def SCHD_CNT1_LATE : FRef := ⟨0x10, 0x068, 23, 12⟩
def SCHD_CNT1_PASS : FRef := ⟨0x10, 0x068, 11, 0⟩
def SCHD_EVT_STATE_RELOAD : FRef := ⟨0x10, 0x014, 3, 3⟩
def SCHD_EVT_RTADM_REFUSED : FRef := ⟨0x10, 0x014, 2, 2⟩
def SCHD_EVT_RT_LATE : FRef := ⟨0x10, 0x014, 1, 1⟩
def SCHD_EVT_UNADMIT : FRef := ⟨0x10, 0x014, 0, 0⟩
def BENG_IDX_SPACE : FRef := ⟨0x13, 0x040, 31, 28⟩
def BENG_IDX_AINC : FRef := ⟨0x13, 0x040, 27, 27⟩
def BENG_IDX_INDEX : FRef := ⟨0x13, 0x040, 11, 0⟩
def BENG_DATA_DATA : FRef := ⟨0x13, 0x044, 31, 0⟩
def TIMG_STAT_PENDING : FRef := ⟨0x11, 0x010, 31, 31⟩
def TIMG_STAT_MTYPE : FRef := ⟨0x11, 0x010, 8, 8⟩
def TIMG_STAT_RATE : FRef := ⟨0x11, 0x010, 7, 0⟩
def TIMG_MODE_MTYPE : FRef := ⟨0x11, 0x040, 8, 8⟩
def TIMG_MODE_RATE : FRef := ⟨0x11, 0x040, 7, 0⟩
def TIMG_LAT_CRCW : FRef := ⟨0x11, 0x044, 29, 24⟩
def TIMG_LAT_MBL : FRef := ⟨0x11, 0x044, 19, 16⟩
def TIMG_LAT_CL : FRef := ⟨0x11, 0x044, 6, 0⟩
def TIMG_ACT_RAS : FRef := ⟨0x11, 0x048, 31, 24⟩
def TIMG_ACT_RP : FRef := ⟨0x11, 0x048, 22, 16⟩
def TIMG_ACT_RCD : FRef := ⟨0x11, 0x048, 6, 0⟩
def TIMG_COL_WR : FRef := ⟨0x11, 0x04c, 23, 16⟩
def TIMG_COL_RTP : FRef := ⟨0x11, 0x04c, 5, 0⟩
def TIMG_CCD_CCD_L_WR : FRef := ⟨0x11, 0x050, 22, 16⟩
def TIMG_CCD_CCD_L : FRef := ⟨0x11, 0x050, 13, 8⟩
def TIMG_CCD_CCD_S : FRef := ⟨0x11, 0x050, 4, 0⟩
def TIMG_RRD_FAW : FRef := ⟨0x11, 0x054, 22, 16⟩
def TIMG_RRD_RRD_L : FRef := ⟨0x11, 0x054, 13, 8⟩
def TIMG_RRD_RRD_S : FRef := ⟨0x11, 0x054, 4, 0⟩
def TIMG_WTR_WTR_L : FRef := ⟨0x11, 0x058, 14, 8⟩
def TIMG_WTR_WTR_S : FRef := ⟨0x11, 0x058, 4, 0⟩
def TIMG_RFC_RFCSB : FRef := ⟨0x11, 0x05c, 27, 16⟩
def TIMG_RFC_RFCAB : FRef := ⟨0x11, 0x05c, 11, 0⟩
def TIMG_RFM_RFMSB : FRef := ⟨0x11, 0x060, 27, 16⟩
def TIMG_RFM_RFMAB : FRef := ⟨0x11, 0x060, 11, 0⟩
def TIMG_RFC2_REFSBRD : FRef := ⟨0x11, 0x064, 7, 0⟩
def TIMG_MR_MRR : FRef := ⟨0x11, 0x068, 21, 16⟩
def TIMG_MR_MRW : FRef := ⟨0x11, 0x068, 13, 8⟩
def TIMG_MR_MRD : FRef := ⟨0x11, 0x068, 6, 0⟩
def TIMG_ZQ_ZQ_INT : FRef := ⟨0x11, 0x06c, 31, 24⟩
def TIMG_ZQ_ZQLAT : FRef := ⟨0x11, 0x06c, 23, 16⟩
def TIMG_ZQ_ZQCAL : FRef := ⟨0x11, 0x06c, 10, 0⟩
def TIMG_SR_CPDED : FRef := ⟨0x11, 0x070, 28, 24⟩
def TIMG_SR_CKLCS : FRef := ⟨0x11, 0x070, 21, 16⟩
def TIMG_SR_CKSRX : FRef := ⟨0x11, 0x070, 13, 8⟩
def TIMG_XS_XSDLL : FRef := ⟨0x11, 0x074, 27, 16⟩
def TIMG_XS_XS : FRef := ⟨0x11, 0x074, 11, 0⟩
def TIMG_TURN_PC : FRef := ⟨0x11, 0x078, 18, 16⟩
def TIMG_TURN_WRRS : FRef := ⟨0x11, 0x078, 15, 12⟩
def TIMG_TURN_WWRS : FRef := ⟨0x11, 0x078, 11, 8⟩
def TIMG_TURN_RRRS : FRef := ⟨0x11, 0x078, 7, 4⟩
def TIMG_TURN_RW : FRef := ⟨0x11, 0x078, 3, 0⟩
def TIMG_MRCMD_GO : FRef := ⟨0x11, 0x080, 31, 31⟩
def TIMG_MRCMD_OP : FRef := ⟨0x11, 0x080, 30, 30⟩
def TIMG_MRCMD_CH : FRef := ⟨0x11, 0x080, 29, 28⟩
def TIMG_MRCMD_SC : FRef := ⟨0x11, 0x080, 27, 27⟩
def TIMG_MRCMD_RK : FRef := ⟨0x11, 0x080, 26, 26⟩
def TIMG_MRCMD_MA : FRef := ⟨0x11, 0x080, 23, 16⟩
def TIMG_MRCMD_WDATA : FRef := ⟨0x11, 0x080, 7, 0⟩
def TIMG_MRDAT0_DEV3_0 : FRef := ⟨0x11, 0x084, 31, 0⟩
def TIMG_MRDAT1_DEV7_4 : FRef := ⟨0x11, 0x088, 31, 0⟩
def TIMG_MRDAT2_DEV9_8 : FRef := ⟨0x11, 0x08c, 15, 0⟩
def TIMG_EVT_ZQ_LATE : FRef := ⟨0x11, 0x014, 3, 3⟩
def TIMG_EVT_MR_ABORT : FRef := ⟨0x11, 0x014, 2, 2⟩
def TIMG_EVT_MR_DONE : FRef := ⟨0x11, 0x014, 1, 1⟩
def TIMG_EVT_REFUSED : FRef := ⟨0x11, 0x014, 0, 0⟩
def REFD_RCTL_AB : FRef := ⟨0x12, 0x040, 31, 28⟩
def REFD_RCTL_TOKEN_EN : FRef := ⟨0x12, 0x040, 27, 27⟩
def REFD_RCTL_TEMP_EN : FRef := ⟨0x12, 0x040, 26, 26⟩
def REFD_RCTL_PULLMAX : FRef := ⟨0x12, 0x040, 25, 23⟩
def REFD_RCTL_POSTMAX : FRef := ⟨0x12, 0x040, 22, 20⟩
def REFD_RCTL_TREFI : FRef := ⟨0x12, 0x040, 12, 0⟩
def REFD_EPOCH_ERC : FRef := ⟨0x12, 0x044, 6, 0⟩
def REFD_RHCTL_BUDGET_EN : FRef := ⟨0x12, 0x048, 31, 31⟩
def REFD_RHCTL_PRAC_EN : FRef := ⟨0x12, 0x048, 30, 30⟩
def REFD_RHCTL_NBR : FRef := ⟨0x12, 0x048, 29, 29⟩
def REFD_RHCTL_BLAST : FRef := ⟨0x12, 0x048, 26, 25⟩
def REFD_RHCTL_T : FRef := ⟨0x12, 0x048, 15, 0⟩
def REFD_ALRT_PAR_WIN : FRef := ⟨0x12, 0x04c, 23, 16⟩
def REFD_ALRT_NRFM : FRef := ⟨0x12, 0x04c, 9, 8⟩
def REFD_ALRT_CRC_RETRY : FRef := ⟨0x12, 0x04c, 3, 0⟩
def REFD_THR_PWAIT : FRef := ⟨0x12, 0x050, 11, 8⟩
def REFD_THR_QMAX : FRef := ⟨0x12, 0x050, 7, 0⟩
def REFD_TSEL_ENG : FRef := ⟨0x12, 0x054, 8, 0⟩
def REFD_TEMP_RATE : FRef := ⟨0x12, 0x058, 15, 0⟩
def REFD_CNT0_MIT_RFM : FRef := ⟨0x12, 0x05c, 31, 16⟩
def REFD_CNT0_MIT_NBR : FRef := ⟨0x12, 0x05c, 15, 0⟩
def REFD_CNT1_THROT : FRef := ⟨0x12, 0x060, 31, 16⟩
def REFD_CNT1_FORCED : FRef := ⟨0x12, 0x060, 15, 0⟩
def REFD_CNT2_ABO : FRef := ⟨0x12, 0x064, 29, 20⟩
def REFD_CNT2_CRC : FRef := ⟨0x12, 0x064, 19, 10⟩
def REFD_CNT2_PAR : FRef := ⟨0x12, 0x064, 9, 0⟩
def REFD_EVT_ALERT_UNK : FRef := ⟨0x12, 0x014, 6, 6⟩
def REFD_EVT_ABO : FRef := ⟨0x12, 0x014, 5, 5⟩
def REFD_EVT_CRC_FAIL : FRef := ⟨0x12, 0x014, 4, 4⟩
def REFD_EVT_THROTTLE : FRef := ⟨0x12, 0x014, 3, 3⟩
def REFD_EVT_TEMP_CHG : FRef := ⟨0x12, 0x014, 2, 2⟩
def REFD_EVT_OVERTEMP : FRef := ⟨0x12, 0x014, 1, 1⟩
def REFD_EVT_REF_LATE : FRef := ⟨0x12, 0x014, 0, 0⟩
def ECCS_SCRB_EN : FRef := ⟨0x14, 0x040, 31, 31⟩
def ECCS_SCRB_CATCH : FRef := ⟨0x14, 0x040, 19, 16⟩
def ECCS_SCRB_PERIOD : FRef := ⟨0x14, 0x040, 7, 0⟩
def ECCS_RPT_EN : FRef := ⟨0x14, 0x044, 31, 31⟩
def ECCS_RPT_WIN : FRef := ⟨0x14, 0x044, 15, 0⟩
def ECCS_DEVCFG_DECAY : FRef := ⟨0x14, 0x048, 23, 16⟩
def ECCS_DEVCFG_THR : FRef := ⟨0x14, 0x048, 7, 0⟩
def ECCS_ERS_SLOTS (j : Nat) : FRef := ⟨0x14, 0x074 + 4 * j, 31, 0⟩
def ECCS_SCRPOS_POS (n : Nat) : FRef := ⟨0x14, 0x050 + 4 * n, 31, 0⟩
def ECCS_SCRPASS_PASS3 : FRef := ⟨0x14, 0x060, 31, 24⟩
def ECCS_SCRPASS_PASS2 : FRef := ⟨0x14, 0x060, 23, 16⟩
def ECCS_SCRPASS_PASS1 : FRef := ⟨0x14, 0x060, 15, 8⟩
def ECCS_SCRPASS_PASS0 : FRef := ⟨0x14, 0x060, 7, 0⟩
def ECCS_CNT0_CORR : FRef := ⟨0x14, 0x064, 31, 16⟩
def ECCS_CNT0_UE : FRef := ⟨0x14, 0x064, 15, 0⟩
def ECCS_CNT1_POISON : FRef := ⟨0x14, 0x068, 31, 16⟩
def ECCS_CNT1_ADDR : FRef := ⟨0x14, 0x068, 15, 0⟩
def ECCS_CNT2_SFIX : FRef := ⟨0x14, 0x06c, 31, 16⟩
def ECCS_CNT2_SUE : FRef := ⟨0x14, 0x06c, 15, 0⟩
def ECCS_CNT3_DIRECT : FRef := ⟨0x14, 0x070, 31, 16⟩
def ECCS_CNT3_EVICT : FRef := ⟨0x14, 0x070, 15, 0⟩
def ECCS_DSEL_CLR : FRef := ⟨0x14, 0x084, 31, 31⟩
def ECCS_DSEL_RSEL : FRef := ⟨0x14, 0x084, 3, 0⟩
def ECCS_DCNT0_G3_0 : FRef := ⟨0x14, 0x088, 31, 0⟩
def ECCS_DCNT1_G7_4 : FRef := ⟨0x14, 0x08c, 31, 0⟩
def ECCS_DCNT2_G9_8 : FRef := ⟨0x14, 0x090, 15, 0⟩
def ECCS_PCON0_P3_0 : FRef := ⟨0x14, 0x094, 31, 0⟩
def ECCS_PCON1_P7_4 : FRef := ⟨0x14, 0x098, 31, 0⟩
def ECCS_PCON2_P11_8 : FRef := ⟨0x14, 0x09c, 31, 0⟩
def ECCS_PCON3_P15_12 : FRef := ⟨0x14, 0x0a0, 31, 0⟩
def ECCS_ZCON0_Z3_0 : FRef := ⟨0x14, 0x0a4, 31, 0⟩
def ECCS_ZCON1_Z7_4 : FRef := ⟨0x14, 0x0a8, 31, 0⟩
def ECCS_ZCON2_Z11_8 : FRef := ⟨0x14, 0x0ac, 31, 0⟩
def ECCS_ZCON3_Z15_12 : FRef := ⟨0x14, 0x0b0, 31, 0⟩
def ECCS_INJ_ARM : FRef := ⟨0x14, 0x0b4, 31, 31⟩
def ECCS_INJ_CH : FRef := ⟨0x14, 0x0b4, 30, 29⟩
def ECCS_INJ_SC : FRef := ⟨0x14, 0x0b4, 28, 28⟩
def ECCS_INJ_GROUP : FRef := ⟨0x14, 0x0b4, 27, 24⟩
def ECCS_INJ_SYM : FRef := ⟨0x14, 0x0b4, 23, 16⟩
def ECCS_INJ_XV : FRef := ⟨0x14, 0x0b4, 7, 0⟩
def ECCS_RSEL_SEL : FRef := ⟨0x14, 0x0b8, 4, 0⟩
def ECCS_RINFO0_VLD : FRef := ⟨0x14, 0x0bc, 31, 31⟩
def ECCS_RINFO0_WATCH : FRef := ⟨0x14, 0x0bc, 30, 30⟩
def ECCS_RINFO0_CH : FRef := ⟨0x14, 0x0bc, 29, 28⟩
def ECCS_RINFO0_GROUP : FRef := ⟨0x14, 0x0bc, 27, 24⟩
def ECCS_RINFO0_COUNT : FRef := ⟨0x14, 0x0bc, 23, 21⟩
def ECCS_RINFO1_L : FRef := ⟨0x14, 0x0c0, 31, 0⟩
def ECCS_EVT_INJ_DONE : FRef := ⟨0x14, 0x014, 7, 7⟩
def ECCS_EVT_ERS_BUSY : FRef := ⟨0x14, 0x014, 6, 6⟩
def ECCS_EVT_SCRUB_LATE : FRef := ⟨0x14, 0x014, 5, 5⟩
def ECCS_EVT_DEV_OVER : FRef := ⟨0x14, 0x014, 4, 4⟩
def ECCS_EVT_SCRUB_UE : FRef := ⟨0x14, 0x014, 3, 3⟩
def ECCS_EVT_ADDR : FRef := ⟨0x14, 0x014, 2, 2⟩
def ECCS_EVT_UE : FRef := ⟨0x14, 0x014, 1, 1⟩
def ECCS_EVT_CORR : FRef := ⟨0x14, 0x014, 0, 0⟩
def RPMR_CFG_CRIT : FRef := ⟨0x15, 0x040, 27, 24⟩
def RPMR_CFG_ROWTHR : FRef := ⟨0x15, 0x040, 19, 16⟩
def RPMR_CFG_AUTO_CASTLE : FRef := ⟨0x15, 0x040, 2, 2⟩
def RPMR_CFG_RR_EN : FRef := ⟨0x15, 0x040, 1, 1⟩
def RPMR_CFG_RM_EN : FRef := ⟨0x15, 0x040, 0, 0⟩
def RPMR_MCFG_RRTHR : FRef := ⟨0x15, 0x044, 15, 0⟩
def RPMR_MCTL_RETIRE : FRef := ⟨0x15, 0x048, 11, 8⟩
def RPMR_MCTL_CASTLE : FRef := ⟨0x15, 0x048, 3, 0⟩
def RPMR_CHSTAT_STATE : FRef := ⟨0x15, 0x04c, 15, 0⟩
def RPMR_DGRSN_CHFAIL : FRef := ⟨0x15, 0x050, 3, 3⟩
def RPMR_DGRSN_SPARE : FRef := ⟨0x15, 0x050, 2, 2⟩
def RPMR_DGRSN_CASTLE : FRef := ⟨0x15, 0x050, 1, 1⟩
def RPMR_DGRSN_ERASE : FRef := ⟨0x15, 0x050, 0, 0⟩
def RPMR_RMREQ_GO : FRef := ⟨0x15, 0x054, 31, 31⟩
def RPMR_RMREQ_CH : FRef := ⟨0x15, 0x054, 30, 29⟩
def RPMR_RMREQ_SC : FRef := ⟨0x15, 0x054, 28, 28⟩
def RPMR_RMREQ_RK : FRef := ⟨0x15, 0x054, 27, 27⟩
def RPMR_RMREQ_BANK : FRef := ⟨0x15, 0x054, 26, 22⟩
def RPMR_RMREQ_ROW : FRef := ⟨0x15, 0x054, 17, 0⟩
def RPMR_ERSREQ_GO : FRef := ⟨0x15, 0x058, 31, 31⟩
def RPMR_ERSREQ_CH : FRef := ⟨0x15, 0x058, 30, 29⟩
def RPMR_ERSREQ_SC : FRef := ⟨0x15, 0x058, 28, 28⟩
def RPMR_ERSREQ_RK : FRef := ⟨0x15, 0x058, 27, 27⟩
def RPMR_ERSREQ_GROUP : FRef := ⟨0x15, 0x058, 3, 0⟩
def RPMR_RMSEL_SEL : FRef := ⟨0x15, 0x05c, 3, 0⟩
def RPMR_RMINFO0_VLD : FRef := ⟨0x15, 0x060, 31, 31⟩
def RPMR_RMINFO0_COPY : FRef := ⟨0x15, 0x060, 30, 30⟩
def RPMR_RMINFO0_CH : FRef := ⟨0x15, 0x060, 29, 28⟩
def RPMR_RMINFO0_SC : FRef := ⟨0x15, 0x060, 27, 27⟩
def RPMR_RMINFO0_RK : FRef := ⟨0x15, 0x060, 26, 26⟩
def RPMR_RMINFO0_BANK : FRef := ⟨0x15, 0x060, 25, 21⟩
def RPMR_RMINFO0_SPIDX : FRef := ⟨0x15, 0x060, 20, 17⟩
def RPMR_RMINFO1_ROW : FRef := ⟨0x15, 0x064, 17, 0⟩
def RPMR_PPRIDX_AINC : FRef := ⟨0x15, 0x068, 31, 31⟩
def RPMR_PPRIDX_NENT : FRef := ⟨0x15, 0x068, 22, 16⟩
def RPMR_PPRIDX_ENTRY : FRef := ⟨0x15, 0x068, 5, 0⟩
def RPMR_PPRW0_CH : FRef := ⟨0x15, 0x06c, 31, 30⟩
def RPMR_PPRW0_SC : FRef := ⟨0x15, 0x06c, 29, 29⟩
def RPMR_PPRW0_RK : FRef := ⟨0x15, 0x06c, 28, 28⟩
def RPMR_PPRW0_BANK : FRef := ⟨0x15, 0x06c, 27, 23⟩
def RPMR_PPRW0_ROW : FRef := ⟨0x15, 0x06c, 17, 0⟩
def RPMR_PPRW1_STATE : FRef := ⟨0x15, 0x070, 31, 30⟩
def RPMR_PPRW1_DEVMASK : FRef := ⟨0x15, 0x070, 9, 0⟩
def RPMR_PSEL_SEL : FRef := ⟨0x15, 0x074, 3, 0⟩
def RPMR_PINFO0_VLD : FRef := ⟨0x15, 0x078, 31, 31⟩
def RPMR_PINFO0_REASON : FRef := ⟨0x15, 0x078, 30, 28⟩
def RPMR_PINFO0_CH : FRef := ⟨0x15, 0x078, 27, 26⟩
def RPMR_PINFO0_SC : FRef := ⟨0x15, 0x078, 25, 25⟩
def RPMR_PINFO0_RK : FRef := ⟨0x15, 0x078, 24, 24⟩
def RPMR_PINFO0_BANK : FRef := ⟨0x15, 0x078, 23, 19⟩
def RPMR_PINFO0_DEVMASK : FRef := ⟨0x15, 0x078, 9, 0⟩
def RPMR_PINFO1_ROW : FRef := ⟨0x15, 0x07c, 17, 0⟩
def RPMR_CNT0_RREP : FRef := ⟨0x15, 0x080, 31, 16⟩
def RPMR_CNT0_RMAP : FRef := ⟨0x15, 0x080, 15, 0⟩
def RPMR_CNT1_RRFAIL : FRef := ⟨0x15, 0x084, 31, 16⟩
def RPMR_CNT1_RMREF : FRef := ⟨0x15, 0x084, 15, 0⟩
def RPMR_EVT_CHFAIL : FRef := ⟨0x15, 0x014, 12, 12⟩
def RPMR_EVT_PPR_FAIL : FRef := ⟨0x15, 0x014, 11, 11⟩
def RPMR_EVT_PPR_DONE : FRef := ⟨0x15, 0x014, 10, 10⟩
def RPMR_EVT_PROP_OVF : FRef := ⟨0x15, 0x014, 9, 9⟩
def RPMR_EVT_PROP : FRef := ⟨0x15, 0x014, 8, 8⟩
def RPMR_EVT_RETIRED : FRef := ⟨0x15, 0x014, 7, 7⟩
def RPMR_EVT_CASTLED : FRef := ⟨0x15, 0x014, 6, 6⟩
def RPMR_EVT_RR_FAIL : FRef := ⟨0x15, 0x014, 5, 5⟩
def RPMR_EVT_RREP : FRef := ⟨0x15, 0x014, 4, 4⟩
def RPMR_EVT_SECOND_DEV : FRef := ⟨0x15, 0x014, 3, 3⟩
def RPMR_EVT_ERASED : FRef := ⟨0x15, 0x014, 2, 2⟩
def RPMR_EVT_RM_REFUSED : FRef := ⟨0x15, 0x014, 1, 1⟩
def RPMR_EVT_REMAP : FRef := ⟨0x15, 0x014, 0, 0⟩
def TRAIN_CTL_RETRY : FRef := ⟨0x16, 0x040, 18, 16⟩
def TRAIN_CTL_SAMPLES : FRef := ⟨0x16, 0x040, 13, 4⟩
def TRAIN_CTL_DFE_EN : FRef := ⟨0x16, 0x040, 1, 1⟩
def TRAIN_CTL_ERS_OK : FRef := ⟨0x16, 0x040, 0, 0⟩
def TRAIN_CRIT_MINW_CA : FRef := ⟨0x16, 0x044, 26, 18⟩
def TRAIN_CRIT_MINW_WR : FRef := ⟨0x16, 0x044, 17, 9⟩
def TRAIN_CRIT_MINW_RD : FRef := ⟨0x16, 0x044, 8, 0⟩
def TRAIN_STAT_STATE : FRef := ⟨0x16, 0x048, 15, 0⟩
def TRAIN_DUR_DUR : FRef := ⟨0x16, 0x04c, 31, 0⟩
def TRAIN_FAIL_VLD : FRef := ⟨0x16, 0x050, 31, 31⟩
def TRAIN_FAIL_CH : FRef := ⟨0x16, 0x050, 30, 29⟩
def TRAIN_FAIL_SC : FRef := ⟨0x16, 0x050, 28, 28⟩
def TRAIN_FAIL_RK : FRef := ⟨0x16, 0x050, 27, 27⟩
def TRAIN_FAIL_STEP : FRef := ⟨0x16, 0x050, 26, 24⟩
def TRAIN_FAIL_GROUP : FRef := ⟨0x16, 0x050, 23, 20⟩
def TRAIN_FAIL_REASON : FRef := ⟨0x16, 0x050, 19, 16⟩
def TRAIN_EVT_RETRY : FRef := ⟨0x16, 0x014, 4, 4⟩
def TRAIN_EVT_ALL_FAIL : FRef := ⟨0x16, 0x014, 3, 3⟩
def TRAIN_EVT_GRP_ERASE : FRef := ⟨0x16, 0x014, 2, 2⟩
def TRAIN_EVT_CH_FAIL : FRef := ⟨0x16, 0x014, 1, 1⟩
def TRAIN_EVT_DONE : FRef := ⟨0x16, 0x014, 0, 0⟩
def CHN_CFG_X8 (p : Nat) : FRef := ⟨0x18 + p, 0x040, 1, 1⟩
def CHN_CFG_POP (p : Nat) : FRef := ⟨0x18 + p, 0x040, 0, 0⟩
def CHN_ODT_DRAM_DRV (p : Nat) : FRef := ⟨0x18 + p, 0x044, 25, 24⟩
def CHN_ODT_PHY_DRV (p : Nat) : FRef := ⟨0x18 + p, 0x044, 23, 21⟩
def CHN_ODT_PHY_RTT (p : Nat) : FRef := ⟨0x18 + p, 0x044, 20, 18⟩
def CHN_ODT_RTT_PARK (p : Nat) : FRef := ⟨0x18 + p, 0x044, 17, 15⟩
def CHN_ODT_RTT_WR (p : Nat) : FRef := ⟨0x18 + p, 0x044, 14, 12⟩
def CHN_ODT_RTT_NOM_WR (p : Nat) : FRef := ⟨0x18 + p, 0x044, 11, 9⟩
def CHN_ODT_RTT_NOM_RD (p : Nat) : FRef := ⟨0x18 + p, 0x044, 8, 6⟩
def CHN_PLL_LOCK (p : Nat) : FRef := ⟨0x18 + p, 0x048, 31, 31⟩
def CHN_PLL_LOSS (p : Nat) : FRef := ⟨0x18 + p, 0x048, 23, 16⟩
def CHN_PLL_RELOCK (p : Nat) : FRef := ⟨0x18 + p, 0x048, 15, 8⟩
def CHN_PLL_LOCKT (p : Nat) : FRef := ⟨0x18 + p, 0x048, 7, 0⟩
def CHN_TEMP_VALID (p : Nat) : FRef := ⟨0x18 + p, 0x04c, 31, 31⟩
def CHN_TEMP_T (p : Nat) : FRef := ⟨0x18 + p, 0x04c, 10, 0⟩
def CHN_ZQ_DONE (p : Nat) : FRef := ⟨0x18 + p, 0x050, 31, 31⟩
def CHN_ZQ_ERR (p : Nat) : FRef := ⟨0x18 + p, 0x050, 30, 30⟩
def CHN_ZQ_PU (p : Nat) : FRef := ⟨0x18 + p, 0x050, 13, 8⟩
def CHN_ZQ_PD (p : Nat) : FRef := ⟨0x18 + p, 0x050, 5, 0⟩
def CHN_TSEL_SC (p : Nat) : FRef := ⟨0x18 + p, 0x054, 5, 5⟩
def CHN_TSEL_RK (p : Nat) : FRef := ⟨0x18 + p, 0x054, 4, 4⟩
def CHN_TSEL_GRP (p : Nat) : FRef := ⟨0x18 + p, 0x054, 3, 0⟩
def CHN_TRIM0_WR_DLY (p : Nat) : FRef := ⟨0x18 + p, 0x058, 31, 23⟩
def CHN_TRIM0_RD_DLY (p : Nat) : FRef := ⟨0x18 + p, 0x058, 22, 14⟩
def CHN_TRIM0_HVREF (p : Nat) : FRef := ⟨0x18 + p, 0x058, 6, 0⟩
def CHN_TRIM1_WL_C (p : Nat) : FRef := ⟨0x18 + p, 0x05c, 31, 29⟩
def CHN_TRIM1_WL_F (p : Nat) : FRef := ⟨0x18 + p, 0x05c, 28, 20⟩
def CHN_TRIM1_GATE_C (p : Nat) : FRef := ⟨0x18 + p, 0x05c, 19, 16⟩
def CHN_TRIM1_GATE_F (p : Nat) : FRef := ⟨0x18 + p, 0x05c, 15, 7⟩
def CHN_TRIM1_DVREF (p : Nat) : FRef := ⟨0x18 + p, 0x05c, 6, 0⟩
def CHN_TRIM2_RDSK (p : Nat) : FRef := ⟨0x18 + p, 0x060, 23, 0⟩
def CHN_TRIM3_DFE (p : Nat) : FRef := ⟨0x18 + p, 0x064, 31, 29⟩
def CHN_TRIM3_WDSK (p : Nat) : FRef := ⟨0x18 + p, 0x064, 23, 0⟩
def CHN_TRIM4_CA_DLY (p : Nat) : FRef := ⟨0x18 + p, 0x068, 31, 23⟩
def CHN_TRIM4_CS_DLY (p : Nat) : FRef := ⟨0x18 + p, 0x068, 22, 14⟩
def CHN_TRIM4_VREFCA (p : Nat) : FRef := ⟨0x18 + p, 0x068, 13, 7⟩
def CHN_TRIM4_VREFCS (p : Nat) : FRef := ⟨0x18 + p, 0x068, 6, 0⟩
def CHN_EYE_CA_W (p : Nat) : FRef := ⟨0x18 + p, 0x06c, 26, 18⟩
def CHN_EYE_WR_W (p : Nat) : FRef := ⟨0x18 + p, 0x06c, 17, 9⟩
def CHN_EYE_RD_W (p : Nat) : FRef := ⟨0x18 + p, 0x06c, 8, 0⟩
def CHN_EVT_RELOCK_FAIL (p : Nat) : FRef := ⟨0x18 + p, 0x014, 3, 3⟩
def CHN_EVT_RELOCK (p : Nat) : FRef := ⟨0x18 + p, 0x014, 2, 2⟩
def CHN_EVT_LOCK_LOST (p : Nat) : FRef := ⟨0x18 + p, 0x014, 1, 1⟩
def CHN_EVT_ZQ_ERR (p : Nat) : FRef := ⟨0x18 + p, 0x014, 0, 0⟩
def BOOK_LCTL_EP_EN : FRef := ⟨0x17, 0x040, 31, 31⟩
def BOOK_LCTL_WR_EN : FRef := ⟨0x17, 0x040, 30, 30⟩
def BOOK_LCTL_INTERP_EN : FRef := ⟨0x17, 0x040, 29, 29⟩
def BOOK_LCTL_DRIFT : FRef := ⟨0x17, 0x040, 23, 16⟩
def BOOK_LCTL_GAPWAIT : FRef := ⟨0x17, 0x040, 15, 8⟩
def BOOK_LCTL_PERIOD : FRef := ⟨0x17, 0x040, 7, 0⟩
def BOOK_EPCTL_SPAN : FRef := ⟨0x17, 0x044, 23, 16⟩
def BOOK_EPCTL_STRIDE : FRef := ⟨0x17, 0x044, 15, 12⟩
def BOOK_EPCTL_ERRMAX : FRef := ⟨0x17, 0x044, 11, 8⟩
def BOOK_EPCTL_SAMPLES : FRef := ⟨0x17, 0x044, 7, 0⟩
def BOOK_PROBE_RUNTMO : FRef := ⟨0x17, 0x048, 31, 24⟩
def BOOK_PROBE_PRATE : FRef := ⟨0x17, 0x048, 23, 16⟩
def BOOK_PROBE_WLINES : FRef := ⟨0x17, 0x048, 11, 8⟩
def BOOK_PROBE_PWAIT : FRef := ⟨0x17, 0x048, 7, 0⟩
def BOOK_RUN_STATE : FRef := ⟨0x17, 0x04c, 31, 0⟩
def BOOK_PASS_LAST (n : Nat) : FRef := ⟨0x17, 0x050 + 4 * n, 31, 0⟩
def BOOK_CNT0_RUNS : FRef := ⟨0x17, 0x060, 31, 16⟩
def BOOK_CNT0_DISAGREE : FRef := ⟨0x17, 0x060, 15, 0⟩
def BOOK_CNT1_PROBES : FRef := ⟨0x17, 0x064, 31, 16⟩
def BOOK_CNT1_ABORT : FRef := ⟨0x17, 0x064, 15, 0⟩
def BOOK_CNT2_GAPINS : FRef := ⟨0x17, 0x068, 31, 16⟩
def BOOK_CNT2_SKIP : FRef := ⟨0x17, 0x068, 15, 0⟩
def BOOK_SEL_POINT : FRef := ⟨0x17, 0x070, 12, 10⟩
def BOOK_SEL_CH : FRef := ⟨0x17, 0x070, 9, 8⟩
def BOOK_SEL_SC : FRef := ⟨0x17, 0x070, 7, 7⟩
def BOOK_SEL_RK : FRef := ⟨0x17, 0x070, 6, 6⟩
def BOOK_SEL_GRP : FRef := ⟨0x17, 0x070, 3, 0⟩
def BOOK_ENT0_WR_DLY : FRef := ⟨0x17, 0x074, 31, 23⟩
def BOOK_ENT0_RD_DLY : FRef := ⟨0x17, 0x074, 22, 14⟩
def BOOK_ENT0_HVREF : FRef := ⟨0x17, 0x074, 6, 0⟩
def BOOK_ENT1_RM : FRef := ⟨0x17, 0x078, 31, 31⟩
def BOOK_ENT1_RTHETA : FRef := ⟨0x17, 0x078, 30, 20⟩
def BOOK_ENT1_WM : FRef := ⟨0x17, 0x078, 15, 15⟩
def BOOK_ENT1_WTHETA : FRef := ⟨0x17, 0x078, 14, 4⟩
def BOOK_ENT2_RDSK : FRef := ⟨0x17, 0x07c, 23, 0⟩
def BOOK_ENT3_WDSK : FRef := ⟨0x17, 0x080, 23, 0⟩
def BOOK_EVT_SKIP : FRef := ⟨0x17, 0x014, 5, 5⟩
def BOOK_EVT_EP_ERASE : FRef := ⟨0x17, 0x014, 4, 4⟩
def BOOK_EVT_DISAGREE : FRef := ⟨0x17, 0x014, 3, 3⟩
def BOOK_EVT_ABORT : FRef := ⟨0x17, 0x014, 2, 2⟩
def BOOK_EVT_DRIFT_PASS : FRef := ⟨0x17, 0x014, 1, 1⟩
def BOOK_EVT_PASS_DONE : FRef := ⟨0x17, 0x014, 0, 0⟩
def CRYP_CFG_HALT_CLR : FRef := ⟨0x6, 0x040, 1, 1⟩
def CRYP_CFG_PRESENT : FRef := ⟨0x6, 0x040, 0, 0⟩
def CRYP_KSTAT_CLEARED : FRef := ⟨0x6, 0x044, 31, 31⟩
def CRYP_KSTAT_VERIFY_FAIL : FRef := ⟨0x6, 0x044, 30, 30⟩
def CRYP_KSTAT_TAMPER : FRef := ⟨0x6, 0x044, 29, 29⟩
def CRYP_KSTAT_CAUSE : FRef := ⟨0x6, 0x044, 28, 26⟩
def CRYP_KSTAT_VALID_N : FRef := ⟨0x6, 0x044, 8, 0⟩
def CRYP_KSEL_SLOT : FRef := ⟨0x6, 0x048, 7, 0⟩
def CRYP_KCMD_BUSY : FRef := ⟨0x6, 0x04c, 31, 31⟩
def CRYP_KCMD_CMD : FRef := ⟨0x6, 0x04c, 1, 0⟩
def CRYP_KSLOT_STATE : FRef := ⟨0x6, 0x050, 31, 30⟩
def CRYP_KSLOT_PORTS : FRef := ⟨0x6, 0x050, 7, 0⟩
def CRYP_NECPORT_NEC : FRef := ⟨0x6, 0x054, 7, 0⟩
def CRYP_CNT_KEYFAULT : FRef := ⟨0x6, 0x058, 31, 16⟩
def CRYP_CNT_KPOISON : FRef := ⟨0x6, 0x058, 15, 0⟩
def CRYP_KEYW_KEY (n : Nat) : FRef := ⟨0x6, 0x080 + 4 * n, 31, 0⟩
def CRYP_EVT_VERIFY_FAIL : FRef := ⟨0x6, 0x014, 5, 5⟩
def CRYP_EVT_WPOISON : FRef := ⟨0x6, 0x014, 4, 4⟩
def CRYP_EVT_KEYFAULT : FRef := ⟨0x6, 0x014, 3, 3⟩
def CRYP_EVT_REFUSED : FRef := ⟨0x6, 0x014, 2, 2⟩
def CRYP_EVT_CLEARED : FRef := ⟨0x6, 0x014, 1, 1⟩
def CRYP_EVT_LOAD_DONE : FRef := ⟨0x6, 0x014, 0, 0⟩
def PWRM_STAT_WAKING : FRef := ⟨0x2, 0x010, 12, 12⟩
def PWRM_STAT_ENTERING : FRef := ⟨0x2, 0x010, 11, 11⟩
def PWRM_STAT_VOTING : FRef := ⟨0x2, 0x010, 10, 10⟩
def PWRM_STAT_SLEEP : FRef := ⟨0x2, 0x010, 9, 9⟩
def PWRM_STAT_CRYP_ON : FRef := ⟨0x2, 0x010, 8, 8⟩
def PWRM_STAT_CORE_ON : FRef := ⟨0x2, 0x010, 7, 7⟩
def PWRM_STAT_PHY_ON : FRef := ⟨0x2, 0x010, 3, 0⟩
def PWRM_EVT_LATE_WAKE : FRef := ⟨0x2, 0x014, 7, 7⟩
def PWRM_EVT_VMODE : FRef := ⟨0x2, 0x014, 6, 6⟩
def PWRM_EVT_PGOOD_LOST : FRef := ⟨0x2, 0x014, 5, 5⟩
def PWRM_EVT_VREQ_FAIL : FRef := ⟨0x2, 0x014, 4, 4⟩
def PWRM_EVT_WAKE_FAIL : FRef := ⟨0x2, 0x014, 3, 3⟩
def PWRM_EVT_REFUSED : FRef := ⟨0x2, 0x014, 2, 2⟩
def PWRM_EVT_WOKE : FRef := ⟨0x2, 0x014, 1, 1⟩
def PWRM_EVT_SLEPT : FRef := ⟨0x2, 0x014, 0, 0⟩
def PWRM_VLOOP_EN : FRef := ⟨0x2, 0x040, 31, 31⟩
def PWRM_VLOOP_UP : FRef := ⟨0x2, 0x040, 30, 24⟩
def PWRM_VLOOP_DN : FRef := ⟨0x2, 0x040, 22, 16⟩
def PWRM_VLOOP_HOLD : FRef := ⟨0x2, 0x040, 15, 12⟩
def PWRM_VLOOP_WIN : FRef := ⟨0x2, 0x040, 11, 0⟩
def PWRM_VLIM_VSLEEP : FRef := ⟨0x2, 0x044, 14, 10⟩
def PWRM_VLIM_VMAX : FRef := ⟨0x2, 0x044, 9, 5⟩
def PWRM_VLIM_VMIN : FRef := ⟨0x2, 0x044, 4, 0⟩
def PWRM_REG_PEC : FRef := ⟨0x2, 0x048, 9, 9⟩
def PWRM_REG_SPD : FRef := ⟨0x2, 0x048, 8, 7⟩
def PWRM_REG_ADDR : FRef := ⟨0x2, 0x048, 6, 0⟩
def PWRM_VSTAT_BUSY : FRef := ⟨0x2, 0x04c, 31, 31⟩
def PWRM_VSTAT_PGOOD : FRef := ⟨0x2, 0x04c, 30, 30⟩
def PWRM_VSTAT_MODE_OK : FRef := ⟨0x2, 0x04c, 29, 29⟩
def PWRM_VSTAT_VCMD : FRef := ⟨0x2, 0x04c, 28, 24⟩
def PWRM_VSTAT_VACK : FRef := ⟨0x2, 0x04c, 23, 19⟩
def PWRM_VSTAT_EXP : FRef := ⟨0x2, 0x04c, 18, 14⟩
def PWRM_VSTAT_DEMAND : FRef := ⟨0x2, 0x04c, 7, 0⟩
def PWRM_RSTAT_RD_FAIL : FRef := ⟨0x2, 0x050, 31, 31⟩
def PWRM_RSTAT_STATUS : FRef := ⟨0x2, 0x050, 15, 0⟩
def PWRM_SLP_EN : FRef := ⟨0x2, 0x054, 31, 31⟩
def PWRM_SLP_SCRLAG : FRef := ⟨0x2, 0x054, 27, 24⟩
def PWRM_SLP_IDLE : FRef := ⟨0x2, 0x054, 19, 0⟩
def PWRM_SLPT_CIDLE : FRef := ⟨0x2, 0x058, 31, 16⟩
def PWRM_SLPT_VTMO : FRef := ⟨0x2, 0x058, 15, 0⟩
def PWRM_VOTE_LAST : FRef := ⟨0x2, 0x05c, 31, 28⟩
def PWRM_VOTE_AGREED : FRef := ⟨0x2, 0x05c, 27, 20⟩
def PWRM_REFCNT0_SCH : FRef := ⟨0x2, 0x060, 31, 0⟩
def PWRM_REFCNT1_OTHER : FRef := ⟨0x2, 0x064, 31, 0⟩
def PWRM_ABTCNT_HOST : FRef := ⟨0x2, 0x068, 31, 16⟩
def PWRM_ABTCNT_TIMEOUT : FRef := ⟨0x2, 0x068, 15, 0⟩
def PWRM_CNT_ENTRIES : FRef := ⟨0x2, 0x06c, 31, 16⟩
def PWRM_CNT_WAKES : FRef := ⟨0x2, 0x06c, 15, 0⟩
def PWRM_WAKE_SRC : FRef := ⟨0x2, 0x070, 31, 28⟩
def PWRM_WAKE_LATE : FRef := ⟨0x2, 0x070, 23, 16⟩
def PWRM_WAKE_WTIME : FRef := ⟨0x2, 0x070, 15, 0⟩
def GLOB_STAT_RECORD : FRef := ⟨0x0, 0x010, 9, 9⟩
def GLOB_STAT_MEM_READY : FRef := ⟨0x0, 0x010, 8, 8⟩
def GLOB_STAT_PHASE : FRef := ⟨0x0, 0x010, 7, 4⟩
def GLOB_STAT_MODE : FRef := ⟨0x0, 0x010, 2, 0⟩
def GLOB_EVT_MODE_CHG : FRef := ⟨0x0, 0x014, 4, 4⟩
def GLOB_EVT_GO_IGNORED : FRef := ⟨0x0, 0x014, 3, 3⟩
def GLOB_EVT_HOLD_FULL : FRef := ⟨0x0, 0x014, 2, 2⟩
def GLOB_EVT_FILL_DONE : FRef := ⟨0x0, 0x014, 1, 1⟩
def GLOB_EVT_MEM_READY : FRef := ⟨0x0, 0x014, 0, 0⟩
def GLOB_BOOT_GO : FRef := ⟨0x0, 0x040, 31, 31⟩
def GLOB_FILL_BOOT : FRef := ⟨0x0, 0x044, 23, 16⟩
def GLOB_FILL_MINSH : FRef := ⟨0x0, 0x044, 11, 8⟩
def GLOB_FILL_HOLDMAX : FRef := ⟨0x0, 0x044, 7, 0⟩
def GLOB_FILLWM_WM (n : Nat) : FRef := ⟨0x0, 0x050 + 4 * n, 31, 0⟩
def GLOB_FILLST_NRDY : FRef := ⟨0x0, 0x060, 31, 24⟩
def GLOB_FILLST_HELD : FRef := ⟨0x0, 0x060, 23, 16⟩
def GLOB_FILLST_DONE : FRef := ⟨0x0, 0x060, 3, 0⟩
def GLOB_BTIME_TGO : FRef := ⟨0x0, 0x064, 31, 16⟩
def GLOB_BTIME_TRDY : FRef := ⟨0x0, 0x064, 15, 0⟩
def SIDE_TCFG_I3C : FRef := ⟨0x4, 0x040, 31, 31⟩
def SIDE_TCFG_DADDR : FRef := ⟨0x4, 0x040, 30, 24⟩
def SIDE_TCFG_SADDR : FRef := ⟨0x4, 0x040, 6, 0⟩
def SIDE_DCFG_TSPER : FRef := ⟨0x4, 0x044, 15, 8⟩
def SIDE_DCFG_PMTMO : FRef := ⟨0x4, 0x044, 7, 0⟩
def SIDE_SPDSTAT_PGOOD : FRef := ⟨0x4, 0x048, 11, 8⟩
def SIDE_SPDSTAT_SPD : FRef := ⟨0x4, 0x048, 7, 0⟩
def SIDE_SPDIDX_AINC : FRef := ⟨0x4, 0x04c, 31, 31⟩
def SIDE_SPDIDX_CH : FRef := ⟨0x4, 0x04c, 17, 16⟩
def SIDE_SPDIDX_IDX : FRef := ⟨0x4, 0x04c, 7, 0⟩
def SIDE_SPDDAT_DATA : FRef := ⟨0x4, 0x050, 31, 0⟩
def SIDE_TS_V1 (n : Nat) : FRef := ⟨0x4, 0x054 + 4 * n, 31, 31⟩
def SIDE_TS_TS1 (n : Nat) : FRef := ⟨0x4, 0x054 + 4 * n, 26, 16⟩
def SIDE_TS_V0 (n : Nat) : FRef := ⟨0x4, 0x054 + 4 * n, 15, 15⟩
def SIDE_TS_TS0 (n : Nat) : FRef := ⟨0x4, 0x054 + 4 * n, 10, 0⟩
def SIDE_DXFER_GO : FRef := ⟨0x4, 0x064, 31, 31⟩
def SIDE_DXFER_WR : FRef := ⟨0x4, 0x064, 30, 30⟩
def SIDE_DXFER_CH : FRef := ⟨0x4, 0x064, 29, 28⟩
def SIDE_DXFER_DEV : FRef := ⟨0x4, 0x064, 27, 26⟩
def SIDE_DXFER_ERR : FRef := ⟨0x4, 0x064, 25, 25⟩
def SIDE_DXFER_REG : FRef := ⟨0x4, 0x064, 15, 8⟩
def SIDE_DXFER_DATA : FRef := ⟨0x4, 0x064, 7, 0⟩
def SIDE_EVT_XFER_ERR : FRef := ⟨0x4, 0x014, 4, 4⟩
def SIDE_EVT_XFER_DONE : FRef := ⟨0x4, 0x014, 3, 3⟩
def SIDE_EVT_PMIC_FAIL : FRef := ⟨0x4, 0x014, 2, 2⟩
def SIDE_EVT_SPD_ERR : FRef := ⟨0x4, 0x014, 1, 1⟩
def SIDE_EVT_SPD_DONE : FRef := ⟨0x4, 0x014, 0, 0⟩
def BIST_STAT_SLICE : FRef := ⟨0x5, 0x010, 7, 4⟩
def BIST_STAT_PHASE : FRef := ⟨0x5, 0x010, 3, 0⟩
def BIST_EVT_RECORD_BAD : FRef := ⟨0x5, 0x014, 5, 5⟩
def BIST_EVT_REQ_IGNORED : FRef := ⟨0x5, 0x014, 4, 4⟩
def BIST_EVT_INCOMPLETE : FRef := ⟨0x5, 0x014, 3, 3⟩
def BIST_EVT_SLICE_FAIL : FRef := ⟨0x5, 0x014, 2, 2⟩
def BIST_EVT_DRAIN_INC : FRef := ⟨0x5, 0x014, 1, 1⟩
def BIST_EVT_DONE : FRef := ⟨0x5, 0x014, 0, 0⟩
def BIST_SDREQ_GO : FRef := ⟨0x5, 0x040, 31, 31⟩
def BIST_CFG_RETIRE : FRef := ⟨0x5, 0x044, 17, 17⟩
def BIST_CFG_REPAIR : FRef := ⟨0x5, 0x044, 16, 16⟩
def BIST_CFG_DRTMO : FRef := ⟨0x5, 0x044, 15, 0⟩
def BIST_BUD0_S3 : FRef := ⟨0x5, 0x048, 31, 24⟩
def BIST_BUD0_S2 : FRef := ⟨0x5, 0x048, 23, 16⟩
def BIST_BUD0_S1 : FRef := ⟨0x5, 0x048, 15, 8⟩
def BIST_BUD0_S0 : FRef := ⟨0x5, 0x048, 7, 0⟩
def BIST_BUD1_S5 : FRef := ⟨0x5, 0x04c, 15, 8⟩
def BIST_BUD1_S4 : FRef := ⟨0x5, 0x04c, 7, 0⟩
def BIST_RET_BEGRP : FRef := ⟨0x5, 0x050, 31, 16⟩
def BIST_RET_PORT : FRef := ⟨0x5, 0x050, 11, 4⟩
def BIST_RET_PHY : FRef := ⟨0x5, 0x050, 3, 0⟩
def BIST_SRAM_RQ : FRef := ⟨0x5, 0x054, 31, 24⟩
def BIST_SRAM_WQ : FRef := ⟨0x5, 0x054, 23, 16⟩
def BIST_SRAM_RB : FRef := ⟨0x5, 0x054, 15, 8⟩
def BIST_SRAM_WB : FRef := ⟨0x5, 0x054, 7, 0⟩
def BIST_EXP_EXP (n : Nat) : FRef := ⟨0x5, 0x060 + 4 * n, 31, 0⟩
def BIST_REC_REC (n : Nat) : FRef := ⟨0x5, 0x080 + 4 * n, 31, 0⟩
def FLTC_CFG_FORCE_F : FRef := ⟨0x1, 0x040, 31, 31⟩
def FLTC_CFG_FF_C : FRef := ⟨0x1, 0x040, 30, 30⟩
def FLTC_CFG_CHK : FRef := ⟨0x1, 0x040, 19, 0⟩
def FLTC_STS_STS (n : Nat) : FRef := ⟨0x1, 0x044 + 4 * n, 31, 0⟩
def FLTC_ESC0_ESC : FRef := ⟨0x1, 0x04c, 31, 0⟩
def FLTC_ESC1_ESC : FRef := ⟨0x1, 0x050, 31, 0⟩
def FLTC_FF_FF (n : Nat) : FRef := ⟨0x1, 0x054 + 4 * n, 31, 0⟩
def FLTC_FFCTL_VLD : FRef := ⟨0x1, 0x064, 31, 31⟩
def FLTC_SEEN_SEEN (n : Nat) : FRef := ⟨0x1, 0x068 + 4 * n, 31, 0⟩
def FLTC_LOGPOP_W0 : FRef := ⟨0x1, 0x070, 31, 0⟩
def FLTC_LOGW_W (n : Nat) : FRef := ⟨0x1, 0x070 + 4 * n, 31, 0⟩
def FLTC_LOGSTAT_EMPTY : FRef := ⟨0x1, 0x080, 31, 31⟩
def FLTC_LOGSTAT_UNDER : FRef := ⟨0x1, 0x080, 30, 30⟩
def FLTC_LOGSTAT_LVL : FRef := ⟨0x1, 0x080, 29, 29⟩
def FLTC_LOGSTAT_DEPTH : FRef := ⟨0x1, 0x080, 22, 16⟩
def FLTC_LOGSTAT_OVF : FRef := ⟨0x1, 0x080, 15, 0⟩
def FLTC_LOGWM_HI : FRef := ⟨0x1, 0x084, 22, 16⟩
def FLTC_LOGWM_LO : FRef := ⟨0x1, 0x084, 6, 0⟩
def FLTC_LOGECC_CE : FRef := ⟨0x1, 0x088, 31, 16⟩
def FLTC_LOGECC_UE : FRef := ⟨0x1, 0x088, 15, 0⟩
def FLTC_CNT0_C : FRef := ⟨0x1, 0x08c, 31, 16⟩
def FLTC_CNT0_D : FRef := ⟨0x1, 0x08c, 15, 0⟩
def FLTC_CNT1_U : FRef := ⟨0x1, 0x090, 31, 16⟩
def FLTC_CNT1_F : FRef := ⟨0x1, 0x090, 15, 0⟩
def FLTC_CHKSTAT_RUN : FRef := ⟨0x1, 0x094, 31, 31⟩
def FLTC_CHKSTAT_SRC : FRef := ⟨0x1, 0x094, 29, 24⟩
def FLTC_CHKSTAT_REM : FRef := ⟨0x1, 0x094, 19, 0⟩
def FLTC_EVT_LOG_UE : FRef := ⟨0x1, 0x014, 8, 8⟩
def FLTC_EVT_LOG_OVF : FRef := ⟨0x1, 0x014, 7, 7⟩
def FLTC_EVT_LOG_LO : FRef := ⟨0x1, 0x014, 6, 6⟩
def FLTC_EVT_LOG_HI : FRef := ⟨0x1, 0x014, 5, 5⟩
def FLTC_EVT_ESC : FRef := ⟨0x1, 0x014, 4, 4⟩
def FLTC_EVT_CAP_F : FRef := ⟨0x1, 0x014, 3, 3⟩
def FLTC_EVT_CAP_U : FRef := ⟨0x1, 0x014, 2, 2⟩
def FLTC_EVT_CAP_D : FRef := ⟨0x1, 0x014, 1, 1⟩
def FLTC_EVT_CAP_C : FRef := ⟨0x1, 0x014, 0, 0⟩
def GLOB_CLAIMCFG_TMO : FRef := ⟨0x0, 0x068, 15, 0⟩
def GLOB_CLAIMSTAT_BRK : FRef := ⟨0x0, 0x06c, 31, 31⟩
def GLOB_CLAIMSTAT_BRK_EN : FRef := ⟨0x0, 0x06c, 30, 30⟩
def GLOB_CLAIMSTAT_CAUSE : FRef := ⟨0x0, 0x06c, 25, 24⟩
def GLOB_CLAIMSTAT_PAGE : FRef := ⟨0x0, 0x06c, 20, 16⟩
def GLOB_CLAIMSTAT_AGENT : FRef := ⟨0x0, 0x06c, 3, 0⟩

/-- GLOB_CLAIMCFG and GLOB_CLAIMSTAT of R526 stand with the page-specific fields above; the header fields follow (R519, R520, R523). -/
def CTL_COMMIT (p : Nat) : FRef := ⟨p, 0x008, 0, 0⟩
/-- The event latches of a page (R519). -/
def EVT (p : Nat) : FRef := ⟨p, 0x014, 31, 0⟩
/-- The event enables of a page (R519). -/
def EVT_EN (p : Nat) : FRef := ⟨p, 0x018, 31, 0⟩

end Reg

/-- Fields of the HPT page, part 0. -/
def hptFields0 (p : Nat) : List FDef :=
  [ ⟨Reg.HPT_PCTL_AP_AGENT p, .rs, 0x1⟩,
    ⟨Reg.HPT_PCTL_APEN p, .rs, 0x0⟩,
    ⟨Reg.HPT_PCTL_PEN p, .rs, 0x1⟩,
    ⟨Reg.HPT_BUD0_DL_DEF p, .rs, 0xfa⟩,
    ⟨Reg.HPT_BUD0_BE_DEF p, .rs, 0x1388⟩,
    ⟨Reg.HPT_BUD1_RT_DEF p, .rs, 0x190⟩,
    ⟨Reg.HPT_WDCRD_HELD p, .ro, 0x0⟩,
    ⟨Reg.HPT_WDCRD_ALLOC p, .rs, 0x20⟩,
    ⟨Reg.HPT_RSPCAP_USED p, .ro, 0x0⟩,
    ⟨Reg.HPT_RSPCAP_CAP p, .rs, 0x80⟩,
    ⟨Reg.HPT_APBASE_BASE p, .rs, 0x0⟩,
    ⟨Reg.HPT_SEQ_MARK p, .ro, 0x0⟩,
    ⟨Reg.HPT_SEQ_NEXT p, .ro, 0x0⟩,
    ⟨Reg.HPT_NAKCNT_NAKS p, .rw, 0x0⟩,
    ⟨Reg.HPT_EVT_WD_BAD p, .w1c, 0x0⟩,
    ⟨Reg.HPT_EVT_WALKDEV p, .w1c, 0x0⟩,
    ⟨Reg.HPT_EVT_PORT_RESET p, .w1c, 0x0⟩,
    ⟨Reg.HPT_EVT_ALLOC_REFUSED p, .w1c, 0x0⟩,
    ⟨Reg.HPT_EVT_NAK_LIMIT p, .w1c, 0x0⟩,
    ⟨Reg.HPT_EVT_NAK_RANGE p, .w1c, 0x0⟩,
    ⟨Reg.HPT_EVT_CRD_OVER p, .w1c, 0x0⟩,
    ⟨Reg.HPT_EVT_DUP_TAG p, .w1c, 0x0⟩,
    ⟨Reg.HPT_PANSTAT_RISES p, .rw, 0x0⟩,
    ⟨Reg.HPT_PANSTAT_SEEN p, .w1c, 0x0⟩ ]

/-- Fields of the HPT page, part 1. -/
def hptFields1 (p : Nat) : List FDef :=
  [ ⟨Reg.HPT_PANSTAT_LEVEL p, .ro, 0x0⟩,
    ⟨Reg.HPT_ARBCNT_DEAD p, .rw, 0x0⟩,
    ⟨Reg.HPT_ARBCNT_PREEMPT p, .rw, 0x0⟩ ]

/-- All fields of the HPT page.  -/
def hptFields (p : Nat) : List FDef :=
  hptFields0 p ++
  hptFields1 p

/-- Fields of the GLOB page, part 0. -/
def globFields0 : List FDef :=
  [ ⟨Reg.GLOB_WBWM_HI, .rs, 0xe0⟩,
    ⟨Reg.GLOB_WBWM_LO, .rs, 0xa0⟩,
    ⟨Reg.GLOB_RBWM_HI, .rs, 0x1c0⟩,
    ⟨Reg.GLOB_RBWM_LO, .rs, 0x140⟩,
    ⟨Reg.GLOB_WBCUT_CUT, .rs, 0x2⟩,
    ⟨Reg.GLOB_WBSTAT_ALLOC_SUM, .ro, 0x100⟩,
    ⟨Reg.GLOB_WBSTAT_OCC, .ro, 0x0⟩,
    ⟨Reg.GLOB_RBSTAT_SHARED_USED, .ro, 0x0⟩,
    ⟨Reg.GLOB_RBSTAT_OCC, .ro, 0x0⟩,
    ⟨Reg.GLOB_BUFCE_RB_CE, .ro, 0x0⟩,
    ⟨Reg.GLOB_BUFCE_WB_CE, .ro, 0x0⟩,
    ⟨Reg.GLOB_BUFUE_RB_UE, .ro, 0x0⟩,
    ⟨Reg.GLOB_BUFUE_WB_UE, .ro, 0x0⟩,
    ⟨Reg.GLOB_BUFCLR_RB_CLR, .wo, 0x0⟩,
    ⟨Reg.GLOB_BUFCLR_WB_CLR, .wo, 0x0⟩,
    ⟨Reg.GLOB_BUFEVT_RB_UE, .w1c, 0x0⟩,
    ⟨Reg.GLOB_BUFEVT_WB_UE, .w1c, 0x0⟩,
    ⟨Reg.GLOB_BUFEVT_RB_LO, .w1c, 0x0⟩,
    ⟨Reg.GLOB_BUFEVT_RB_HI, .w1c, 0x0⟩,
    ⟨Reg.GLOB_BUFEVT_WB_LO, .w1c, 0x0⟩,
    ⟨Reg.GLOB_BUFEVT_WB_HI, .w1c, 0x0⟩,
    ⟨Reg.GLOB_BUFEVT_EN_EN, .rw, 0x0⟩,
    ⟨Reg.GLOB_BUFLVL_RB_LVL, .ro, 0x0⟩,
    ⟨Reg.GLOB_BUFLVL_WB_LVL, .ro, 0x0⟩ ]

/-- Fields of the GLOB page, part 1. -/
def globFields1 : List FDef :=
  [ ⟨Reg.GLOB_LOCKCTL_TMO, .rs, 0xa⟩,
    ⟨Reg.GLOB_LOCKSTAT_HELD, .ro, 0x0⟩,
    ⟨Reg.GLOB_LOCKSTAT_VALID, .ro, 0x0⟩,
    ⟨Reg.GLOB_LOCKEVT_EN, .rw, 0x0⟩,
    ⟨Reg.GLOB_LOCKEVT_LOST, .w1c, 0x0⟩,
    ⟨Reg.GLOB_LOCKEVT_RST_BRK, .w1c, 0x0⟩,
    ⟨Reg.GLOB_LOCKEVT_TMO_BRK, .w1c, 0x0⟩,
    ⟨Reg.GLOB_LOCKSEL_SEL, .rw, 0x0⟩,
    ⟨Reg.GLOB_LOCKINFO0_VLD, .ro, 0x0⟩,
    ⟨Reg.GLOB_LOCKINFO0_PORT, .ro, 0x0⟩,
    ⟨Reg.GLOB_LOCKINFO0_ADDR_HI, .ro, 0x0⟩,
    ⟨Reg.GLOB_LOCKINFO1_ADDR_LO, .ro, 0x0⟩,
    ⟨Reg.GLOB_STAT_RECORD, .ro, 0x0⟩,
    ⟨Reg.GLOB_STAT_MEM_READY, .ro, 0x0⟩,
    ⟨Reg.GLOB_STAT_PHASE, .ro, 0x1⟩,
    ⟨Reg.GLOB_STAT_MODE, .ro, 0x0⟩,
    ⟨Reg.GLOB_EVT_MODE_CHG, .w1c, 0x0⟩,
    ⟨Reg.GLOB_EVT_GO_IGNORED, .w1c, 0x0⟩,
    ⟨Reg.GLOB_EVT_HOLD_FULL, .w1c, 0x0⟩,
    ⟨Reg.GLOB_EVT_FILL_DONE, .w1c, 0x0⟩,
    ⟨Reg.GLOB_EVT_MEM_READY, .w1c, 0x0⟩,
    ⟨Reg.GLOB_BOOT_GO, .wo, 0x0⟩,
    ⟨Reg.GLOB_FILL_BOOT, .rs, 0x10⟩,
    ⟨Reg.GLOB_FILL_MINSH, .rs, 0x8⟩ ]

/-- Fields of the GLOB page, part 2. -/
def globFields2 : List FDef :=
  [ ⟨Reg.GLOB_FILL_HOLDMAX, .rs, 0x40⟩,
    ⟨Reg.GLOB_FILLST_NRDY, .rw, 0x0⟩,
    ⟨Reg.GLOB_FILLST_HELD, .ro, 0x0⟩,
    ⟨Reg.GLOB_FILLST_DONE, .ro, 0x0⟩,
    ⟨Reg.GLOB_BTIME_TGO, .ro, 0x0⟩,
    ⟨Reg.GLOB_BTIME_TRDY, .ro, 0x0⟩,
    ⟨Reg.GLOB_CLAIMCFG_TMO, .rw, 0x3e8⟩,
    ⟨Reg.GLOB_CLAIMSTAT_BRK, .w1c, 0x0⟩,
    ⟨Reg.GLOB_CLAIMSTAT_BRK_EN, .rw, 0x0⟩,
    ⟨Reg.GLOB_CLAIMSTAT_CAUSE, .ro, 0x0⟩,
    ⟨Reg.GLOB_CLAIMSTAT_PAGE, .ro, 0x0⟩,
    ⟨Reg.GLOB_CLAIMSTAT_AGENT, .ro, 0x0⟩ ]

/-- All fields of the GLOB page.  -/
def globFields : List FDef :=
  globFields0 ++
  globFields1 ++
  globFields2 ++
  (List.range 4).map (fun n => ⟨Reg.GLOB_FILLWM_WM n, .ro, 0x0⟩)

/-- Fields of the AMAP page, part 0. -/
def amapFields0 : List FDef :=
  [ ⟨Reg.AMAP_MAPCTL_RET_TMO, .rs, 0x64⟩,
    ⟨Reg.AMAP_MAPSTAT_RETAIN, .ro, 0x0⟩,
    ⟨Reg.AMAP_MAPSTAT_AGREE, .ro, 0x0⟩,
    ⟨Reg.AMAP_RETIRE_GO, .wo, 0x0⟩,
    ⟨Reg.AMAP_MISCNT_FWD, .rw, 0x0⟩,
    ⟨Reg.AMAP_MISCNT_MIS, .rw, 0x0⟩,
    ⟨Reg.AMAP_MIGCTL_RATE, .rw, 0x4⟩,
    ⟨Reg.AMAP_MIGCTL_DST, .rw, 0x0⟩,
    ⟨Reg.AMAP_MIGCTL_SRC, .rw, 0x0⟩,
    ⟨Reg.AMAP_MIGCTL_GO, .rw, 0x0⟩,
    ⟨Reg.AMAP_MIGWM_WM, .ro, 0x0⟩,
    ⟨Reg.AMAP_MIGSTAT_UE, .ro, 0x0⟩,
    ⟨Reg.AMAP_MIGSTAT_DONE, .ro, 0x0⟩,
    ⟨Reg.AMAP_CMTSTAT_HOLD, .ro, 0x0⟩,
    ⟨Reg.AMAP_EVT_MIG_UE, .w1c, 0x0⟩,
    ⟨Reg.AMAP_EVT_MIG_DONE, .w1c, 0x0⟩,
    ⟨Reg.AMAP_EVT_RETIRED, .w1c, 0x0⟩,
    ⟨Reg.AMAP_EVT_COMMITTED, .w1c, 0x0⟩,
    ⟨Reg.AMAP_EVT_PEER_REFUSED, .w1c, 0x0⟩,
    ⟨Reg.AMAP_EVT_CHDEC_LOCKED, .w1c, 0x0⟩,
    ⟨Reg.AMAP_EVT_RETAIN_BUSY, .w1c, 0x0⟩,
    ⟨Reg.AMAP_EVT_MOVE, .w1c, 0x0⟩,
    ⟨Reg.AMAP_EVT_MIRROR, .w1c, 0x0⟩,
    ⟨Reg.AMAP_EVT_TGT, .w1c, 0x0⟩ ]

/-- Fields of the AMAP page, part 1. -/
def amapFields1 : List FDef :=
  [ ⟨Reg.AMAP_EVT_HASH_N, .w1c, 0x0⟩,
    ⟨Reg.AMAP_EVT_EXTENT, .w1c, 0x0⟩,
    ⟨Reg.AMAP_EVT_OVERLAP, .w1c, 0x0⟩ ]

/-- Fields of the AMAPE page, part 0. -/
def amapEntryFields0 (e : Nat) : List FDef :=
  [ ⟨Reg.AMAP_E_BASE_BASE e, .rs, 0x0⟩,
    ⟨Reg.AMAP_E_LIMIT_LIMIT e, .rs, 0x0⟩,
    ⟨Reg.AMAP_E_CFG_MTILE e, .rs, 0x0⟩,
    ⟨Reg.AMAP_E_CFG_MIRROR e, .rs, 0x0⟩,
    ⟨Reg.AMAP_E_CFG_HASH e, .rs, 0x0⟩,
    ⟨Reg.AMAP_E_CFG_GRAIN e, .rs, 0x0⟩,
    ⟨Reg.AMAP_E_CFG_NTGT e, .rs, 0x0⟩,
    ⟨Reg.AMAP_E_CFG_VLD e, .rs, 0x0⟩,
    ⟨Reg.AMAP_E_CFG_VER e, .ro, 0x0⟩,
    ⟨Reg.AMAP_E_CHBASE_CHBASE e, .rs, 0x0⟩ ]

/-- All fields of the AMAPE page.  -/
def amapEntryFields (e : Nat) : List FDef :=
  amapEntryFields0 e ++
  (List.range 32).map (fun k => ⟨Reg.AMAP_E_SLOT e k, .rs, 0⟩)

/-- The retained version of entry `e`, at 0x500 + 0x40 e in the layout of the entry block, read only (R134). -/
def amapRetainedFields (e : Nat) : List FDef :=
  (amapEntryFields e).map (fun f => { f with ref := { f.ref with off := f.ref.off + 0x400 }, acc := .ro })

/-- Fields of the RING page, part 0. -/
def ringFields0 : List FDef :=
  [ ⟨Reg.RING_CTL_RSP_TMO, .rs, 0x14⟩,
    ⟨Reg.RING_CTL_LINK_TMO, .rs, 0x1⟩,
    ⟨Reg.RING_CTL_TOK_HOLD, .rs, 0x19⟩,
    ⟨Reg.RING_CTL_TOKENS, .rs, 0x2⟩,
    ⟨Reg.RING_STAT_NUMBERED, .ro, 0x0⟩,
    ⟨Reg.RING_STAT_TILE_NO, .ro, 0x0⟩,
    ⟨Reg.RING_STAT_TILES, .ro, 0x0⟩,
    ⟨Reg.RING_STAT_ANCHOR, .ro, 0x0⟩,
    ⟨Reg.RING_STAT_CWI_UP, .ro, 0x0⟩,
    ⟨Reg.RING_STAT_CWO_UP, .ro, 0x0⟩,
    ⟨Reg.RING_STAT_CCWI_UP, .ro, 0x0⟩,
    ⟨Reg.RING_STAT_CCWO_UP, .ro, 0x0⟩,
    ⟨Reg.RING_CNT0_CORR, .rw, 0x0⟩,
    ⟨Reg.RING_CNT0_RETRY, .rw, 0x0⟩,
    ⟨Reg.RING_CNT1_DEFLECT, .rw, 0x0⟩,
    ⟨Reg.RING_CNT1_WAKE, .rw, 0x0⟩,
    ⟨Reg.RING_NOTE_TILE, .ro, 0x0⟩,
    ⟨Reg.RING_NOTE_SRC, .ro, 0x0⟩,
    ⟨Reg.RING_NOTE_CLASS, .ro, 0x0⟩,
    ⟨Reg.RING_NOTET_TEMPO, .ro, 0x0⟩,
    ⟨Reg.RING_EVT_NOTE, .w1c, 0x0⟩,
    ⟨Reg.RING_EVT_TOKLESS, .w1c, 0x0⟩,
    ⟨Reg.RING_EVT_TOK_REGEN, .w1c, 0x0⟩,
    ⟨Reg.RING_EVT_MIR_RESEND, .w1c, 0x0⟩ ]

/-- Fields of the RING page, part 1. -/
def ringFields1 : List FDef :=
  [ ⟨Reg.RING_EVT_FWD_LOST, .w1c, 0x0⟩,
    ⟨Reg.RING_EVT_LINK_DOWN, .w1c, 0x0⟩,
    ⟨Reg.RING_EVT_RENUMBER, .w1c, 0x0⟩,
    ⟨Reg.RING_EVT_OVERSIZE, .w1c, 0x0⟩,
    ⟨Reg.RING_EVT_MULTI_ANCHOR, .w1c, 0x0⟩,
    ⟨Reg.RING_EVT_DISC_FAIL, .w1c, 0x0⟩,
    ⟨Reg.RING_EVT_DISC_DONE, .w1c, 0x0⟩ ]

/-- All fields of the RING page.  -/
def ringFields : List FDef :=
  ringFields0 ++
  ringFields1

/-- Fields of the SCHD page, part 0. -/
def schdFields0 : List FDef :=
  [ ⟨Reg.SCHD_CTL_GAMBIT_EN, .rs, 0x1⟩,
    ⟨Reg.SCHD_CTL_RTADM_EN, .rs, 0x1⟩,
    ⟨Reg.SCHD_CTL_SLACK_EN, .rs, 0x1⟩,
    ⟨Reg.SCHD_PCTL_PLIFE, .rs, 0x4⟩,
    ⟨Reg.SCHD_SLACK_RT_MARGIN, .rs, 0x64⟩,
    ⟨Reg.SCHD_SLACK_MARGIN, .rs, 0x32⟩,
    ⟨Reg.SCHD_SVC_CONFL, .rs, 0x34⟩,
    ⟨Reg.SCHD_SVC_EMPTY, .rs, 0x24⟩,
    ⟨Reg.SCHD_SVC_HIT, .rs, 0x14⟩,
    ⟨Reg.SCHD_QCAP_RD, .rs, 0xa0⟩,
    ⟨Reg.SCHD_QCAP_WR, .rs, 0x70⟩,
    ⟨Reg.SCHD_WDRN_MAXBRK, .rs, 0x2⟩,
    ⟨Reg.SCHD_WDRN_WHI, .rs, 0x20⟩,
    ⟨Reg.SCHD_WDRN_WLO, .rs, 0xc⟩,
    ⟨Reg.SCHD_RTADM_BANKQ, .rs, 0x4⟩,
    ⟨Reg.SCHD_RTADM_DEPTH, .rs, 0x10⟩,
    ⟨Reg.SCHD_RTADM_RATE, .rs, 0x0⟩,
    ⟨Reg.SCHD_RTBND_VALID, .ro, 0x0⟩,
    ⟨Reg.SCHD_RTBND_WCRT, .ro, 0x0⟩,
    ⟨Reg.SCHD_GTMO0_T3, .rs, 0x8⟩,
    ⟨Reg.SCHD_GTMO0_T2, .rs, 0x4⟩,
    ⟨Reg.SCHD_GTMO0_T1, .rs, 0x2⟩,
    ⟨Reg.SCHD_GTMO0_T0, .rs, 0x1⟩,
    ⟨Reg.SCHD_GTMO1_T7, .rs, 0xff⟩ ]

/-- Fields of the SCHD page, part 1. -/
def schdFields1 : List FDef :=
  [ ⟨Reg.SCHD_GTMO1_T6, .rs, 0x40⟩,
    ⟨Reg.SCHD_GTMO1_T5, .rs, 0x20⟩,
    ⟨Reg.SCHD_GTMO1_T4, .rs, 0x10⟩,
    ⟨Reg.SCHD_CNT0_UNADM, .rw, 0x0⟩,
    ⟨Reg.SCHD_CNT0_REFUSE, .rw, 0x0⟩,
    ⟨Reg.SCHD_CNT1_DRAIN, .rw, 0x0⟩,
    ⟨Reg.SCHD_CNT1_LATE, .rw, 0x0⟩,
    ⟨Reg.SCHD_CNT1_PASS, .rw, 0x0⟩,
    ⟨Reg.SCHD_EVT_STATE_RELOAD, .w1c, 0x0⟩,
    ⟨Reg.SCHD_EVT_RTADM_REFUSED, .w1c, 0x0⟩,
    ⟨Reg.SCHD_EVT_RT_LATE, .w1c, 0x0⟩,
    ⟨Reg.SCHD_EVT_UNADMIT, .w1c, 0x0⟩ ]

/-- All fields of the SCHD page.  -/
def schdFields : List FDef :=
  schdFields0 ++
  schdFields1

/-- Fields of the BENG page, part 0. -/
def bengFields0 : List FDef :=
  [ ⟨Reg.BENG_IDX_SPACE, .rw, 0x0⟩,
    ⟨Reg.BENG_IDX_AINC, .rw, 0x0⟩,
    ⟨Reg.BENG_IDX_INDEX, .rw, 0x0⟩,
    ⟨Reg.BENG_DATA_DATA, .rw, 0x0⟩ ]

/-- All fields of the BENG page.  -/
def bengFields : List FDef :=
  bengFields0

/-- Fields of the TIMG page, part 0. -/
def timgFields0 : List FDef :=
  [ ⟨Reg.TIMG_STAT_PENDING, .ro, 0x0⟩,
    ⟨Reg.TIMG_STAT_MTYPE, .ro, 0x0⟩,
    ⟨Reg.TIMG_STAT_RATE, .ro, 0x20⟩,
    ⟨Reg.TIMG_MODE_MTYPE, .rs, 0x0⟩,
    ⟨Reg.TIMG_MODE_RATE, .rs, 0x20⟩,
    ⟨Reg.TIMG_LAT_CRCW, .rs, 0x18⟩,
    ⟨Reg.TIMG_LAT_MBL, .rs, 0x0⟩,
    ⟨Reg.TIMG_LAT_CL, .rs, 0x1a⟩,
    ⟨Reg.TIMG_ACT_RAS, .rs, 0x34⟩,
    ⟨Reg.TIMG_ACT_RP, .rs, 0x1a⟩,
    ⟨Reg.TIMG_ACT_RCD, .rs, 0x1a⟩,
    ⟨Reg.TIMG_COL_WR, .rs, 0x30⟩,
    ⟨Reg.TIMG_COL_RTP, .rs, 0xc⟩,
    ⟨Reg.TIMG_CCD_CCD_L_WR, .rs, 0x20⟩,
    ⟨Reg.TIMG_CCD_CCD_L, .rs, 0x8⟩,
    ⟨Reg.TIMG_CCD_CCD_S, .rs, 0x8⟩,
    ⟨Reg.TIMG_RRD_FAW, .rs, 0x20⟩,
    ⟨Reg.TIMG_RRD_RRD_L, .rs, 0x8⟩,
    ⟨Reg.TIMG_RRD_RRD_S, .rs, 0x8⟩,
    ⟨Reg.TIMG_WTR_WTR_L, .rs, 0x10⟩,
    ⟨Reg.TIMG_WTR_WTR_S, .rs, 0x4⟩,
    ⟨Reg.TIMG_RFC_RFCSB, .rs, 0xd0⟩,
    ⟨Reg.TIMG_RFC_RFCAB, .rs, 0x290⟩,
    ⟨Reg.TIMG_RFM_RFMSB, .rs, 0xd0⟩ ]

/-- Fields of the TIMG page, part 1. -/
def timgFields1 : List FDef :=
  [ ⟨Reg.TIMG_RFM_RFMAB, .rs, 0x290⟩,
    ⟨Reg.TIMG_RFC2_REFSBRD, .rs, 0x30⟩,
    ⟨Reg.TIMG_MR_MRR, .rs, 0x10⟩,
    ⟨Reg.TIMG_MR_MRW, .rs, 0x10⟩,
    ⟨Reg.TIMG_MR_MRD, .rs, 0x18⟩,
    ⟨Reg.TIMG_ZQ_ZQ_INT, .rs, 0x80⟩,
    ⟨Reg.TIMG_ZQ_ZQLAT, .rs, 0x30⟩,
    ⟨Reg.TIMG_ZQ_ZQCAL, .rs, 0x3e8⟩,
    ⟨Reg.TIMG_SR_CPDED, .rs, 0x8⟩,
    ⟨Reg.TIMG_SR_CKLCS, .rs, 0x10⟩,
    ⟨Reg.TIMG_SR_CKSRX, .rs, 0x10⟩,
    ⟨Reg.TIMG_XS_XSDLL, .rs, 0x400⟩,
    ⟨Reg.TIMG_XS_XS, .rs, 0x2a0⟩,
    ⟨Reg.TIMG_TURN_PC, .rs, 0x0⟩,
    ⟨Reg.TIMG_TURN_WRRS, .rs, 0x4⟩,
    ⟨Reg.TIMG_TURN_WWRS, .rs, 0x4⟩,
    ⟨Reg.TIMG_TURN_RRRS, .rs, 0x4⟩,
    ⟨Reg.TIMG_TURN_RW, .rs, 0x4⟩,
    ⟨Reg.TIMG_MRCMD_GO, .rw, 0x0⟩,
    ⟨Reg.TIMG_MRCMD_OP, .rw, 0x0⟩,
    ⟨Reg.TIMG_MRCMD_CH, .rw, 0x0⟩,
    ⟨Reg.TIMG_MRCMD_SC, .rw, 0x0⟩,
    ⟨Reg.TIMG_MRCMD_RK, .rw, 0x0⟩,
    ⟨Reg.TIMG_MRCMD_MA, .rw, 0x0⟩ ]

/-- Fields of the TIMG page, part 2. -/
def timgFields2 : List FDef :=
  [ ⟨Reg.TIMG_MRCMD_WDATA, .rw, 0x0⟩,
    ⟨Reg.TIMG_MRDAT0_DEV3_0, .ro, 0x0⟩,
    ⟨Reg.TIMG_MRDAT1_DEV7_4, .ro, 0x0⟩,
    ⟨Reg.TIMG_MRDAT2_DEV9_8, .ro, 0x0⟩,
    ⟨Reg.TIMG_EVT_ZQ_LATE, .w1c, 0x0⟩,
    ⟨Reg.TIMG_EVT_MR_ABORT, .w1c, 0x0⟩,
    ⟨Reg.TIMG_EVT_MR_DONE, .w1c, 0x0⟩,
    ⟨Reg.TIMG_EVT_REFUSED, .w1c, 0x0⟩ ]

/-- All fields of the TIMG page.  -/
def timgFields : List FDef :=
  timgFields0 ++
  timgFields1 ++
  timgFields2

/-- Fields of the REFD page, part 0. -/
def refdFields0 : List FDef :=
  [ ⟨Reg.REFD_RCTL_AB, .rs, 0x0⟩,
    ⟨Reg.REFD_RCTL_TOKEN_EN, .rs, 0x1⟩,
    ⟨Reg.REFD_RCTL_TEMP_EN, .rs, 0x1⟩,
    ⟨Reg.REFD_RCTL_PULLMAX, .rs, 0x4⟩,
    ⟨Reg.REFD_RCTL_POSTMAX, .rs, 0x4⟩,
    ⟨Reg.REFD_RCTL_TREFI, .rs, 0x79e⟩,
    ⟨Reg.REFD_EPOCH_ERC, .rs, 0x10⟩,
    ⟨Reg.REFD_RHCTL_BUDGET_EN, .rs, 0x1⟩,
    ⟨Reg.REFD_RHCTL_PRAC_EN, .rs, 0x0⟩,
    ⟨Reg.REFD_RHCTL_NBR, .rs, 0x0⟩,
    ⟨Reg.REFD_RHCTL_BLAST, .rs, 0x0⟩,
    ⟨Reg.REFD_RHCTL_T, .rs, 0x800⟩,
    ⟨Reg.REFD_ALRT_PAR_WIN, .rs, 0x40⟩,
    ⟨Reg.REFD_ALRT_NRFM, .rs, 0x0⟩,
    ⟨Reg.REFD_ALRT_CRC_RETRY, .rs, 0x3⟩,
    ⟨Reg.REFD_THR_PWAIT, .rs, 0x4⟩,
    ⟨Reg.REFD_THR_QMAX, .rs, 0x8⟩,
    ⟨Reg.REFD_TSEL_ENG, .rw, 0x0⟩,
    ⟨Reg.REFD_TEMP_RATE, .ro, 0x0⟩,
    ⟨Reg.REFD_CNT0_MIT_RFM, .rw, 0x0⟩,
    ⟨Reg.REFD_CNT0_MIT_NBR, .rw, 0x0⟩,
    ⟨Reg.REFD_CNT1_THROT, .rw, 0x0⟩,
    ⟨Reg.REFD_CNT1_FORCED, .rw, 0x0⟩,
    ⟨Reg.REFD_CNT2_ABO, .rw, 0x0⟩ ]

/-- Fields of the REFD page, part 1. -/
def refdFields1 : List FDef :=
  [ ⟨Reg.REFD_CNT2_CRC, .rw, 0x0⟩,
    ⟨Reg.REFD_CNT2_PAR, .rw, 0x0⟩,
    ⟨Reg.REFD_EVT_ALERT_UNK, .w1c, 0x0⟩,
    ⟨Reg.REFD_EVT_ABO, .w1c, 0x0⟩,
    ⟨Reg.REFD_EVT_CRC_FAIL, .w1c, 0x0⟩,
    ⟨Reg.REFD_EVT_THROTTLE, .w1c, 0x0⟩,
    ⟨Reg.REFD_EVT_TEMP_CHG, .w1c, 0x0⟩,
    ⟨Reg.REFD_EVT_OVERTEMP, .w1c, 0x0⟩,
    ⟨Reg.REFD_EVT_REF_LATE, .w1c, 0x0⟩ ]

/-- All fields of the REFD page.  -/
def refdFields : List FDef :=
  refdFields0 ++
  refdFields1

/-- Fields of the ECCS page, part 0. -/
def eccsFields0 : List FDef :=
  [ ⟨Reg.ECCS_SCRB_EN, .rs, 0x1⟩,
    ⟨Reg.ECCS_SCRB_CATCH, .rs, 0x8⟩,
    ⟨Reg.ECCS_SCRB_PERIOD, .rs, 0x18⟩,
    ⟨Reg.ECCS_RPT_EN, .rs, 0x1⟩,
    ⟨Reg.ECCS_RPT_WIN, .rs, 0x2710⟩,
    ⟨Reg.ECCS_DEVCFG_DECAY, .rs, 0x18⟩,
    ⟨Reg.ECCS_DEVCFG_THR, .rs, 0x8⟩,
    ⟨Reg.ECCS_SCRPASS_PASS3, .rw, 0x0⟩,
    ⟨Reg.ECCS_SCRPASS_PASS2, .rw, 0x0⟩,
    ⟨Reg.ECCS_SCRPASS_PASS1, .rw, 0x0⟩,
    ⟨Reg.ECCS_SCRPASS_PASS0, .rw, 0x0⟩,
    ⟨Reg.ECCS_CNT0_CORR, .rw, 0x0⟩,
    ⟨Reg.ECCS_CNT0_UE, .rw, 0x0⟩,
    ⟨Reg.ECCS_CNT1_POISON, .rw, 0x0⟩,
    ⟨Reg.ECCS_CNT1_ADDR, .rw, 0x0⟩,
    ⟨Reg.ECCS_CNT2_SFIX, .rw, 0x0⟩,
    ⟨Reg.ECCS_CNT2_SUE, .rw, 0x0⟩,
    ⟨Reg.ECCS_CNT3_DIRECT, .rw, 0x0⟩,
    ⟨Reg.ECCS_CNT3_EVICT, .rw, 0x0⟩,
    ⟨Reg.ECCS_DSEL_CLR, .wo, 0x0⟩,
    ⟨Reg.ECCS_DSEL_RSEL, .rw, 0x0⟩,
    ⟨Reg.ECCS_DCNT0_G3_0, .ro, 0x0⟩,
    ⟨Reg.ECCS_DCNT1_G7_4, .ro, 0x0⟩,
    ⟨Reg.ECCS_DCNT2_G9_8, .ro, 0x0⟩ ]

/-- Fields of the ECCS page, part 1. -/
def eccsFields1 : List FDef :=
  [ ⟨Reg.ECCS_PCON0_P3_0, .ro, 0xe219a73d⟩,
    ⟨Reg.ECCS_PCON1_P7_4, .ro, 0x9158c46b⟩,
    ⟨Reg.ECCS_PCON2_P11_8, .ro, 0xe73b62f⟩,
    ⟨Reg.ECCS_PCON3_P15_12, .ro, 0xf08c45d9⟩,
    ⟨Reg.ECCS_ZCON0_Z3_0, .ro, 0x7d941bc6⟩,
    ⟨Reg.ECCS_ZCON1_Z7_4, .ro, 0x5caf23e8⟩,
    ⟨Reg.ECCS_ZCON2_Z11_8, .ro, 0x62f73a81⟩,
    ⟨Reg.ECCS_ZCON3_Z15_12, .ro, 0x9e49b40d⟩,
    ⟨Reg.ECCS_INJ_ARM, .rw, 0x0⟩,
    ⟨Reg.ECCS_INJ_CH, .rw, 0x0⟩,
    ⟨Reg.ECCS_INJ_SC, .rw, 0x0⟩,
    ⟨Reg.ECCS_INJ_GROUP, .rw, 0x0⟩,
    ⟨Reg.ECCS_INJ_SYM, .rw, 0x0⟩,
    ⟨Reg.ECCS_INJ_XV, .rw, 0x0⟩,
    ⟨Reg.ECCS_RSEL_SEL, .rw, 0x0⟩,
    ⟨Reg.ECCS_RINFO0_VLD, .ro, 0x0⟩,
    ⟨Reg.ECCS_RINFO0_WATCH, .ro, 0x0⟩,
    ⟨Reg.ECCS_RINFO0_CH, .ro, 0x0⟩,
    ⟨Reg.ECCS_RINFO0_GROUP, .ro, 0x0⟩,
    ⟨Reg.ECCS_RINFO0_COUNT, .ro, 0x0⟩,
    ⟨Reg.ECCS_RINFO1_L, .ro, 0x0⟩,
    ⟨Reg.ECCS_EVT_INJ_DONE, .w1c, 0x0⟩,
    ⟨Reg.ECCS_EVT_ERS_BUSY, .w1c, 0x0⟩,
    ⟨Reg.ECCS_EVT_SCRUB_LATE, .w1c, 0x0⟩ ]

/-- Fields of the ECCS page, part 2. -/
def eccsFields2 : List FDef :=
  [ ⟨Reg.ECCS_EVT_DEV_OVER, .w1c, 0x0⟩,
    ⟨Reg.ECCS_EVT_SCRUB_UE, .w1c, 0x0⟩,
    ⟨Reg.ECCS_EVT_ADDR, .w1c, 0x0⟩,
    ⟨Reg.ECCS_EVT_UE, .w1c, 0x0⟩,
    ⟨Reg.ECCS_EVT_CORR, .w1c, 0x0⟩ ]

/-- All fields of the ECCS page.  -/
def eccsFields : List FDef :=
  eccsFields0 ++
  eccsFields1 ++
  eccsFields2 ++
  (List.range 4).map (fun n => ⟨Reg.ECCS_SCRPOS_POS n, .ro, 0x0⟩) ++
  (List.range 4).map (fun j => ⟨Reg.ECCS_ERS_SLOTS j, .ro, 0x0⟩)

/-- Fields of the RPMR page, part 0. -/
def rpmrFields0 : List FDef :=
  [ ⟨Reg.RPMR_CFG_CRIT, .rs, 0x0⟩,
    ⟨Reg.RPMR_CFG_ROWTHR, .rs, 0x2⟩,
    ⟨Reg.RPMR_CFG_AUTO_CASTLE, .rs, 0x1⟩,
    ⟨Reg.RPMR_CFG_RR_EN, .rs, 0x1⟩,
    ⟨Reg.RPMR_CFG_RM_EN, .rs, 0x1⟩,
    ⟨Reg.RPMR_MCFG_RRTHR, .rs, 0x40⟩,
    ⟨Reg.RPMR_MCTL_RETIRE, .wo, 0x0⟩,
    ⟨Reg.RPMR_MCTL_CASTLE, .wo, 0x0⟩,
    ⟨Reg.RPMR_CHSTAT_STATE, .ro, 0x0⟩,
    ⟨Reg.RPMR_DGRSN_CHFAIL, .ro, 0x0⟩,
    ⟨Reg.RPMR_DGRSN_SPARE, .ro, 0x0⟩,
    ⟨Reg.RPMR_DGRSN_CASTLE, .ro, 0x0⟩,
    ⟨Reg.RPMR_DGRSN_ERASE, .ro, 0x0⟩,
    ⟨Reg.RPMR_RMREQ_GO, .rw, 0x0⟩,
    ⟨Reg.RPMR_RMREQ_CH, .rw, 0x0⟩,
    ⟨Reg.RPMR_RMREQ_SC, .rw, 0x0⟩,
    ⟨Reg.RPMR_RMREQ_RK, .rw, 0x0⟩,
    ⟨Reg.RPMR_RMREQ_BANK, .rw, 0x0⟩,
    ⟨Reg.RPMR_RMREQ_ROW, .rw, 0x0⟩,
    ⟨Reg.RPMR_ERSREQ_GO, .rw, 0x0⟩,
    ⟨Reg.RPMR_ERSREQ_CH, .rw, 0x0⟩,
    ⟨Reg.RPMR_ERSREQ_SC, .rw, 0x0⟩,
    ⟨Reg.RPMR_ERSREQ_RK, .rw, 0x0⟩,
    ⟨Reg.RPMR_ERSREQ_GROUP, .rw, 0x0⟩ ]

/-- Fields of the RPMR page, part 1. -/
def rpmrFields1 : List FDef :=
  [ ⟨Reg.RPMR_RMSEL_SEL, .rw, 0x0⟩,
    ⟨Reg.RPMR_RMINFO0_VLD, .ro, 0x0⟩,
    ⟨Reg.RPMR_RMINFO0_COPY, .ro, 0x0⟩,
    ⟨Reg.RPMR_RMINFO0_CH, .ro, 0x0⟩,
    ⟨Reg.RPMR_RMINFO0_SC, .ro, 0x0⟩,
    ⟨Reg.RPMR_RMINFO0_RK, .ro, 0x0⟩,
    ⟨Reg.RPMR_RMINFO0_BANK, .ro, 0x0⟩,
    ⟨Reg.RPMR_RMINFO0_SPIDX, .ro, 0x0⟩,
    ⟨Reg.RPMR_RMINFO1_ROW, .ro, 0x0⟩,
    ⟨Reg.RPMR_PPRIDX_AINC, .rw, 0x0⟩,
    ⟨Reg.RPMR_PPRIDX_NENT, .rs, 0x0⟩,
    ⟨Reg.RPMR_PPRIDX_ENTRY, .rw, 0x0⟩,
    ⟨Reg.RPMR_PPRW0_CH, .rs, 0x0⟩,
    ⟨Reg.RPMR_PPRW0_SC, .rs, 0x0⟩,
    ⟨Reg.RPMR_PPRW0_RK, .rs, 0x0⟩,
    ⟨Reg.RPMR_PPRW0_BANK, .rs, 0x0⟩,
    ⟨Reg.RPMR_PPRW0_ROW, .rs, 0x0⟩,
    ⟨Reg.RPMR_PPRW1_STATE, .rs, 0x0⟩,
    ⟨Reg.RPMR_PPRW1_DEVMASK, .rs, 0x0⟩,
    ⟨Reg.RPMR_PSEL_SEL, .rw, 0x0⟩,
    ⟨Reg.RPMR_PINFO0_VLD, .w1c, 0x0⟩,
    ⟨Reg.RPMR_PINFO0_REASON, .ro, 0x0⟩,
    ⟨Reg.RPMR_PINFO0_CH, .ro, 0x0⟩,
    ⟨Reg.RPMR_PINFO0_SC, .ro, 0x0⟩ ]

/-- Fields of the RPMR page, part 2. -/
def rpmrFields2 : List FDef :=
  [ ⟨Reg.RPMR_PINFO0_RK, .ro, 0x0⟩,
    ⟨Reg.RPMR_PINFO0_BANK, .ro, 0x0⟩,
    ⟨Reg.RPMR_PINFO0_DEVMASK, .ro, 0x0⟩,
    ⟨Reg.RPMR_PINFO1_ROW, .ro, 0x0⟩,
    ⟨Reg.RPMR_CNT0_RREP, .rw, 0x0⟩,
    ⟨Reg.RPMR_CNT0_RMAP, .rw, 0x0⟩,
    ⟨Reg.RPMR_CNT1_RRFAIL, .rw, 0x0⟩,
    ⟨Reg.RPMR_CNT1_RMREF, .rw, 0x0⟩,
    ⟨Reg.RPMR_EVT_CHFAIL, .w1c, 0x0⟩,
    ⟨Reg.RPMR_EVT_PPR_FAIL, .w1c, 0x0⟩,
    ⟨Reg.RPMR_EVT_PPR_DONE, .w1c, 0x0⟩,
    ⟨Reg.RPMR_EVT_PROP_OVF, .w1c, 0x0⟩,
    ⟨Reg.RPMR_EVT_PROP, .w1c, 0x0⟩,
    ⟨Reg.RPMR_EVT_RETIRED, .w1c, 0x0⟩,
    ⟨Reg.RPMR_EVT_CASTLED, .w1c, 0x0⟩,
    ⟨Reg.RPMR_EVT_RR_FAIL, .w1c, 0x0⟩,
    ⟨Reg.RPMR_EVT_RREP, .w1c, 0x0⟩,
    ⟨Reg.RPMR_EVT_SECOND_DEV, .w1c, 0x0⟩,
    ⟨Reg.RPMR_EVT_ERASED, .w1c, 0x0⟩,
    ⟨Reg.RPMR_EVT_RM_REFUSED, .w1c, 0x0⟩,
    ⟨Reg.RPMR_EVT_REMAP, .w1c, 0x0⟩ ]

/-- All fields of the RPMR page.  -/
def rpmrFields : List FDef :=
  rpmrFields0 ++
  rpmrFields1 ++
  rpmrFields2

/-- Fields of the TRAIN page, part 0. -/
def trainFields0 : List FDef :=
  [ ⟨Reg.TRAIN_CTL_RETRY, .rs, 0x1⟩,
    ⟨Reg.TRAIN_CTL_SAMPLES, .rs, 0x40⟩,
    ⟨Reg.TRAIN_CTL_DFE_EN, .rs, 0x1⟩,
    ⟨Reg.TRAIN_CTL_ERS_OK, .rs, 0x1⟩,
    ⟨Reg.TRAIN_CRIT_MINW_CA, .rs, 0x60⟩,
    ⟨Reg.TRAIN_CRIT_MINW_WR, .rs, 0x30⟩,
    ⟨Reg.TRAIN_CRIT_MINW_RD, .rs, 0x30⟩,
    ⟨Reg.TRAIN_STAT_STATE, .ro, 0x0⟩,
    ⟨Reg.TRAIN_DUR_DUR, .ro, 0x0⟩,
    ⟨Reg.TRAIN_FAIL_VLD, .w1c, 0x0⟩,
    ⟨Reg.TRAIN_FAIL_CH, .ro, 0x0⟩,
    ⟨Reg.TRAIN_FAIL_SC, .ro, 0x0⟩,
    ⟨Reg.TRAIN_FAIL_RK, .ro, 0x0⟩,
    ⟨Reg.TRAIN_FAIL_STEP, .ro, 0x0⟩,
    ⟨Reg.TRAIN_FAIL_GROUP, .ro, 0x0⟩,
    ⟨Reg.TRAIN_FAIL_REASON, .ro, 0x0⟩,
    ⟨Reg.TRAIN_EVT_RETRY, .w1c, 0x0⟩,
    ⟨Reg.TRAIN_EVT_ALL_FAIL, .w1c, 0x0⟩,
    ⟨Reg.TRAIN_EVT_GRP_ERASE, .w1c, 0x0⟩,
    ⟨Reg.TRAIN_EVT_CH_FAIL, .w1c, 0x0⟩,
    ⟨Reg.TRAIN_EVT_DONE, .w1c, 0x0⟩ ]

/-- All fields of the TRAIN page.  -/
def trainFields : List FDef :=
  trainFields0

/-- Fields of the CHN page, part 0. -/
def chnFields0 (p : Nat) : List FDef :=
  [ ⟨Reg.CHN_CFG_X8 p, .rs, 0x0⟩,
    ⟨Reg.CHN_CFG_POP p, .rs, 0x1⟩,
    ⟨Reg.CHN_ODT_DRAM_DRV p, .rs, 0x0⟩,
    ⟨Reg.CHN_ODT_PHY_DRV p, .rs, 0x1⟩,
    ⟨Reg.CHN_ODT_PHY_RTT p, .rs, 0x3⟩,
    ⟨Reg.CHN_ODT_RTT_PARK p, .rs, 0x3⟩,
    ⟨Reg.CHN_ODT_RTT_WR p, .rs, 0x2⟩,
    ⟨Reg.CHN_ODT_RTT_NOM_WR p, .rs, 0x3⟩,
    ⟨Reg.CHN_ODT_RTT_NOM_RD p, .rs, 0x3⟩,
    ⟨Reg.CHN_PLL_LOCK p, .ro, 0x0⟩,
    ⟨Reg.CHN_PLL_LOSS p, .rw, 0x0⟩,
    ⟨Reg.CHN_PLL_RELOCK p, .rw, 0x0⟩,
    ⟨Reg.CHN_PLL_LOCKT p, .ro, 0x0⟩,
    ⟨Reg.CHN_TEMP_VALID p, .ro, 0x0⟩,
    ⟨Reg.CHN_TEMP_T p, .ro, 0x0⟩,
    ⟨Reg.CHN_ZQ_DONE p, .ro, 0x0⟩,
    ⟨Reg.CHN_ZQ_ERR p, .ro, 0x0⟩,
    ⟨Reg.CHN_ZQ_PU p, .ro, 0x0⟩,
    ⟨Reg.CHN_ZQ_PD p, .ro, 0x0⟩,
    ⟨Reg.CHN_TSEL_SC p, .rw, 0x0⟩,
    ⟨Reg.CHN_TSEL_RK p, .rw, 0x0⟩,
    ⟨Reg.CHN_TSEL_GRP p, .rw, 0x0⟩,
    ⟨Reg.CHN_TRIM0_WR_DLY p, .ro, 0x0⟩,
    ⟨Reg.CHN_TRIM0_RD_DLY p, .ro, 0x0⟩ ]

/-- Fields of the CHN page, part 1. -/
def chnFields1 (p : Nat) : List FDef :=
  [ ⟨Reg.CHN_TRIM0_HVREF p, .ro, 0x0⟩,
    ⟨Reg.CHN_TRIM1_WL_C p, .ro, 0x0⟩,
    ⟨Reg.CHN_TRIM1_WL_F p, .ro, 0x0⟩,
    ⟨Reg.CHN_TRIM1_GATE_C p, .ro, 0x0⟩,
    ⟨Reg.CHN_TRIM1_GATE_F p, .ro, 0x0⟩,
    ⟨Reg.CHN_TRIM1_DVREF p, .ro, 0x0⟩,
    ⟨Reg.CHN_TRIM2_RDSK p, .ro, 0x0⟩,
    ⟨Reg.CHN_TRIM3_DFE p, .ro, 0x0⟩,
    ⟨Reg.CHN_TRIM3_WDSK p, .ro, 0x0⟩,
    ⟨Reg.CHN_TRIM4_CA_DLY p, .ro, 0x0⟩,
    ⟨Reg.CHN_TRIM4_CS_DLY p, .ro, 0x0⟩,
    ⟨Reg.CHN_TRIM4_VREFCA p, .ro, 0x0⟩,
    ⟨Reg.CHN_TRIM4_VREFCS p, .ro, 0x0⟩,
    ⟨Reg.CHN_EYE_CA_W p, .ro, 0x0⟩,
    ⟨Reg.CHN_EYE_WR_W p, .ro, 0x0⟩,
    ⟨Reg.CHN_EYE_RD_W p, .ro, 0x0⟩,
    ⟨Reg.CHN_EVT_RELOCK_FAIL p, .w1c, 0x0⟩,
    ⟨Reg.CHN_EVT_RELOCK p, .w1c, 0x0⟩,
    ⟨Reg.CHN_EVT_LOCK_LOST p, .w1c, 0x0⟩,
    ⟨Reg.CHN_EVT_ZQ_ERR p, .w1c, 0x0⟩ ]

/-- All fields of the CHN page.  -/
def chnFields (p : Nat) : List FDef :=
  chnFields0 p ++
  chnFields1 p

/-- Fields of the BOOK page, part 0. -/
def bookFields0 : List FDef :=
  [ ⟨Reg.BOOK_LCTL_EP_EN, .rs, 0x1⟩,
    ⟨Reg.BOOK_LCTL_WR_EN, .rs, 0x1⟩,
    ⟨Reg.BOOK_LCTL_INTERP_EN, .rs, 0x1⟩,
    ⟨Reg.BOOK_LCTL_DRIFT, .rs, 0x10⟩,
    ⟨Reg.BOOK_LCTL_GAPWAIT, .rs, 0x2⟩,
    ⟨Reg.BOOK_LCTL_PERIOD, .rs, 0xa⟩,
    ⟨Reg.BOOK_EPCTL_SPAN, .rs, 0x50⟩,
    ⟨Reg.BOOK_EPCTL_STRIDE, .rs, 0x4⟩,
    ⟨Reg.BOOK_EPCTL_ERRMAX, .rs, 0x0⟩,
    ⟨Reg.BOOK_EPCTL_SAMPLES, .rs, 0x20⟩,
    ⟨Reg.BOOK_PROBE_RUNTMO, .rs, 0x64⟩,
    ⟨Reg.BOOK_PROBE_PRATE, .rs, 0x1⟩,
    ⟨Reg.BOOK_PROBE_WLINES, .rs, 0x4⟩,
    ⟨Reg.BOOK_PROBE_PWAIT, .rs, 0x14⟩,
    ⟨Reg.BOOK_CNT0_RUNS, .rw, 0x0⟩,
    ⟨Reg.BOOK_CNT0_DISAGREE, .rw, 0x0⟩,
    ⟨Reg.BOOK_CNT1_PROBES, .rw, 0x0⟩,
    ⟨Reg.BOOK_CNT1_ABORT, .rw, 0x0⟩,
    ⟨Reg.BOOK_CNT2_GAPINS, .rw, 0x0⟩,
    ⟨Reg.BOOK_CNT2_SKIP, .rw, 0x0⟩,
    ⟨Reg.BOOK_SEL_POINT, .rw, 0x0⟩,
    ⟨Reg.BOOK_SEL_CH, .rw, 0x0⟩,
    ⟨Reg.BOOK_SEL_SC, .rw, 0x0⟩,
    ⟨Reg.BOOK_SEL_RK, .rw, 0x0⟩ ]

/-- Fields of the BOOK page, part 1. -/
def bookFields1 : List FDef :=
  [ ⟨Reg.BOOK_SEL_GRP, .rw, 0x0⟩,
    ⟨Reg.BOOK_ENT0_WR_DLY, .ro, 0x0⟩,
    ⟨Reg.BOOK_ENT0_RD_DLY, .ro, 0x0⟩,
    ⟨Reg.BOOK_ENT0_HVREF, .ro, 0x0⟩,
    ⟨Reg.BOOK_ENT1_RM, .ro, 0x0⟩,
    ⟨Reg.BOOK_ENT1_RTHETA, .ro, 0x0⟩,
    ⟨Reg.BOOK_ENT1_WM, .ro, 0x0⟩,
    ⟨Reg.BOOK_ENT1_WTHETA, .ro, 0x0⟩,
    ⟨Reg.BOOK_ENT2_RDSK, .ro, 0x0⟩,
    ⟨Reg.BOOK_ENT3_WDSK, .ro, 0x0⟩,
    ⟨Reg.BOOK_EVT_SKIP, .w1c, 0x0⟩,
    ⟨Reg.BOOK_EVT_EP_ERASE, .w1c, 0x0⟩,
    ⟨Reg.BOOK_EVT_DISAGREE, .w1c, 0x0⟩,
    ⟨Reg.BOOK_EVT_ABORT, .w1c, 0x0⟩,
    ⟨Reg.BOOK_EVT_DRIFT_PASS, .w1c, 0x0⟩,
    ⟨Reg.BOOK_EVT_PASS_DONE, .w1c, 0x0⟩ ]

/-- All fields of the BOOK page.  -/
def bookFields : List FDef :=
  bookFields0 ++
  bookFields1 ++
  [⟨Reg.BOOK_RUN_STATE, .ro, 0x0⟩] ++
  (List.range 4).map (fun n => ⟨Reg.BOOK_PASS_LAST n, .ro, 0x0⟩)

/-- Fields of the CRYP page, part 0. -/
def crypFields0 : List FDef :=
  [ ⟨Reg.CRYP_CFG_HALT_CLR, .rs, 0x1⟩,
    ⟨Reg.CRYP_CFG_PRESENT, .ro, 0x0⟩,
    ⟨Reg.CRYP_KSTAT_CLEARED, .ro, 0x1⟩,
    ⟨Reg.CRYP_KSTAT_VERIFY_FAIL, .ro, 0x0⟩,
    ⟨Reg.CRYP_KSTAT_TAMPER, .ro, 0x0⟩,
    ⟨Reg.CRYP_KSTAT_CAUSE, .ro, 0x0⟩,
    ⟨Reg.CRYP_KSTAT_VALID_N, .ro, 0x1⟩,
    ⟨Reg.CRYP_KSEL_SLOT, .rw, 0x0⟩,
    ⟨Reg.CRYP_KCMD_BUSY, .ro, 0x0⟩,
    ⟨Reg.CRYP_KCMD_CMD, .wo, 0x0⟩,
    ⟨Reg.CRYP_KSLOT_STATE, .ro, 0x0⟩,
    ⟨Reg.CRYP_KSLOT_PORTS, .rw, 0x0⟩,
    ⟨Reg.CRYP_NECPORT_NEC, .rw, 0x0⟩,
    ⟨Reg.CRYP_CNT_KEYFAULT, .rw, 0x0⟩,
    ⟨Reg.CRYP_CNT_KPOISON, .rw, 0x0⟩,
    ⟨Reg.CRYP_EVT_VERIFY_FAIL, .w1c, 0x0⟩,
    ⟨Reg.CRYP_EVT_WPOISON, .w1c, 0x0⟩,
    ⟨Reg.CRYP_EVT_KEYFAULT, .w1c, 0x0⟩,
    ⟨Reg.CRYP_EVT_REFUSED, .w1c, 0x0⟩,
    ⟨Reg.CRYP_EVT_CLEARED, .w1c, 0x0⟩,
    ⟨Reg.CRYP_EVT_LOAD_DONE, .w1c, 0x0⟩ ]

/-- All fields of the CRYP page.  -/
def crypFields : List FDef :=
  crypFields0 ++
  (List.range 16).map (fun n => ⟨Reg.CRYP_KEYW_KEY n, .wo, 0x0⟩)

/-- Fields of the PWRM page, part 0. -/
def pwrmFields0 : List FDef :=
  [ ⟨Reg.PWRM_STAT_WAKING, .ro, 0x0⟩,
    ⟨Reg.PWRM_STAT_ENTERING, .ro, 0x0⟩,
    ⟨Reg.PWRM_STAT_VOTING, .ro, 0x0⟩,
    ⟨Reg.PWRM_STAT_SLEEP, .ro, 0x0⟩,
    ⟨Reg.PWRM_STAT_CRYP_ON, .ro, 0x1⟩,
    ⟨Reg.PWRM_STAT_CORE_ON, .ro, 0x1⟩,
    ⟨Reg.PWRM_STAT_PHY_ON, .ro, 0x0⟩,
    ⟨Reg.PWRM_EVT_LATE_WAKE, .w1c, 0x0⟩,
    ⟨Reg.PWRM_EVT_VMODE, .w1c, 0x0⟩,
    ⟨Reg.PWRM_EVT_PGOOD_LOST, .w1c, 0x0⟩,
    ⟨Reg.PWRM_EVT_VREQ_FAIL, .w1c, 0x0⟩,
    ⟨Reg.PWRM_EVT_WAKE_FAIL, .w1c, 0x0⟩,
    ⟨Reg.PWRM_EVT_REFUSED, .w1c, 0x0⟩,
    ⟨Reg.PWRM_EVT_WOKE, .w1c, 0x0⟩,
    ⟨Reg.PWRM_EVT_SLEPT, .w1c, 0x0⟩,
    ⟨Reg.PWRM_VLOOP_EN, .rs, 0x1⟩,
    ⟨Reg.PWRM_VLOOP_UP, .rs, 0x4b⟩,
    ⟨Reg.PWRM_VLOOP_DN, .rs, 0x19⟩,
    ⟨Reg.PWRM_VLOOP_HOLD, .rs, 0x4⟩,
    ⟨Reg.PWRM_VLOOP_WIN, .rs, 0xc8⟩,
    ⟨Reg.PWRM_VLIM_VSLEEP, .rs, 0x0⟩,
    ⟨Reg.PWRM_VLIM_VMAX, .rs, 0x14⟩,
    ⟨Reg.PWRM_VLIM_VMIN, .rs, 0x0⟩,
    ⟨Reg.PWRM_REG_PEC, .rs, 0x1⟩ ]

/-- Fields of the PWRM page, part 1. -/
def pwrmFields1 : List FDef :=
  [ ⟨Reg.PWRM_REG_SPD, .rs, 0x1⟩,
    ⟨Reg.PWRM_REG_ADDR, .rs, 0x40⟩,
    ⟨Reg.PWRM_VSTAT_BUSY, .ro, 0x0⟩,
    ⟨Reg.PWRM_VSTAT_PGOOD, .ro, 0x0⟩,
    ⟨Reg.PWRM_VSTAT_MODE_OK, .ro, 0x0⟩,
    ⟨Reg.PWRM_VSTAT_VCMD, .ro, 0x0⟩,
    ⟨Reg.PWRM_VSTAT_VACK, .ro, 0x0⟩,
    ⟨Reg.PWRM_VSTAT_EXP, .ro, 0x0⟩,
    ⟨Reg.PWRM_VSTAT_DEMAND, .ro, 0x0⟩,
    ⟨Reg.PWRM_RSTAT_RD_FAIL, .ro, 0x0⟩,
    ⟨Reg.PWRM_RSTAT_STATUS, .ro, 0x0⟩,
    ⟨Reg.PWRM_SLP_EN, .rs, 0x1⟩,
    ⟨Reg.PWRM_SLP_SCRLAG, .rs, 0x2⟩,
    ⟨Reg.PWRM_SLP_IDLE, .rs, 0x3e8⟩,
    ⟨Reg.PWRM_SLPT_CIDLE, .rs, 0x64⟩,
    ⟨Reg.PWRM_SLPT_VTMO, .rs, 0x32⟩,
    ⟨Reg.PWRM_VOTE_LAST, .ro, 0xf⟩,
    ⟨Reg.PWRM_VOTE_AGREED, .ro, 0x0⟩,
    ⟨Reg.PWRM_REFCNT0_SCH, .rw, 0x0⟩,
    ⟨Reg.PWRM_REFCNT1_OTHER, .rw, 0x0⟩,
    ⟨Reg.PWRM_ABTCNT_HOST, .rw, 0x0⟩,
    ⟨Reg.PWRM_ABTCNT_TIMEOUT, .rw, 0x0⟩,
    ⟨Reg.PWRM_CNT_ENTRIES, .rw, 0x0⟩,
    ⟨Reg.PWRM_CNT_WAKES, .rw, 0x0⟩ ]

/-- Fields of the PWRM page, part 2. -/
def pwrmFields2 : List FDef :=
  [ ⟨Reg.PWRM_WAKE_SRC, .ro, 0x0⟩,
    ⟨Reg.PWRM_WAKE_LATE, .ro, 0x0⟩,
    ⟨Reg.PWRM_WAKE_WTIME, .ro, 0x0⟩ ]

/-- All fields of the PWRM page.  -/
def pwrmFields : List FDef :=
  pwrmFields0 ++
  pwrmFields1 ++
  pwrmFields2

/-- Fields of the SIDE page, part 0. -/
def sideFields0 : List FDef :=
  [ ⟨Reg.SIDE_TCFG_I3C, .ro, 0x0⟩,
    ⟨Reg.SIDE_TCFG_DADDR, .ro, 0x0⟩,
    ⟨Reg.SIDE_TCFG_SADDR, .rs, 0x3c⟩,
    ⟨Reg.SIDE_DCFG_TSPER, .rs, 0x10⟩,
    ⟨Reg.SIDE_DCFG_PMTMO, .rs, 0xa⟩,
    ⟨Reg.SIDE_SPDSTAT_PGOOD, .ro, 0x0⟩,
    ⟨Reg.SIDE_SPDSTAT_SPD, .ro, 0x0⟩,
    ⟨Reg.SIDE_SPDIDX_AINC, .rw, 0x0⟩,
    ⟨Reg.SIDE_SPDIDX_CH, .rw, 0x0⟩,
    ⟨Reg.SIDE_SPDIDX_IDX, .rw, 0x0⟩,
    ⟨Reg.SIDE_SPDDAT_DATA, .ro, 0x0⟩,
    ⟨Reg.SIDE_DXFER_GO, .rw, 0x0⟩,
    ⟨Reg.SIDE_DXFER_WR, .rw, 0x0⟩,
    ⟨Reg.SIDE_DXFER_CH, .rw, 0x0⟩,
    ⟨Reg.SIDE_DXFER_DEV, .rw, 0x0⟩,
    ⟨Reg.SIDE_DXFER_ERR, .ro, 0x0⟩,
    ⟨Reg.SIDE_DXFER_REG, .rw, 0x0⟩,
    ⟨Reg.SIDE_DXFER_DATA, .rw, 0x0⟩,
    ⟨Reg.SIDE_EVT_XFER_ERR, .w1c, 0x0⟩,
    ⟨Reg.SIDE_EVT_XFER_DONE, .w1c, 0x0⟩,
    ⟨Reg.SIDE_EVT_PMIC_FAIL, .w1c, 0x0⟩,
    ⟨Reg.SIDE_EVT_SPD_ERR, .w1c, 0x0⟩,
    ⟨Reg.SIDE_EVT_SPD_DONE, .w1c, 0x0⟩ ]

/-- All fields of the SIDE page.  -/
def sideFields : List FDef :=
  sideFields0 ++
  (List.range 4).map (fun n => ⟨Reg.SIDE_TS_V1 n, .ro, 0x0⟩) ++
  (List.range 4).map (fun n => ⟨Reg.SIDE_TS_TS1 n, .ro, 0x0⟩) ++
  (List.range 4).map (fun n => ⟨Reg.SIDE_TS_V0 n, .ro, 0x0⟩) ++
  (List.range 4).map (fun n => ⟨Reg.SIDE_TS_TS0 n, .ro, 0x0⟩)

/-- Fields of the BIST page, part 0. -/
def bistFields0 : List FDef :=
  [ ⟨Reg.BIST_STAT_SLICE, .ro, 0xf⟩,
    ⟨Reg.BIST_STAT_PHASE, .ro, 0x0⟩,
    ⟨Reg.BIST_EVT_RECORD_BAD, .w1c, 0x0⟩,
    ⟨Reg.BIST_EVT_REQ_IGNORED, .w1c, 0x0⟩,
    ⟨Reg.BIST_EVT_INCOMPLETE, .w1c, 0x0⟩,
    ⟨Reg.BIST_EVT_SLICE_FAIL, .w1c, 0x0⟩,
    ⟨Reg.BIST_EVT_DRAIN_INC, .w1c, 0x0⟩,
    ⟨Reg.BIST_EVT_DONE, .w1c, 0x0⟩,
    ⟨Reg.BIST_SDREQ_GO, .wo, 0x0⟩,
    ⟨Reg.BIST_CFG_RETIRE, .rs, 0x1⟩,
    ⟨Reg.BIST_CFG_REPAIR, .rs, 0x1⟩,
    ⟨Reg.BIST_CFG_DRTMO, .rs, 0x3e8⟩,
    ⟨Reg.BIST_BUD0_S3, .rs, 0x4⟩,
    ⟨Reg.BIST_BUD0_S2, .rs, 0x14⟩,
    ⟨Reg.BIST_BUD0_S1, .rs, 0x1e⟩,
    ⟨Reg.BIST_BUD0_S0, .rs, 0x3c⟩,
    ⟨Reg.BIST_BUD1_S5, .rs, 0x6⟩,
    ⟨Reg.BIST_BUD1_S4, .rs, 0x14⟩,
    ⟨Reg.BIST_RET_BEGRP, .ro, 0x0⟩,
    ⟨Reg.BIST_RET_PORT, .ro, 0x0⟩,
    ⟨Reg.BIST_RET_PHY, .ro, 0x0⟩,
    ⟨Reg.BIST_SRAM_RQ, .ro, 0x0⟩,
    ⟨Reg.BIST_SRAM_WQ, .ro, 0x0⟩,
    ⟨Reg.BIST_SRAM_RB, .ro, 0x0⟩ ]

/-- Fields of the BIST page, part 1. -/
def bistFields1 : List FDef :=
  [ ⟨Reg.BIST_SRAM_WB, .ro, 0x0⟩ ]

/-- All fields of the BIST page.  -/
def bistFields : List FDef :=
  bistFields0 ++
  bistFields1 ++
  (List.range 6).map (fun n => ⟨Reg.BIST_EXP_EXP n, .ro, 0x0⟩) ++
  (List.range 16).map (fun n => ⟨Reg.BIST_REC_REC n, .rw, 0x0⟩)

/-- Fields of the FLTC page, part 0. -/
def fltcFields0 : List FDef :=
  [ ⟨Reg.FLTC_CFG_FORCE_F, .rs, 0x0⟩,
    ⟨Reg.FLTC_CFG_FF_C, .rs, 0x0⟩,
    ⟨Reg.FLTC_CFG_CHK, .rs, 0x186a0⟩,
    ⟨Reg.FLTC_ESC0_ESC, .rs, 0x80203010⟩,
    ⟨Reg.FLTC_ESC1_ESC, .rs, 0x3000⟩,
    ⟨Reg.FLTC_FFCTL_VLD, .w1c, 0x0⟩,
    ⟨Reg.FLTC_LOGPOP_W0, .ro, 0x0⟩,
    ⟨Reg.FLTC_LOGSTAT_EMPTY, .ro, 0x1⟩,
    ⟨Reg.FLTC_LOGSTAT_UNDER, .w1c, 0x0⟩,
    ⟨Reg.FLTC_LOGSTAT_LVL, .ro, 0x0⟩,
    ⟨Reg.FLTC_LOGSTAT_DEPTH, .ro, 0x0⟩,
    ⟨Reg.FLTC_LOGSTAT_OVF, .rw, 0x0⟩,
    ⟨Reg.FLTC_LOGWM_HI, .rs, 0x30⟩,
    ⟨Reg.FLTC_LOGWM_LO, .rs, 0x10⟩,
    ⟨Reg.FLTC_LOGECC_CE, .rw, 0x0⟩,
    ⟨Reg.FLTC_LOGECC_UE, .rw, 0x0⟩,
    ⟨Reg.FLTC_CNT0_C, .rw, 0x0⟩,
    ⟨Reg.FLTC_CNT0_D, .rw, 0x0⟩,
    ⟨Reg.FLTC_CNT1_U, .rw, 0x0⟩,
    ⟨Reg.FLTC_CNT1_F, .rw, 0x0⟩,
    ⟨Reg.FLTC_CHKSTAT_RUN, .ro, 0x0⟩,
    ⟨Reg.FLTC_CHKSTAT_SRC, .ro, 0x0⟩,
    ⟨Reg.FLTC_CHKSTAT_REM, .ro, 0x0⟩,
    ⟨Reg.FLTC_EVT_LOG_UE, .w1c, 0x0⟩ ]

/-- Fields of the FLTC page, part 1. -/
def fltcFields1 : List FDef :=
  [ ⟨Reg.FLTC_EVT_LOG_OVF, .w1c, 0x0⟩,
    ⟨Reg.FLTC_EVT_LOG_LO, .w1c, 0x0⟩,
    ⟨Reg.FLTC_EVT_LOG_HI, .w1c, 0x0⟩,
    ⟨Reg.FLTC_EVT_ESC, .w1c, 0x0⟩,
    ⟨Reg.FLTC_EVT_CAP_F, .w1c, 0x0⟩,
    ⟨Reg.FLTC_EVT_CAP_U, .w1c, 0x0⟩,
    ⟨Reg.FLTC_EVT_CAP_D, .w1c, 0x0⟩,
    ⟨Reg.FLTC_EVT_CAP_C, .w1c, 0x0⟩ ]

/-- All fields of the FLTC page.  -/
def fltcFields : List FDef :=
  fltcFields0 ++
  fltcFields1 ++
  (List.range 2).map (fun n => ⟨Reg.FLTC_STS_STS n, .w1c, 0x0⟩) ++
  (List.range 4).map (fun n => ⟨Reg.FLTC_FF_FF n, .ro, 0x0⟩) ++
  (List.range 2).map (fun n => ⟨Reg.FLTC_SEEN_SEEN n, .ro, 0x0⟩) ++
  (List.range 4).map (fun n => ⟨Reg.FLTC_LOGW_W n, .ro, 0x0⟩)

/-- All fields of the AMAP page. -/
def amapFields : List FDef :=
  amapFields0 ++
  amapFields1 ++
  (List.range 4).map (fun n => ⟨Reg.AMAP_CHDEC_SPARE n, .rs, 0x2⟩) ++
  (List.range 4).map (fun n => ⟨Reg.AMAP_CHDEC_BHASH n, .rs, 0x1⟩) ++
  (List.range 4).map (fun n => ⟨Reg.AMAP_CHDEC_RK_EN n, .rs, 0x1⟩) ++
  (List.range 4).map (fun n => ⟨Reg.AMAP_CHDEC_COL7 n, .rs, 0x1⟩) ++
  (List.range 4).map (fun n => ⟨Reg.AMAP_CHDEC_ROW_BITS n, .rs, 0x12⟩) ++
  (List.range 4).map (fun n => ⟨Reg.AMAP_CHSEL_RK n, .rs, 0xd⟩) ++
  (List.range 4).map (fun n => ⟨Reg.AMAP_CHSEL_BA1 n, .rs, 0xc⟩) ++
  (List.range 4).map (fun n => ⟨Reg.AMAP_CHSEL_BA0 n, .rs, 0xb⟩) ++
  (List.range 4).map (fun n => ⟨Reg.AMAP_CHSEL_BG2 n, .rs, 0x3⟩) ++
  (List.range 4).map (fun n => ⟨Reg.AMAP_CHSEL_BG1 n, .rs, 0x2⟩) ++
  (List.range 4).map (fun n => ⟨Reg.AMAP_CHSEL_BG0 n, .rs, 0x1⟩) ++
  (List.range 4).map (fun n => ⟨Reg.AMAP_CHSEL_SC n, .rs, 0x0⟩) ++
  (List.range 16).flatMap amapEntryFields ++ (List.range 16).flatMap amapRetainedFields

/-- The event bits a page defines (R69, R135, R160, R196, ...) are W1C and their enables RW at the same positions; this
is the mask of the enables of page `p`, given by the width of its event table. -/
def evtWidth (p : Nat) : Nat :=
  if p = 0 then 5 else if p = 1 then 9 else if p = 2 then 8 else if p = 3 then 11 else if p = 4 then 5
  else if p = 5 then 6 else if p = 6 then 6 else if p = 7 then 13 else if p < 16 then 8 else if p = 0x10 then 4
  else if p = 0x11 then 4 else if p = 0x12 then 7 else if p = 0x13 then 0 else if p = 0x14 then 8
  else if p = 0x15 then 13 else if p = 0x16 then 5 else if p = 0x17 then 6 else if p < 0x1C then 4 else 0

/-- The field table of page `p` (R518), with the event enables of R519. -/
def pageFields (p : Nat) : List FDef :=
  (if evtWidth p = 0 then [] else [⟨⟨p, 0x018, evtWidth p - 1, 0⟩, .rw, 0⟩]) ++
  (if p = 0 then globFields else if p = 1 then fltcFields else if p = 2 then pwrmFields else if p = 3 then ringFields
  else if p = 4 then sideFields else if p = 5 then bistFields else if p = 6 then crypFields else if p = 7 then amapFields
  else if p < 16 then hptFields (p - 8) else if p = 0x10 then schdFields else if p = 0x11 then timgFields
  else if p = 0x12 then refdFields else if p = 0x13 then bengFields else if p = 0x14 then eccsFields
  else if p = 0x15 then rpmrFields else if p = 0x16 then trainFields else if p = 0x17 then bookFields
  else if p < 0x1C then chnFields (p - 0x18) else [])

/-- The non-zero reset words of a page, by byte offset: the Reset columns of the field tables, joined per register. -/
def pageResets (p : Nat) : List (Nat × Word) :=
  if p = 0x0 then
    [(0x10, 0x10), (0x44, 0x100840), (0x68, 0x3e8), (0x200, 0xe000a0), (0x204, 0x2), (0x208, 0x1000000), (0x20c, 0x1c00140), (0x240, 0xa)]
  else if p = 0x1 then
    [(0x40, 0x186a0), (0x4c, 0x80203010), (0x50, 0x3000), (0x80, 0x80000000), (0x84, 0x300010)]
  else if p = 0x2 then
    [(0x10, 0x180), (0x40, 0xcb1940c8), (0x44, 0x280), (0x48, 0x2c0), (0x54, 0x820003e8), (0x58, 0x640032), (0x5c, 0xf0000000)]
  else if p = 0x3 then
    [(0x40, 0x14011902)]
  else if p = 0x4 then
    [(0x40, 0x3c), (0x44, 0x100a)]
  else if p = 0x5 then
    [(0x10, 0xf0), (0x44, 0x303e8), (0x48, 0x4141e3c), (0x4c, 0x614)]
  else if p = 0x6 then
    [(0x40, 0x2), (0x44, 0x80000001)]
  else if p = 0x7 then
    [(0x40, 0x64), (0x50, 0x2e12), (0x54, 0x2e12), (0x58, 0x2e12), (0x5c, 0x2e12), (0x60, 0xdcb3210), (0x64, 0xdcb3210), (0x68, 0xdcb3210), (0x6c, 0xdcb3210), (0x70, 0x4000)]
  else if 8 ≤ p ∧ p < 16 then
    [(0x40, 0x5), (0x44, 0xfa1388), (0x48, 0x190), (0x4c, 0x20), (0x50, 0x80)]
  else if p = 0x10 then
    [(0x8, 0x1c), (0x40, 0x4), (0x44, 0x640032), (0x48, 0x342414), (0x4c, 0xa00070), (0x50, 0x220000c), (0x54, 0x4100000), (0x5c, 0x8040201), (0x60, 0xff402010)]
  else if p = 0x11 then
    [(0x10, 0x20), (0x40, 0x20), (0x44, 0x1800001a), (0x48, 0x341a001a), (0x4c, 0x30000c), (0x50, 0x200808), (0x54, 0x200808), (0x58, 0x1004), (0x5c, 0xd00290), (0x60, 0xd00290), (0x64, 0x30), (0x68, 0x101018), (0x6c, 0x803003e8), (0x70, 0x8101000), (0x74, 0x40002a0), (0x78, 0x4444)]
  else if p = 0x12 then
    [(0x40, 0xe40079e), (0x44, 0x10), (0x48, 0x80000800), (0x4c, 0x400003), (0x50, 0x408)]
  else if p = 0x14 then
    [(0x40, 0x80080018), (0x44, 0x80002710), (0x48, 0x180008), (0x94, 0xe219a73d), (0x98, 0x9158c46b), (0x9c, 0xe73b62f), (0xa0, 0xf08c45d9), (0xa4, 0x7d941bc6), (0xa8, 0x5caf23e8), (0xac, 0x62f73a81), (0xb0, 0x9e49b40d)]
  else if p = 0x15 then
    [(0x40, 0x20007), (0x44, 0x40)]
  else if p = 0x16 then
    [(0x40, 0x10403), (0x44, 0x1806030)]
  else if p = 0x17 then
    [(0x40, 0xe010020a), (0x44, 0x504020), (0x48, 0x64010414)]
  else if 0x18 ≤ p ∧ p < 0x1C then
    [(0x40, 0x1), (0x44, 0x2da6c0)]
  else []

end Sys2Proof.Machine
end

