-- ==== Sys2Proof/Machine/State.lean ====
section
/-! DEFINITION. The state of the tile as plain data: every register, buffer, queue, table, counter, mode and pin the spec gives
it, and the queue of waiting commands. Registers stand in one store by page and byte offset; the records below hold what
is not a register. -/

namespace Sys2Proof.Machine

/-- The six modes of R5. -/
inductive Mode where
  | bringup | service | degraded | sleep | endgame | halt
  deriving DecidableEq, Repr

/-- What the configurator built (R3, R530). -/
structure Build where
  ports : Nat
  channels : Nat
  crypt : Bool
  ring : Bool
  mfr : BitVec 11
  deriving DecidableEq, Repr

/-- The response status codes of R41. -/
inductive Status where
  | ok | okFixed | poison | ue | decode | notready | offline | halted | keyfault | walkdev | locklost | illegal
  deriving DecidableEq, Repr

/-- A response flit before or after its first send (R39, R54, R55). -/
structure Rsp where
  rid : Nat
  cls : Nat
  tag : BitVec 12
  idx : Nat
  status : Status
  misroute : Bool
  data : LineData
  /-- it takes a response buffer entry; false for the status responder's flits (R54) -/
  entry : Bool
  seq : BitVec 12
  deriving DecidableEq, Repr

/-- A host request waiting at the pins behind a withheld acknowledge (R31), with the Tempo of its request edge. -/
structure HeldRq where
  op : Op
  flit : RqFlit
  tq : Tempo
  deriving DecidableEq, Repr

/-- One host port (R28, R48, R54-R60). `ready` holds responses not yet sent in the order they became ready, `sent` the
sent and unreleased ones in send order; `rep` is the place in `sent` of the next repeat of R57. -/
structure Port where
  rst : Bool
  panic : Bool
  creds : Nat
  ready : List Rsp
  sent : List Rsp
  rep : Option Nat
  next : BitVec 12
  nakSeq : Option (BitVec 12)
  nakRun : Nat
  rqHeld : List HeldRq
  wdHeld : List WdFlit
  retired : Bool
  deriving DecidableEq, Repr

/-- Where a request came from: a host port, or a forwarding tile with the message number of its FWD_REQ (R146). -/
inductive Origin where
  | port (p : Nat)
  | ring (tile mseq : Nat)
  deriving DecidableEq, Repr

/-- Where a request stands: in the ingress stage, held at the decoder (R119, R450), in the queues or the hazard unit,
waiting as a FLUSH, forwarded to another tile, or answered. -/
inductive Stage where
  | ingress | heldMap | heldFill | queued | flushing | forwarded | answered
  deriving DecidableEq, Repr

/-- One accepted request (R43, R77, R86). -/
structure Req where
  rid : Nat
  org : Origin
  op : Op
  flit : RqFlit
  /-- Tempo at the request edge, and at the last write-data flit: the later starts the interval of R188 -/
  t0 : Tempo
  tLast : Tempo
  dl : Tempo
  eff : Tempo
  clamped : Bool
  promo : Bool
  stage : Stage
  dup : Bool
  /-- response-buffer entries reserved and not yet filled (R54) -/
  rsv : Nat
  /-- line-slots already moved (R80) -/
  moved : Nat
  /-- response flits not yet sent for the first time -/
  owed : Nat
  /-- index of the next line of a burst to be sent (R55) -/
  nextIdx : Nat
  /-- the requests a FLUSH covers (R100); of a forwarded request its map entry and version (R122) -/
  covers : List Nat
  /-- the lines admitted under R186 -/
  admitted : List Nat
  /-- some line was found uncorrectable in the write data buffer (R42) -/
  wue : Bool
  /-- a trigger has destroyed its key after its key check (R398) -/
  gone : Bool
  deriving DecidableEq, Repr

/-- One line of the write data buffer (R37, R48). `own` is the port whose credit it holds, none for a line received over the
ring; `rid` is none for an orphan. `upset` gives the stored bits that have flipped (R45). -/
structure WLine where
  own : Option Nat
  rid : Option Nat
  tag : BitVec 12
  idx : Nat
  data : LineData
  upset : LineData
  deriving DecidableEq, Repr

/-- A line lock (R91-R95), with the TMO in force when it was taken (R522). -/
structure Lock where
  port : Nat
  line : HLine
  acq : Tempo
  age : Nat
  tmo : Nat
  deriving DecidableEq, Repr

/-- A line-slot the arbiter has decided for a port whose request has left the path (R76, R82). After an early answer, `key` is the key the
request was presented under: the decision was for it only where no key of that moment is earlier (R80, R81). -/
structure Dead where
  port : Nat
  key : Option (Bool × Tempo)
  deriving DecidableEq, Repr

/-- The DRAM location of a line (R112): channel, subchannel, rank, bank 4*bank group + bank, row, column. `l` is the
channel-local line address. -/
structure Loc where
  ch : Nat
  sck : Nat
  rk : Nat
  bk : Nat
  row : Nat
  col : Nat
  l : Nat
  deriving DecidableEq, Repr

/-- Who a queue entry works for: a host request, a scrub (first or repeated read, write-back, verify read), the initialization
fill, a migration read or write, an En Passant probe, an access to the training row, the parts of a read repair (read of the other copy,
write, read-back), a cross-tile mirror write or read served for another tile, the secondary copy of a mirrored write, the copy of a write at the
new place of a migrating line, and a poison write. -/
inductive Src where
  | host
  | scrub | scrubWrite | scrubVerify
  | fill
  | migRd | migWr
  | probe
  | train
  | repairRd | repairWr | repairVerify
  | mirrorRd (tile mseq : Nat)
  | mirrorWr (tile mseq : Nat)
  | second
  | dup
  | poisonWr
  deriving DecidableEq, Repr

/-- The life of a queue entry: waiting (a candidate when nothing blocks it), proposed, accepted by the lattice, issued (a read
waiting for its data, a write with its alert window open). -/
inductive QStage where
  | wait | proposed | accepted | issued
  deriving DecidableEq, Repr

/-- What a write entry writes: plaintext still in the write data buffer, a merged plaintext line, the stored burst as it is,
the poison pattern, a fill line, or nothing yet (a merge not complete). -/
inductive WPay where
  | buffer | plain (d : LineData) | stored (b : Burst) | poison | fill | none
  deriving DecidableEq, Repr

/-- A read or write queue entry (R170), and the tile's own line accesses that use the same path (R25). -/
structure QE where
  tag : Nat
  wr : Bool
  src : Src
  rid : Nat
  port : Nat
  idx : Nat
  loc : Loc
  host : HLine
  key : Nat
  eff : Tempo
  promo : Bool
  clamped : Bool
  adm : Bool
  age : Nat
  nt : Bool
  pay : WPay
  stage : QStage
  /-- an RDL that has not yet acquired its lock (R93) -/
  needLock : Bool
  /-- held by an owner other than the hazard rules: row copy, mirror repair, Castling (R90, R306) -/
  held : Bool
  /-- copies of this write in other tiles: tile, channel, channel-local line (R126, R147), and how many of their MIRROR_ACKs are out -/
  far : List (Nat × Nat × Nat)
  acks : Nat
  /-- this write entry's own command has issued and its window closed -/
  done : Bool
  retries : Nat
  /-- the mirror mode of its map entry and the peer tile (R111), with the entry number -/
  mir : Nat
  mtile : Nat
  /-- for an access made for another entry: that entry's tag; for a directed scrub: tracker entry plus one -/
  link : Nat
  /-- lane group plus one of the write-back a verify read checks (R282); of a demand read being repaired, 1 where it was misaddressed -/
  grp : Nat
  /-- not-before tick of the last refusal or the E of the bank's next command (R165, R168) -/
  e : Nat
  /-- 1 on a second reading or a replay, 2 while the other copy is being read, 3 for the poison written after the CRC retries of R257 -/
  again : Nat
  /-- the bank outcome of R182 has been recorded for it -/
  judged : Bool
  /-- a read whose ACT was accepted before the drain became due (R178) -/
  committed : Bool
  /-- the policy entry read for its column command under step 4 of R176, until that command issues (R181, R184) -/
  pol : Option Nat
  deriving DecidableEq, Repr

/-- The DRAM commands of R201. -/
inductive Cmd where
  | act | rd | rda | wr | wra | mrw | mrr | pre | preab | refab | refsb | rfmab | rfmsb | sre | srx | zqs | zql
  deriving DecidableEq, Repr

/-- A proposal of the window (R163). `tag` names the queue entry or maintenance item it serves; `top` marks the proposals that
rank ahead of every request key (R240, R250). -/
structure Proposal where
  cmd : Cmd
  rk : Nat
  bk : Nat
  row : Nat
  col : Nat
  top : Bool
  tier : Nat
  dl : Tempo
  tag : Nat
  e : Nat
  seen : Nat
  /-- reason and not-before tick of the last consideration (R205) -/
  why : Nat
  nb : Nat
  deriving DecidableEq, Repr

/-- A step of a lattice sequence (R204, R221, R225): a command, or the lowering of the rank's hold when `cmd` is none. It may take
its slot `gap` slots after the sequence's first step; `start` is known once that step has been placed. `ma` and `val` are the mode
register and value of an MRW. -/
structure SeqCmd where
  cmd : Option Cmd
  rk : Nat
  bk : Nat
  row : Nat
  col : Nat
  /-- the proposal it serves (R222), or the tag of the sequence's own commands -/
  tag : Nat
  gap : Nat
  start : Option Nat
  ma : Nat
  val : Nat
  /-- the sequence it belongs to: 0 a firmware MRW, 1 ZQ calibration, 3 one command of the tile's own sequences, 4 self-refresh entry -/
  why : Nat
  deriving DecidableEq, Repr

/-- An accepted command and its first slot (R204). -/
structure Issue where
  cmd : Cmd
  rk : Nat
  bk : Nat
  row : Nat
  col : Nat
  tag : Nat
  slot : Nat
  /-- mode register and value of MRR and MRW -/
  ma : Nat
  val : Nat
  /-- erased lane group plus one of the rank's slot when the RD issued (R280) -/
  er : Nat
  /-- the bank's open row plus one before the command (R338) -/
  was : Nat
  deriving DecidableEq, Repr

/-- A verdict on its way to the bank engine (R165). -/
structure Verdict where
  accept : Bool
  tag : Nat
  cmd : Cmd
  rk : Nat
  bk : Nat
  row : Nat
  tick : Nat
  slot : Nat
  reason : Nat
  nxt : Nat
  deriving DecidableEq, Repr

/-- The drain phase of a subchannel (R177). -/
inductive Drain where
  | read | batch | forced | idle
  deriving DecidableEq, Repr

/-- A maintenance item offered to the window: a mode register command, a refresh-class command or a precharge made for one. -/
structure Maint where
  tag : Nat
  cmd : Cmd
  rk : Nat
  bk : Nat
  row : Nat
  top : Bool
  dl : Tempo
  /-- mode register address and value for MRR and MRW -/
  ma : Nat
  val : Nat
  /-- 0 firmware command of TIMG_MRCMD, 1 poll of mode register 4, 2 refresh, 3 mitigation -/
  kind : Nat
  placed : Bool
  deriving DecidableEq, Repr

/-- The end of a data window and its rank (R215), and whether it used the probe trim set (R375). -/
structure Win where
  stop : Nat
  rk : Nat
  probe : Bool
  deriving DecidableEq, Repr

/-- One subchannel: scheduling side (window, drain, admission bucket) and issue lattice (tick counter, counters of R213,
recorded states of R208, holds of R207, sequence commands, accepted commands, verdicts, reads in flight, alert windows). -/
structure Sub where
  window : List Proposal
  drain : Drain
  breaks : Nat
  /-- an interruption of the drain is being served: true when a slack-urgent tier 2 read is among its reads (R179) -/
  intr : Option Bool
  /-- admission tokens, thousandths of a token beside them, and the long time up to which the bucket has been refilled (R186) -/
  bucket : Nat
  bktFrac : Nat
  bktAt : Nat
  maint : List Maint
  tick : Nat
  bkAct : Tab Nat
  bkCol : Tab Nat
  bkPre : Tab Nat
  rkActg : Tab Nat
  rkRdg : Tab Nat
  rkWrg : Tab Nat
  rkWtrg : Tab Nat
  rkFaw : Tab (List Nat)
  rkBusy : Tab Nat
  rkMr : Tab Nat
  lastRd : Option Win
  lastWr : Option Win
  /-- open row plus one per bank 32*rank + bank, 0 for closed -/
  rowOf : Tab Nat
  /-- ranks in self-refresh -/
  asleep : List Nat
  holds : List Nat
  /-- new column commands are held until a gap is open (R367) -/
  gapHold : Bool
  /-- the slot from which CK has been valid (R226) -/
  ckFrom : Nat
  used : List Nat
  seqs : List SeqCmd
  accepted : List Issue
  verdicts : List Verdict
  reading : List Issue
  alertWin : List Issue
  /-- column commands issued, for the parity replay of R256 -/
  recent : List Issue
  /-- reads decoded uncorrectable whose parity window is still open (R256); true for misaddressed -/
  parWait : List (Nat × Bool)
  zqStart : Tab Tempo
  zqLatch : List Nat
  /-- the slot at which a rank's last ZQCal Latch has settled (R223) -/
  zqDone : Tab Nat
  deriving DecidableEq, Repr

/-- An entry of the activation table (R249). -/
structure ActEnt where
  row : Nat
  count : Nat
  deriving DecidableEq, Repr

/-- A mitigation in progress on a bank (R250): the row, and the rows still to be activated by neighbour refresh. -/
structure Mitig where
  row : Nat
  nbr : List Nat
  opened : Bool
  deriving DecidableEq, Repr

/-- One bank engine (R180, R249-R252). `cfg` holds T, NBR, BLAST, BUDGET_EN as the bank uses them until its epoch end. -/
structure Eng where
  row : Option Nat
  /-- the row an accepted RDA or WRA closes, and the slot of its implied precharge: until then the bank is found open (R182) -/
  shut : Option (Nat × Nat)
  hist : BitVec 8
  idle : Option Tempo
  outstanding : Bool
  e : Nat
  table : List ActEnt
  spill : Nat
  epochRef : Nat
  epochAct : Nat
  throttled : Bool
  mitig : Option Mitig
  /-- rows that reached T while another mitigation was in progress (R249) -/
  mitNext : List Mitig
  skipClear : Bool
  cfgT : Nat
  cfgNbr : Bool
  cfgBlast : Nat
  cfgBud : Bool
  /-- the row last closed, and when the bank was last used, for the choice of R372 -/
  lastRow : Nat
  usedAt : Nat
  deriving DecidableEq, Repr

/-- One refresh group (R238-R242). -/
structure Group where
  debt : Int
  /-- refresh under way: proposed and not yet accepted -/
  proposed : Bool
  forcedAt : Tempo
  prevInc : Tempo
  running : Bool
  deriving DecidableEq, Repr

/-- A rank's refresh temperature state (R244): the interval code in force, the last read, kept for the two-reads rule, and the report of
the subchannel whose answer came first in the poll under way. -/
structure RankTemp where
  code : Nat
  lastRead : Nat
  half : Option Nat
  deriving DecidableEq, Repr

/-- A fault report on its way to the collector (R486). -/
structure Report where
  stamp : Tempo
  src : Nat
  loc : Nat
  aux : Nat
  akind : Bool
  addr : Nat
  forced : Bool
  mult : Bool
  esc : Bool
  deriving DecidableEq, Repr

/-- A fault record as the log and the first-fault register hold it (R503). -/
structure FaultRec where
  w0 : Word
  w1 : Word
  w2 : Word
  w3 : Word
  deriving DecidableEq, Repr

/-- A running Check Timer (R491). -/
structure ChkTimer where
  src : Nat
  dl : Tempo
  deriving DecidableEq, Repr

/-- The fault collector (R486-R505); its registers are in the register store. -/
structure FaultSt where
  reports : List Report
  timers : List ChkTimer
  log : List FaultRec
  deriving DecidableEq, Repr

/-- A page claim (R523-R525). -/
structure Claim where
  agent : Nat
  last : Tempo
  deriving DecidableEq, Repr

/-- A copy taken by COMMIT and waiting for its safe point (R522): the page's staged words at the write. -/
structure Copy where
  words : Tab Word
  tabs : Tab Nat
  deriving DecidableEq, Repr

/-- A ring message that awaits its answer (R155): its number, its type, where it went, what it was sent for (a request or a queue
entry), when, and whether it has been resent. -/
structure Await where
  mseq : Nat
  type : Nat
  dst : Nat
  forWhat : Nat
  sent : Tempo
  again : Bool
  msg : RingMsg
  deriving DecidableEq, Repr

/-- A map offer outstanding at this tile (R117, R151): its identity, the offering tile, the offered entry words, whether it is this
tile's own, and the Tempo it was sent. -/
structure Offer where
  id : Nat
  src : Nat
  words : List Word
  mine : Bool
  sent : Tempo
  again : Bool
  deriving DecidableEq, Repr

/-- A map switch under way at the decoder (R119): the changed entries, the new words, when the hold began and the last age
granted before it. -/
structure Switch where
  changed : List Nat
  words : List Word
  since : Tempo
  upTo : Nat
  deriving DecidableEq, Repr

/-- The ring stop beyond its registers (R136-R155). -/
structure RingSt where
  anchor : Bool
  mseq : Nat
  /-- an attempt at discovery is wanted; its start, the start of the loop under way, and whether it failed and waits for its repeat -/
  discRun : Bool
  discStart : Tempo
  discLoop : Tempo
  discWait : Bool
  discCw : Option Nat
  discStop : Bool
  errCw : Nat
  errCcw : Nat
  tokens : List (Nat × Tempo)
  tokOut : List (Nat × Tempo)
  tokUsed : List Nat
  offer : Option Offer
  applied : List (Nat × Nat)
  offerId : Nat
  offeredLast : Bool
  retire : Option Tempo
  awaits : List Await
  /-- the receive buffers: each message with the ring it came on, true for CW (R145) -/
  rx : List (Bool × RingIn)
  switch : Option Switch
  /-- broken links, true for CW, with the tile whose output failed; destinations whose route has changed, and the messages that wait for
  them (R154) -/
  broken : List (Bool × Nat)
  routeHold : List Nat
  deferred : List Await
  /-- the last message this tile's ring stop sent on each ring, and when -/
  lastCw : Option (RingMsg × Tempo)
  lastCcw : Option (RingMsg × Tempo)
  /-- numbers of tokens issued again, whose duplicate has not come back yet, and of those that have come back once since (R150) -/
  tokDup : List Nat
  tokBack : List Nat
  deriving DecidableEq, Repr

/-- A migration of this tile's share of an entry (R125): source and destination entries, the next host line to look at, and whether
a line is being copied, which, and its place in the order of grants. -/
structure Migration where
  src : Nat
  dst : Nat
  next : HLine
  busy : Bool
  cur : HLine
  age : Nat
  deriving DecidableEq, Repr

/-- A migration of this tile's share that has completed and is not committed yet (R124-R126): source and destination entries, and their blocks
then. -/
structure Migrated where
  src : Nat
  dst : Nat
  old : List Word
  new : List Word
  deriving DecidableEq, Repr

/-- An erasure slot (R280): 0 repair, 1 En Passant; and the lane group. -/
structure Erase where
  src : Nat
  grp : Nat
  deriving DecidableEq, Repr

/-- A repeat tracker entry (R286). -/
structure Track where
  ch : Nat
  l : Nat
  grp : Nat
  count : Nat
  start : Tempo
  watch : Bool
  deriving DecidableEq, Repr

/-- The patrol scrubber of a channel (R281, R284): whether a pass runs, its start and scheduled length in ns of long time, and a visit
in progress. The next line is ECCS_SCRPOSn. -/
structure Scrub where
  running : Bool
  start : Nat
  period : Nat
  busy : Bool
  /-- long time of the last line visited (R284) -/
  last : Nat
  deriving DecidableEq, Repr

/-- A bank's row: the key of suspect, remap and proposal records. -/
structure RowId where
  ch : Nat
  sck : Nat
  rk : Nat
  bk : Nat
  row : Nat
  deriving DecidableEq, Repr

/-- A suspect row (R305), the least recently charged first, with the lane groups it was charged in. -/
structure Suspect where
  id : RowId
  count : Nat
  grps : List Nat
  deriving DecidableEq, Repr

/-- A remap entry (R306): the failing row, the spare index, valid, and whether its copy is running (`src` is the row copied from). -/
structure Remap where
  id : RowId
  spare : Nat
  vld : Bool
  copy : Bool
  src : Nat
  deriving DecidableEq, Repr

/-- A place of the proposal table (R304, R329). -/
structure PropRow where
  id : RowId
  reason : Nat
  mask : Nat
  deriving DecidableEq, Repr

/-- Integrity and repair: erasure slots, tracker, device counts, scrubbers, suspects, remap table, spare
indexes spent, proposals, repair times, lines served from their secondary copy after a failed read-back, channels that have failed and
wait for Castling. -/
structure RepairSt where
  eras : Tab (Option Erase)
  track : Tab (Option Track)
  devCnt : Tab Nat
  decayAt : Nat
  scrub : Tab Scrub
  suspects : List Suspect
  remap : Tab (Option Remap)
  spent : List (RowId)
  props : Tab (Option PropRow)
  repairs : List (Nat × Tempo)
  /-- channel and channel-local line (R313) -/
  away : List (Nat × Nat)
  failing : List Nat
  asked : List Nat
  peerLost : Bool
  /-- the peer tile is treated as failed and Castling awaits firmware (R316, R317) -/
  peerWait : Bool
  deriving DecidableEq, Repr

/-- The state of a key slot (R403). -/
inductive SlotSt where
  | empty | valid | pendLoad | pendClear
  deriving DecidableEq, Repr

/-- A key slot (R388, R390, R395): its state, port mask, the installed key block and the block waiting for installation. -/
structure Slot where
  st : SlotSt
  ports : Nat
  key : LineData
  nextKey : LineData
  deriving DecidableEq, Repr

/-- Inline encryption beyond its registers: key slots, key word registers, the clear of all slots in progress, TAMPER. -/
structure CryptSt where
  slots : Tab Slot
  keyw : Tab Word
  clearAll : Bool
  tamper : Bool
  deriving DecidableEq, Repr

/-- The trims kept per lane group and rank (R343, R353): delays, deskews of the four lanes, Vref codes, strobe trims of the group's
pair and the DFE choice. -/
structure Trim where
  wrDly : Int
  rdDly : Int
  hvref : Nat
  wlC : Nat
  wlF : Int
  gateC : Nat
  gateF : Int
  dvref : Nat
  rdsk : List Int
  wdsk : List Int
  dfe : Nat
  deriving DecidableEq, Repr

/-- The trims and the window kept per subchannel and rank (R343, R360): CA delay (of the subchannel), CS delay, module register Vrefs. -/
structure CaTrim where
  caDly : Int
  csDly : Int
  vrefCa : Nat
  vrefCs : Nat
  caW : Nat
  deriving DecidableEq, Repr

/-- The windows the last BRINGUP found for a lane group (R360). -/
structure Eye where
  rdW : Nat
  wrW : Nat
  deriving DecidableEq, Repr

/-- A lane group's values at one point of the Opening Book (R363). -/
structure BookEnt where
  t : Trim
  rm : Bool
  rth : Int
  wm : Bool
  wth : Int
  deriving DecidableEq, Repr

/-- A channel's PLL: off, enabled for the first or the second attempt, locked. -/
inductive PllSt where
  | off | first | second | locked
  deriving DecidableEq, Repr

/-- How far start-up has come on a channel (R437): nothing, PHY powered, PMIC good and CHn_RESET_n released, DRAM initialized (training
runs), training passed, channel not trained. -/
inductive ChPhase where
  | idle | powered | released | training | passed | dropped
  deriving DecidableEq, Repr

/-- A channel's PHY beyond its registers: PLL and relock (0 none, 1 and 2 attempt, 3 check running), the CHn_RESET_n level, start-up
phase, the temperature samples of R365 (latest first) and θf, θ of the last recomputation, θL and θ0, in units of 0.25 °C. -/
structure Phy where
  pll : PllSt
  pllAt : Tempo
  relock : Nat
  resetN : Bool
  phase : ChPhase
  tStart : Tempo
  samples : List Int
  /-- the module's PMIC has reported good -/
  pmic : Bool
  thDone : Int
  thL : Int
  th0 : Int
  bookNew : Bool
  /-- impedance codes of a recalibration that wait for a gap (R340): pull-up, pull-down -/
  zqNew : Option (Nat × Nat)
  deriving DecidableEq, Repr

/-- Training on a subchannel (R345, R351): the step and rank in progress, repeats made, groups recorded for erasure on its ranks. -/
structure TrainSub where
  step : Nat
  rk : Nat
  tries : Nat
  erase : List (Nat × Nat)
  deriving DecidableEq, Repr

/-- Trims of a rank recomputed and waiting for an idle gap (R366, R367), by lane key, and since when. -/
structure PendTrim where
  since : Tempo
  trims : List (Nat × Trim)
  deriving DecidableEq, Repr

/-- The turns of one rank in an En Passant pass (R369): the runs still to come as lane group and direction (true for write), the first
being the run in progress once it has begun; untrusted runs in a row; when and at which θf the run began; the Tempo of the last sample. -/
structure EpRank where
  todo : List (Nat × Bool)
  begun : Bool
  bad : Nat
  t0 : Tempo
  th : Int
  sample : Tempo
  /-- the sweep point in progress of a run that uses the training row (R373, R374) -/
  pt : Nat
  /-- the words of BOOK_EPCTL and BOOK_PROBE that the run began with: a copy of BOOK serves from the next run on (R522, log entry 101) -/
  epctl : Word
  probe : Word
  deriving DecidableEq, Repr

/-- A channel's En Passant pass: running, start of the last pass in long time, turns completed, one record per subchannel rank. -/
structure EpCh where
  running : Bool
  start : Nat
  done : Nat
  ranks : Tab (Option EpRank)
  deriving DecidableEq, Repr

/-- A voltage request on the regulator link (R410): target step code, start, attempts made, and for what (0 BRINGUP, 1 the loop,
2 SLEEP entry, 3 wake). -/
structure VReq where
  target : Nat
  start : Tempo
  tries : Nat
  why : Nat
  deriving DecidableEq, Repr

/-- Where SLEEP stands: awake, between commit and entry complete, asleep, waking. -/
inductive SleepSt where
  | awake | entering | asleep | waking
  deriving DecidableEq, Repr

/-- Power management beyond its registers (R408-R427). -/
structure Power where
  vmodeFails : Nat
  vreq : Option VReq
  vnext : Option VReq
  vbefore : Nat
  low : Nat
  vstop : Bool
  vmaxDone : Bool
  pgood : Bool
  /-- when PWR_GOOD last changed, and whether it fell outside a request and has not risen since (R411) -/
  pgAt : Tempo
  pgLost : Bool
  idle : Option Tempo
  vote : Option Tempo
  agreed : Nat
  sleep : SleepSt
  latched : Option Nat
  /-- a shutdown request that waits for the wake (R464) -/
  sdWake : Bool
  coreOn : Bool
  crypOn : Bool
  access : Tempo
  wakeAt : Tempo
  /-- ports whose HPn_RESET rose during SLEEP (R423) -/
  resets : List Nat
  deriving DecidableEq, Repr

/-- Start-up beyond its registers (R437-R451): GO remembered and acted on, next line to fill per channel, PPR
entries still to be programmed and whether one has failed. -/
structure Startup where
  go : Bool
  acted : Bool
  /-- the channels present when GO was acted on (R239) -/
  present : List Nat
  bist : Bool
  relTempo : Tempo
  filling : Bool
  /-- the channels whose initialization fill has begun -/
  fillOn : List Nat
  /-- each channel's share of the boot window, in lines (R448) -/
  share : Nat
  fillNext : Tab Nat
  /-- by channel: a microsecond of long time, and the fill lines issued in it (R449) -/
  fillUs : Tab (Nat × Nat)
  ppr : List Nat
  pprFail : Bool
  spdCopy : Tab Nat
  deriving DecidableEq, Repr

/-- Shutdown and startup self-test beyond their registers (R466-R478): the slice that runs, whether for start-up, when it began; whether slices
run at all; when the drain began and whether it was cut short; the record in the making, words 0 to 14; and the startup failures that last:
the key store, the ring stop. -/
structure Bist where
  slice : Option Nat
  startup : Bool
  t0 : Tempo
  run : Bool
  drainAt : Tempo
  drainInc : Bool
  record : Tab Word
  keyBad : Bool
  ringBad : Bool
  deriving DecidableEq, Repr

/-- The test port (R542): the instruction in force, the instruction held back until the key clear verifies. -/
structure Tap where
  ir : Nat
  hold : Option Nat
  boundary : Nat
  deriving DecidableEq, Repr

/-- What leaves the tile by its pins and channels, in order: the model's own record, so that an effect on the outside is
visible in the state. -/
inductive Output where
  | credits (p n : Nat)
  | response (p : Nat) (flit : BitVec 559)
  /-- a command with the parity of its CA bits (R202) -/
  | command (sc : Nat) (cmd : Cmd) (rk bk row col : Nat) (par : Bool)
  /-- CA and CS_n of a rank go to the retention drivers, and a channel's CK stops, in the slot named (R225) -/
  | retention (sc rk slot : Nat)
  | ckStop (ch slot : Nat)
  | writeBurst (sc : Nat) (b : Burst)
  /-- a mode register of a rank is written; VrefDQ of the device of a lane group; the DFE setting of a lane group; per-row counting (R341) -/
  | modeSet (sc rk ma val : Nat)
  | modeVref (sc rk grp code : Nat)
  | modeDfe (sc rk grp cand : Nat)
  | modeCount (sc rk : Nat) (on : Bool)
  /-- a message leaves, flit by flit (`ringFlits`) -/
  | ring (cw : Bool) (msg : RingMsg)
  /-- one flit is sent again (R137) -/
  | ringFlit (cw : Bool) (flit : BitVec 144)
  /-- a message addressed to this tile passes by, with DEFL one higher (R139, R145) -/
  | ringPass (cw : Bool) (msg : RingIn)
  | ringError (cw : Bool)
  | mgt (rdata : Word) (rstat : BitVec 2)
  | sideband (status : BitVec 2) (data : Word)
  | dimmBus (ch dev reg : Nat) (wr : Bool) (data : Nat)
  | moduleStatus (ch : Nat)
  /-- an SMBus transaction: the regulator's address, the clock code, whether PEC is added, the PMBus command and its data (R408) -/
  | regulator (addr speed : Nat) (pec : Bool) (command data : Nat)
  | channelReset (ch : Nat) (high : Bool)
  | tdo (w : BitVec 32)
  | boundary (pins : Nat)
  deriving DecidableEq, Repr

/-- The whole tile. -/
structure State where
  -- modes, pins and time
  mode : Mode
  sleepFrom : Mode
  resetN : Bool
  frozen : Bool
  build : Build
  tempo : Tempo
  /-- how often Tempo has wrapped, for the intervals longer than 2^40 ns (log entry 3) -/
  wraps : Nat
  memReady : Bool
  -- register pages
  regs : Tab Word
  stg : Tab Word
  views : List Nat
  claims : Tab (Option Claim)
  copies : Tab (Option Copy)
  /-- staged tables reached indirectly: BENG spaces 0x0 and 0x1 by space * 0x1000 + index, word w of PPR list entry n by
  0x20000 + 2n + w; active and staged values -/
  tabs : Tab Nat
  tabsStg : Tab Nat
  -- host side
  /-- when each periodic event last came due, in nanoseconds of long time, by the keys of Ops.lean -/
  timers : Tab Nat
  ports : Tab Port
  arbHolder : Option Nat
  arbDead : Option Dead
  reqs : List Req
  nextRid : Nat
  wbuf : List WLine
  locks : Tab (Option Lock)
  -- queues, subchannels, bank engines, refresh
  qes : List QE
  nextTag : Nat
  age : Nat
  subs : Tab Sub
  engs : Tab Eng
  groups : Tab Group
  rankTemps : Tab RankTemp
  fault : FaultSt
  ring : RingSt
  retained : List Nat
  repair : RepairSt
  crypt : CryptSt
  mig : Option Migration
  /-- completed migrations not committed yet (R124) -/
  migDone : List Migrated
  -- channels: PHY, training, live calibration
  phys : Tab Phy
  trims : Tab Trim
  caTrims : Tab CaTrim
  eyes : Tab Eye
  book : Tab BookEnt
  trains : Tab TrainSub
  pendTrims : Tab (Option PendTrim)
  eps : Tab EpCh
  -- power, start-up, self-test, test port
  power : Power
  startup : Startup
  bist : Bist
  tap : Tap
  outputs : List Output
  pending : List Instr
  deriving DecidableEq, Repr

/-- Why a command cannot be carried out at all. -/
inductive Fault where
  /-- Raised by any command that names a port, channel, subchannel, bank engine, refresh group or ring stop the configurator did
  not build (R3, R530): the pins and units do not exist. Safe: the model stops where the spec has no such event. -/
  | unitNotBuilt
  deriving DecidableEq, Repr

/-- Why a command has no meaning. -/
inductive Refusal where
  /-- A command whose meaning is not written yet, by its mnemonic. Safe: the model stops. -/
  | notModelled (mnemonic : String)
  deriving DecidableEq, Repr

/-- The machine right after TILE_RESET_n is released: BRINGUP step 1, every register at its reset value (R437, R537). The largest
configuration is built (log entry 1), Tempo reads 0 and TR_ANCHOR, PWR_GOOD are high (log entry 2). -/
def State.reset : State :=
  { mode := .bringup
    sleepFrom := .service
    resetN := true
    frozen := false
    build := ⟨8, 4, true, true, 0⟩
    tempo := 0
    wraps := 0
    memReady := false
    regs := []
    stg := []
    views := []
    claims := []
    copies := []
    tabs := []
    tabsStg := []
    timers := []
    ports := []
    arbHolder := none
    arbDead := none
    reqs := []
    nextRid := 1
    wbuf := []
    locks := []
    qes := []
    nextTag := 1
    age := 1
    subs := []
    engs := []
    groups := []
    rankTemps := []
    fault := ⟨[], [], []⟩
    ring :=
      { anchor := true, mseq := 0, discRun := false, discStart := 0, discLoop := 0, discWait := false, discCw := none, discStop := false, errCw := 0, errCcw := 0,
        tokens := [], tokOut := [], tokUsed := [], offer := none, applied := [], offerId := 0, offeredLast := false,
        retire := none, awaits := [], rx := [], switch := none, broken := [], routeHold := [], deferred := [], lastCw := none, lastCcw := none,
        tokDup := [], tokBack := [] }
    retained := []
    repair :=
      { eras := [], track := [], devCnt := [], decayAt := 0, scrub := [], suspects := [], remap := [],
        spent := [], props := [], repairs := [], away := [], failing := [], asked := [], peerLost := false, peerWait := false }
    crypt := ⟨[], [], false, false⟩
    mig := none
    migDone := []
    phys := []
    trims := []
    caTrims := []
    eyes := []
    book := []
    trains := []
    pendTrims := []
    eps := []
    power :=
      { vmodeFails := 0, vreq := none, vnext := none, vbefore := 0, low := 0, vstop := false, vmaxDone := false, pgood := true,
        pgAt := 0, pgLost := false, idle := none, vote := none, agreed := 0, sleep := .awake, latched := none, sdWake := false, coreOn := true,
        crypOn := true, access := 0, wakeAt := 0, resets := [] }
    startup :=
      { go := false, acted := false, present := [], bist := false, relTempo := 0, filling := false, fillOn := [], share := 0, fillNext := [], fillUs := [], ppr := [],
        pprFail := false, spdCopy := [] }
    bist :=
      { slice := none, startup := false, t0 := 0, run := false, drainAt := 0, drainInc := false, record := [], keyBad := false, ringBad := false }
    tap := ⟨0, none, 0⟩
    outputs := []
    pending := [] }

end Sys2Proof.Machine
end

