-- ==== Sys2Proof/Machine/Ops.lean ====
section
/-! DEFINITION. The named operations over the state: register words and fields, event bits, counters, Tempo, outputs, fault
reports, and the guards under which a command has an effect. -/

namespace Sys2Proof.Machine

open Sys2Proof

/-! ## Registers -/

/-- The reset word of a register, by its key (the Reset columns of the field tables). -/
def resetWord (key : Nat) : Word := tget 0 (pageResets (key / 0x1000)) (key % 0x1000)

/-- The active (or live) word of a register (R521). -/
def State.word (s : State) (key : Nat) : Word := tget (resetWord key) s.regs key

/-- Write an active word. -/
def State.setWord (s : State) (key : Nat) (w : Word) : State :=
  { s with regs := tput (resetWord key) key w s.regs }

/-- The staged word of a register: the active word until a write stages another (R521). -/
def State.stagedWord (s : State) (key : Nat) : Word := tget (s.word key) s.stg key

/-- A field's bits of a word. -/
def FRef.get (f : FRef) (w : Word) : Nat := (w.toNat >>> f.lo) % 2 ^ (f.hi + 1 - f.lo)

/-- The mask of a field within its word. -/
def FRef.mask (f : FRef) : Word := BitVec.ofNat 32 ((2 ^ (f.hi + 1 - f.lo) - 1) <<< f.lo)

/-- A word with a field replaced; bits of the value beyond the field are dropped. -/
def FRef.put (f : FRef) (w : Word) (v : Nat) : Word :=
  (w &&& ~~~f.mask) ||| (BitVec.ofNat 32 (v <<< f.lo) &&& f.mask)

/-- The key of a field's register. -/
def FRef.key (f : FRef) : Nat := regKey f.page f.off

/-- The active value of a field. -/
def State.fld (s : State) (f : FRef) : Nat := f.get (s.word f.key)

/-- The active value of a one-bit field. -/
def State.flag (s : State) (f : FRef) : Bool := s.fld f != 0

/-- Write the active value of a field. -/
def State.setFld (s : State) (f : FRef) (v : Nat) : State := s.setWord f.key (f.put (s.word f.key) v)

/-- Set a one-bit field, an event bit for instance. -/
def State.set1 (s : State) (f : FRef) : State := s.setFld f 1

/-- Clear a field. -/
def State.clr (s : State) (f : FRef) : State := s.setFld f 0

/-- Add to a counter field, which saturates (R68, R158, R195, R263, ...). -/
def State.bump (s : State) (f : FRef) (k : Nat := 1) : State :=
  s.setFld f (satAdd (f.hi + 1 - f.lo) (s.fld f) k)

/-- Write several fields. -/
def State.setFlds (s : State) (l : List (FRef × Nat)) : State := l.foldl (fun s p => s.setFld p.1 p.2) s

/-- Bit `i` of a field. -/
def State.fbit (s : State) (f : FRef) (i : Nat) : Bool := (s.fld f).testBit i

/-- A field with bit `i` set to `v`. -/
def State.setBit (s : State) (f : FRef) (i : Nat) (v : Bool) : State :=
  s.setFld f (if v then s.fld f ||| 2 ^ i else if (s.fld f).testBit i then s.fld f - 2 ^ i else s.fld f)

/-! ## Tempo (R18, R78, R79) -/

/-- R78: deadline a is earlier than deadline b. -/
def earlier (a b : Tempo) : Bool := decide (1 ≤ (b - a).toNat) && decide ((b - a).toNat ≤ 2 ^ 38)

/-- R79: at `now`, the value `d` lies in the past. -/
def inPast (now d : Tempo) : Bool := decide (1 ≤ (now - d).toNat) && decide ((now - d).toNat ≤ 2 ^ 39)

/-- `d` has been reached at `now`: now or in the past. -/
def reached (now d : Tempo) : Bool := decide (now = d) || inPast now d

/-- A Tempo interval in nanoseconds. -/
def ns (n : Nat) : Tempo := BitVec.ofNat 40 n

/-- Nanoseconds since reset release, beyond the 40 bits of Tempo. -/
def State.longTime (s : State) : Nat := s.wraps * 2 ^ 40 + s.tempo.toNat

/-- Move Tempo forward to a long time; never back. -/
def State.advanceLong (s : State) (t : Nat) : State :=
  if t ≤ s.longTime then s else { s with tempo := BitVec.ofNat 40 t, wraps := t / 2 ^ 40 }

/-- Tempo stands at `d` or later: a command that is the arrival of Tempo at a deadline moves it there (log entry 3). -/
def State.advanceTo (s : State) (d : Tempo) : State :=
  if reached s.tempo d then s
  else { s with tempo := d, wraps := if d.toNat < s.tempo.toNat then s.wraps + 1 else s.wraps }

/-- Keys of the periodic events: the mode register 4 poll, the thermal poll, and per channel or subchannel the temperature sample, the PHY's
recalibration and the refill of an admission bucket. -/
def tmrMr4 : Nat := 0
def tmrThermal : Nat := 1
def tmrTemp (c : Nat) : Nat := 16 + c
def tmrPhyZq (c : Nat) : Nat := 32 + c
def tmrBucket (sc : Nat) : Nat := 48 + sc

def State.timer (s : State) (k : Nat) : Nat := tget 0 s.timers k
def State.setTimer (s : State) (k v : Nat) : State := { s with timers := tput 0 k v s.timers }

/-- A periodic event of period `per` nanoseconds comes due: Tempo stands at its time or later (log entry 3). -/
def State.periodic (s : State) (k per : Nat) : State :=
  let t := s.timer k + per
  (s.advanceLong t).setTimer k t

/-! ## Outputs -/

/-- Record what leaves the tile. -/
def State.emit (s : State) (o : Output) : State := { s with outputs := s.outputs ++ [o] }


/-! ## Fault reports (R486) -/

/-- Where a fault lies (R485): the LOC, AUX, AKIND and ADDR fields of its record. -/
structure Place where
  loc : Nat
  aux : Nat
  akind : Bool
  addr : Nat
  deriving DecidableEq, Repr

/-- No location. -/
def nowhere : Place := ⟨0, 0, false, 0⟩

/-- Kind P of R485. -/
def atPort (p : Nat) : Place := ⟨p % 8, 0, false, 0⟩

/-- Kinds P and H: a port and a host line. -/
def atPortLine (p : Nat) (a : HLine) : Place := ⟨p % 8, 0, false, a.toNat⟩

/-- The same for a queue entry's port number: a request served for tile t has port number 16 + t, and its record names that tile. -/
def portPlace (p : Nat) (a : HLine) : Place :=
  if p < 8 then atPortLine p a else { atPortLine 0 a with aux := 2 ^ 14 + (p - 16) % 32 }

/-- Kind C: a channel. -/
def atChan (c : Nat) : Place := ⟨(c % 4) * 64, 0, false, 0⟩

/-- Kind M: channel, subchannel, rank, lane group (0xF for none) and bank. -/
def atBank (c sck rk grp bk : Nat) : Place :=
  ⟨(c % 4) * 64 + (sck % 2) * 32 + (rk % 2) * 16 + grp % 16, bk % 32, false, 0⟩

/-- Kinds M and L: a DRAM line by its channel-local line address. -/
def atLoc (x : Loc) (grp : Nat) : Place := { atBank x.ch x.sck x.rk grp x.bk with akind := true, addr := x.l }

/-- Kinds T and H. -/
def atTile (t : Nat) (a : HLine) : Place := ⟨t % 32, 0, false, a.toNat⟩

/-- A source stamps a report with Tempo; the collector takes it into its capture window (R486). -/
def State.raise (s : State) (src : Nat) (w : Place) : State :=
  { s with fault := { s.fault with reports := s.fault.reports ++
      [⟨s.tempo, src, w.loc, w.aux, w.akind, w.addr, false, false, false⟩] } }

/-- The mode changes, and GLOB_EVT.MODE_CHG records it (R457). -/
def State.setMode (s : State) (m : Mode) : State :=
  if s.mode = m then s else { s with mode := m }.set1 Reg.GLOB_EVT_MODE_CHG

/-! ## Ring messages (R139, R144) -/

/-- This tile's number (R110, R141): 0 without a ring. -/
def State.tileNo (s : State) : Nat := if s.build.ring then s.fld Reg.RING_STAT_TILE_NO else 0

/-- R144: the ring that reaches a tile in fewer hops, CW on a tie; true for CW. Routes avoid a broken link where the other ring does
(R154). -/
def State.routeCw (s : State) (dst : Nat) : Bool :=
  let n := max 1 (s.fld Reg.RING_STAT_TILES)
  let me := s.tileNo
  let cwHops := (dst + n - me % n) % n
  let ccwHops := (n - cwHops) % n
  let cwOk := (List.range cwHops).all (fun i => !s.ring.broken.contains (true, (me + i) % n))
  let ccwOk := (List.range ccwHops).all (fun i => !s.ring.broken.contains (false, (me + n - i) % n))
  if cwOk = ccwOk then decide (cwHops ≤ n - cwHops) else cwOk

/-- R139: the header flit. -/
def ringHeader (m : RingMsg) : BitVec 128 :=
  BitVec.ofNat 128 ((((((((m.type % 32 * 32 + m.dst % 32) * 32 + m.src % 32) * 2 + b2n m.bc) * 64 + m.len % 64) * 4096 + m.mseq % 4096) * 256 +
    m.defl % 256) * 2 ^ 86) + m.arg % 2 ^ 86)

/-- R137: a flit with the check bits of its two words above them. -/
def flitWord (d : BitVec 128) : BitVec 144 :=
  Config.ringCheck (d.extractLsb' 64 64) ++ Config.ringCheck (d.extractLsb' 0 64) ++ d

/-- The flits of a message: the header, then the payload. -/
def ringFlits (m : RingMsg) : List (BitVec 144) := (ringHeader m :: m.payload).map flitWord

/-- The ring on which a message leaves: the one it is meant for, the other where this tile's output on that one is broken, none where both are
(R154 step 3). -/
def State.ringOut (s : State) (cw : Bool) : Option Bool :=
  if !s.ring.broken.contains (cw, s.tileNo) then some cw
  else if !s.ring.broken.contains (!cw, s.tileNo) then some (!cw)
  else none

/-- A message leaves on a ring. -/
def State.emitRing (s : State) (cw : Bool) (m : RingMsg) : State :=
  match s.ringOut cw with
  | none => s
  | some true => { s with
      ring := { s.ring with lastCw := some (m, s.tempo), errCw := 0 }
      outputs := s.outputs ++ [.ring true m] }
  | some false => { s with
      ring := { s.ring with lastCcw := some (m, s.tempo), errCcw := 0 }
      outputs := s.outputs ++ [.ring false m] }

/-- Number and send a message; a broadcast leaves on the CW ring. A ring stop that failed startup BIST sends no message of its tile's own: only
DISC and tokens pass through it (R478). -/
def State.sendOn (s : State) (cw : Bool) (type dst : Nat) (bc : Bool) (arg : Nat) (payload : List (BitVec 128)) : State :=
  let m : RingMsg := ⟨type, dst, s.tileNo, bc, payload.length, s.ring.mseq, 0, arg, payload⟩
  let mute := s.bist.ringBad && decide (type ≠ 0x01) && decide (type ≠ 0x10)
  let s : State := { s with ring := { s.ring with mseq := (s.ring.mseq + 1) % 4096 } }
  if mute then s else s.emitRing cw m

/-- Send a unicast message on its route. -/
def State.send (s : State) (type dst arg : Nat) (payload : List (BitVec 128)) : State :=
  s.sendOn (s.routeCw dst) type dst false arg payload

/-- Send a message that awaits an answer (R155). A FWD_REQ or MIRROR_WR to a destination whose route has just changed waits until the
messages sent there before have been resolved (R154). -/
def State.sendAwait (s : State) (type dst arg : Nat) (payload : List (BitVec 128)) (forWhat : Nat) : State :=
  let m : RingMsg := ⟨type, dst, s.tileNo, false, payload.length, s.ring.mseq, 0, arg, payload⟩
  let a : Await := ⟨m.mseq, type, dst, forWhat, s.tempo, false, m⟩
  if (type = 0x08 ∨ type = 0x0B) ∧ s.ring.routeHold.contains dst = true then
    { s with ring := { s.ring with mseq := (s.ring.mseq + 1) % 4096, deferred := s.ring.deferred ++ [a] } }
  else
    let s := s.send type dst arg payload
    { s with ring := { s.ring with awaits := s.ring.awaits ++ [a] } }

/-- Broadcast a message (R139: the source removes it when it returns). -/
def State.broadcast (s : State) (type arg : Nat) (payload : List (BitVec 128)) : State :=
  if s.build.ring then s.sendOn true type 0 true arg payload else s

/-- A line as four payload flits, the low 128 bits first (log entry 31). -/
def flitsOf (n : Nat) (w : Nat) : List (BitVec 128) := (List.range n).map (fun i => BitVec.ofNat 128 (w >>> (128 * i)))

/-- The number spelled by payload flits. -/
def ofFlits (l : List (BitVec 128)) : Nat := l.foldr (fun f acc => acc * 2 ^ 128 + f.toNat) 0

/-! ## Guards -/

/-- The tile serves: TILE_RESET_n is high, and neither EXTEST nor SCAN_EN has taken effect (R537, R542). -/
def State.serving (s : State) : Bool := s.resetN && !s.frozen

/-- A command's effect with what no command in service changes taken from before it: what the configurator built (R530), the level of
TILE_RESET_n, an input, and the commands that still wait. -/
def keepPins (s t : State) : State := { t with build := s.build, resetN := s.resetN, pending := s.pending }

/-- Run an effect where the tile serves; elsewhere the command has no effect (log entry 4). -/
def serve (s : State) (f : State → State) : Host.Outcome State Fault Refusal :=
  if s.serving then .next (keepPins s (f s)) else .next s

/-- Run an effect of a unit the configurator built; a unit not built does not exist (R530). -/
def serveIf (built : Bool) (s : State) (f : State → State) : Host.Outcome State Fault Refusal :=
  if built then serve s f else .fault .unitNotBuilt

/-! ## Accessors -/

/-- RPMR_CHSTAT state of a channel (R325): 0 NORMAL, 1 SOLE, 2 FAILED, 3 RETIRED, 4 ABSENT. -/
def State.chState (s : State) (c : Nat) : Nat := if c < s.build.channels then (s.fld Reg.RPMR_CHSTAT_STATE >>> (4 * c)) % 16 else 4

def State.setChState (s : State) (c v : Nat) : State :=
  let w := s.fld Reg.RPMR_CHSTAT_STATE
  s.setFld Reg.RPMR_CHSTAT_STATE (w - ((w >>> (4 * c)) % 16) * 2 ^ (4 * c) + v * 2 ^ (4 * c))

/-- A channel that serves: NORMAL or SOLE. -/
def State.chUp (s : State) (c : Nat) : Bool := decide (s.chState c ≤ 1)

/-- A port as the configurator and reset leave it (R30, R55). -/
def port0 : Port := ⟨false, false, 0, [], [], none, 0, none, 0, [], [], false⟩

def State.port (s : State) (p : Nat) : Port := tget port0 s.ports p
def State.setPort (s : State) (p : Nat) (x : Port) : State := { s with ports := tput port0 p x s.ports }

/-- A subchannel at reset: tick counter clear, every bank closed, every counter met. -/
def sub0 : Sub :=
  { window := [], drain := .read, breaks := 0, intr := none, bucket := 16, bktFrac := 0, bktAt := 0, maint := [], tick := 0, bkAct := [], bkCol := [], bkPre := [],
    rkActg := [], rkRdg := [], rkWrg := [], rkWtrg := [], rkFaw := [], rkBusy := [], rkMr := [], lastRd := none,
    lastWr := none, rowOf := [], asleep := [], holds := [], gapHold := false, ckFrom := 0, used := [], seqs := [], accepted := [], verdicts := [],
    reading := [], alertWin := [], recent := [], parWait := [], zqStart := [], zqLatch := [], zqDone := [] }

def State.sub (s : State) (i : Nat) : Sub := tget sub0 s.subs i
def State.setSub (s : State) (i : Nat) (x : Sub) : State := { s with subs := tput sub0 i x s.subs }

/-- A bank engine at reset (R183, R249). -/
def eng0 : Eng :=
  { row := none, shut := none, hist := 0xFF, idle := none, outstanding := false, e := 0, table := [], spill := 0, epochRef := 0,
    epochAct := 0, throttled := false, mitig := none, mitNext := [], skipClear := false, cfgT := 0x800, cfgNbr := false, cfgBlast := 0,
    cfgBud := true, lastRow := 0, usedAt := 0 }

def State.eng (s : State) (i : Nat) : Eng := tget eng0 s.engs i
def State.setEng (s : State) (i : Nat) (x : Eng) : State := { s with engs := tput eng0 i x s.engs }

/-- A refresh group before its refresh starts (R239). -/
def group0 : Group := ⟨0, false, 0, 0, false⟩

def State.group (s : State) (g : Nat) : Group := tget group0 s.groups g
def State.setGroup (s : State) (g : Nat) (x : Group) : State := { s with groups := tput group0 g x s.groups }

/-- The engine of a bank (R180): b = 64 s + 32 r + k. -/
def engOf (sc rk bk : Nat) : Nat := 64 * sc + 32 * rk + bk

/-- The tile-wide number of a location's subchannel (R180). -/
def Loc.sc (x : Loc) : Nat := 2 * x.ch + x.sck

/-- The engine of a location. -/
def Loc.eng (x : Loc) : Nat := engOf x.sc x.rk x.bk

def State.portBuilt (s : State) (p : Nat) : Bool := decide (p < s.build.ports)
def State.chanBuilt (s : State) (c : Nat) : Bool := decide (c < s.build.channels)
def State.subBuilt (s : State) (i : Nat) : Bool := decide (i < 2 * s.build.channels)
def State.engBuilt (s : State) (i : Nat) : Bool := decide (i < 128 * s.build.channels)

/-- Change the queue entry with a tag. -/
def State.mapQE (s : State) (tag : Nat) (f : QE → QE) : State := { s with qes := mapIf (fun q => q.tag == tag) f s.qes }

/-- The queue entry with a tag. -/
def State.qe? (s : State) (tag : Nat) : Option QE := s.qes.find? (fun q => q.tag == tag)

/-- The entries that write the same request's line: at its place, its mirror copy, its copy at a migration's new place. -/
def QE.ofWrite (q : QE) : Bool := q.wr && (q.src == .host || q.src == .second || q.src == .dup)

/-- R87, R312, R126: a host write has been issued everywhere: its own window closed, no local copy left, every MIRROR_ACK in. -/
def State.complete (s : State) (q : QE) : Bool :=
  q.wr && q.src == .host && q.done && decide (q.acks = 0) &&
  !s.qes.any (fun o => o.link == q.tag && (o.src == .second || o.src == .dup))

/-- Free a queue entry. -/
def State.dropQE (s : State) (tag : Nat) : State := { s with qes := s.qes.filter (fun q => q.tag != tag) }

/-- Change the request with an identity. -/
def State.mapReq (s : State) (rid : Nat) (f : Req → Req) : State := { s with reqs := mapIf (fun r => r.rid == rid) f s.reqs }

def State.req? (s : State) (rid : Nat) : Option Req := s.reqs.find? (fun r => r.rid == rid)

/-- Forget a request that has been fully answered. -/
def State.dropReq (s : State) (rid : Nat) : State := { s with reqs := s.reqs.filter (fun r => r.rid != rid) }

/-- Place a queue entry (or an access of the tile's own) with a fresh tag; its age is its place in the order of grants (R86). -/
def State.addQE (s : State) (q : QE) : State :=
  { s with qes := s.qes ++ [{ q with tag := s.nextTag, age := s.age }], nextTag := s.nextTag + 1, age := s.age + 1 }

/-- The same with a given age: a follow-on access that takes effect at its first access's place in the order (R283, R313). -/
def State.addQEAt (s : State) (q : QE) : State :=
  { s with qes := s.qes ++ [{ q with tag := s.nextTag }], nextTag := s.nextTag + 1 }

/-- An access of the tile's own to a line. -/
def mkQE (wr : Bool) (src : Src) (x : Loc) (dl : Tempo) : QE :=
  { tag := 0, wr := wr, src := src, rid := 0, port := 8, idx := 0, loc := x, host := 0, key := 0, eff := dl, promo := false,
    clamped := false, adm := false, age := 0, nt := false, pay := .none, stage := .wait, needLock := false, held := false,
    far := [], acks := 0, done := false, retries := 0, mir := 0, mtile := 0, link := 0, grp := 0, e := 0, again := 0,
    judged := false, committed := false, pol := none }

end Sys2Proof.Machine
end

