-- ==== Sys2Proof/Machine/Host.lean ====
section
/-! DEFINITION. The host side of the tile: the write data buffer and its credits (R37, R38, R45-R53), request acceptance (R31-R43),
responses (R39-R42, R54-R59) and port reset (R60). -/

namespace Sys2Proof.Machine

open Sys2Proof

/-! ## Requests -/

/-- Lines of a request (R33, R35): an opcode other than RD and WR moves one line. -/
def lineCount (op : Op) (f : RqFlit) : Nat :=
  match op with
  | .rd | .wr => if f.len = 1 then 2 else if f.len = 2 then 4 else 1
  | _ => 1

def Req.lines (r : Req) : Nat := lineCount r.op r.flit

/-- The opcode a request flit carries: its command's own, or the unlisted value it holds instead (R34). -/
def seenOp (op : Op) (f : RqFlit) : Op :=
  match f.xop with
  | some c => if listedCodes.contains c.toNat then op else .other c
  | none => op

/-- The opcodes whose data comes on the write-data channel (R35). -/
def carriesData (op : Op) : Bool := op == .wr || op == .wrp || op == .wru

/-- The opcodes that write their line (R100). -/
def isWriteOp (op : Op) : Bool :=
  match op with
  | .wr | .wrp | .wru | .afadd | .aswp | .acas | .aor | .aand => true
  | _ => false

/-- The atomics of R98. -/
def isAtomic (op : Op) : Bool :=
  match op with
  | .afadd | .aswp | .acas | .aor | .aand => true
  | _ => false

/-- Line `i` of a request. -/
def Req.line (r : Req) (i : Nat) : HLine := r.flit.addr + BitVec.ofNat 46 i

/-- Two requests touch a common line. -/
def Req.meets (a b : Req) : Bool :=
  (List.range a.lines).any (fun i => (List.range b.lines).any (fun j => a.line i == b.line j))

/-- The port a request came in on; 16 + t for one served for tile t: FWD_REQ names no port (R146), so all ports of that tile are one owner to the
line locks, and GLOB_LOCKINFO0.PORT shows the low three bits of the number (DESIGN CHOICE, log entry 87). -/
def Origin.portNo (o : Origin) : Nat := match o with | .port p => p | .ring t _ => 16 + t

/-- R100: is anything of request `rid` still to be written? Some write entry of it has not issued, or it has not reached the
queues, or it was forwarded and has no answer. -/
def State.unfinished (s : State) (rid : Nat) : Bool :=
  s.qes.any (fun q => q.wr && q.rid == rid && q.src == .host) ||
  s.reqs.any (fun r => r.rid == rid && (r.stage == .ingress || r.stage == .heldMap || r.stage == .heldFill ||
    r.stage == .forwarded || (r.stage == .queued && decide (r.moved < r.lines))))

/-! ## SEC-DED words of the buffers (R45) -/

/-- The words of a line with exactly one flipped bit, and those with more. -/
def secded (n : Nat) (upset : Nat) : Nat × Nat :=
  (List.range n).foldl (fun (acc : Nat × Nat) i =>
    let w := (upset >>> (64 * i)) % 2 ^ 64
    let c := (List.range 64).foldl (fun (k : Nat) b => if w.testBit b then k + 1 else k) 0
    if c = 0 then acc else if c = 1 then (acc.1 + 1, acc.2) else (acc.1, acc.2 + 1)) (0, 0)

/-- Count the corrected and uncorrectable words a check of the write data buffer found (R45, R73, R74). -/
def State.countWb (s : State) (upset : LineData) : State :=
  let c := secded 8 upset.toNat
  let s := s.bump Reg.GLOB_BUFCE_WB_CE c.1
  if c.2 = 0 then s else (s.bump Reg.GLOB_BUFUE_WB_UE c.2).set1 Reg.GLOB_BUFEVT_WB_UE

/-- Some word of the line is uncorrectable. -/
def upsetUe (upset : LineData) : Bool := decide ((secded 8 upset.toNat).2 ≠ 0)

/-- Push a line into the write data buffer. -/
def State.pushLine (s : State) (w : WLine) : State := { s with wbuf := s.wbuf ++ [w] }

/-- Change the lines of the write data buffer that satisfy `c`. -/
def State.mapLines (s : State) (c : WLine → Bool) (f : WLine → WLine) : State := { s with wbuf := mapIf c f s.wbuf }

/-- Change the queue entries that satisfy `c`. -/
def State.mapQEs (s : State) (c : QE → Bool) (f : QE → QE) : State := { s with qes := mapIf c f s.qes }

/-! ## Occupancy and levels (R45, R46, R52, R72) -/

def State.wbOcc (s : State) : Nat := s.wbuf.length

/-- The response buffer entries a port holds: filled, ready or sent and unreleased. -/
def Port.filled (x : Port) : Nat := (x.ready.filter (·.entry)).length + (x.sent.filter (·.entry)).length

/-- The entries reserved for a port's requests and not yet filled (R54). -/
def State.reserved (s : State) (p : Nat) : Nat :=
  (s.reqs.filter (fun r => r.org == .port p)).foldl (fun n r => n + r.rsv) 0

/-- HPTn_RSPCAP.USED: entries now held by the port, reserved ones included. -/
def State.rspUsed (s : State) (p : Nat) : Nat := (s.port p).filled + s.reserved p

/-- GLOB_RBSTAT.OCC, and the occupancy GLOB_RBWM is compared with: the entries filled. Whether an entry reserved and not yet filled is 'held' R72
leaves open (DESIGN CHOICE, log entry 86). -/
def State.rbOcc (s : State) : Nat := (List.range 8).foldl (fun n p => n + (s.port p).filled) 0

/-- GLOB_RBSTAT.SHARED_USED: what the ports hold beyond their own 16 entries (R54). -/
def State.sharedUsed (s : State) : Nat :=
  (List.range 8).foldl (fun n p => n + (s.rspUsed p - 16)) 0

/-- One instance's live level and its latches after an occupancy change (R45, R46). -/
def State.level (s : State) (occ : Nat) (hi lo lvl evHi evLo : FRef) : State :=
  if s.flag lvl then (if occ ≤ s.fld lo then (s.clr lvl).set1 evLo else s)
  else if s.fld hi ≤ occ then (s.set1 lvl).set1 evHi else s

/-- The levels of both buffers after a push or a pop. A COMMIT of new watermarks is judged at the next push or pop (DESIGN CHOICE, log entry
84). -/
def State.levels (s : State) : State :=
  let s := s.level s.wbOcc Reg.GLOB_WBWM_HI Reg.GLOB_WBWM_LO Reg.GLOB_BUFLVL_WB_LVL Reg.GLOB_BUFEVT_WB_HI Reg.GLOB_BUFEVT_WB_LO
  s.level s.rbOcc Reg.GLOB_RBWM_HI Reg.GLOB_RBWM_LO Reg.GLOB_BUFLVL_RB_LVL Reg.GLOB_BUFEVT_RB_HI Reg.GLOB_BUFEVT_RB_LO

/-- The WBUF_HI pin (R52): the live level, low in BRINGUP and in SLEEP. -/
def State.wbufHi (s : State) : Bool := s.flag Reg.GLOB_BUFLVL_WB_LVL && s.mode != .bringup && s.mode != .sleep

/-! ## Credits (R48, R49, R532) -/

/-- Lines of a port in the write data buffer. -/
def State.linesOf (s : State) (p : Nat) : Nat := (s.wbuf.filter (fun w => w.own == some p)).length

/-- Credit flits of 1 to 8 credits each. -/
def State.emitCredits (s : State) (p n : Nat) : State :=
  let s := (List.range (n / 8)).foldl (fun s _ => s.emit (.credits p 8)) s
  if n % 8 = 0 then s else s.emit (.credits p (n % 8))

/-- MEM_READY has risen since reset (R437 step 7, R532); it falls in ENDGAME and HALT, where credits still return (R37, R48). -/
def State.memRose (s : State) : Bool := s.memReady || decide (s.fld Reg.GLOB_STAT_PHASE = 7)

/-- Give a port the credits due to it: its allocation less those the host holds and those its buffered lines hold (R48; after a lowered ALLOC
none until both together fall below it, R49, log entry 91). None before MEM_READY has risen (R532) and none while the port is held in reset
(R60). -/
def State.giveCredits (s : State) (p : Nat) : State :=
  let x := s.port p
  let n := s.fld (Reg.HPT_WDCRD_ALLOC p) - (x.creds + s.linesOf p)
  if !s.memRose || x.rst || decide (n = 0) || !s.portBuilt p then s
  else (s.setPort p { x with creds := x.creds + n }).emitCredits p n

/-- The request a write-data flit belongs to: the outstanding write-carrying request of the port with its tag (R37). -/
def State.wdOwner (s : State) (p : Nat) (tag : BitVec 12) : Option Req :=
  s.reqs.find? (fun r => r.org == .port p && r.flit.tag == tag && carriesData r.op && !r.dup)

/-- Discard a flit that does not fit (R38): its credit returns. -/
def State.badFlit (s : State) (p : Nat) : State := (s.set1 (Reg.HPT_EVT_WD_BAD p)).giveCredits p

/-- A request's write data arrives: the interval of R188 runs from the last flit on. -/
def State.noteData (s : State) (rid : Option Nat) : State :=
  match rid with
  | some i => s.mapReq i (fun r => { r with tLast := s.tempo })
  | none => s

/-- Put a write-data flit into the buffer, or discard it where it does not fit (R37, R38). -/
def State.putWd (s : State) (p : Nat) (f : WdFlit) : State :=
  let (rid, bad) : Option Nat × Bool := match s.wdOwner p f.tag with
    | some r => (some r.rid, decide (r.lines ≤ f.idx.toNat) || s.wbuf.any (fun w => w.rid == some r.rid && w.idx == f.idx.toNat))
    | none => (none, s.wbuf.any (fun w => w.own == some p && w.rid == none && w.tag == f.tag && w.idx == f.idx.toNat))
  if bad then s.badFlit p else ((s.noteData rid).pushLine ⟨some p, rid, f.tag, f.idx.toNat, f.data, f.upset⟩).levels

/-- As lines free, flits sent without credit are taken, one for each freed line that is not used yet (R50); a flit that is discarded uses
none. Of several ports' flits the lowest port's goes first (DESIGN CHOICE, log entry 82). -/
def State.takeHeldWd (s : State) (free : Nat) : Nat → State
  | 0 => s
  | n + 1 =>
    match (List.range 8).find? (fun p => !(s.port p).wdHeld.isEmpty) with
    | none => s
    | some p =>
      match (s.port p).wdHeld, free with
      | f :: rest, free' + 1 =>
        let t := ((s.setPort p { s.port p with wdHeld := rest }).set1 (Reg.HPT_EVT_CRD_OVER p)).putWd p f
        t.takeHeldWd (if s.wbuf.length < t.wbuf.length then free' else free' + 1) n
      | _, _ => s

/-- The flits that wait without credit. -/
def State.heldWd (s : State) : Nat := (List.range 8).foldl (fun n p => n + (s.port p).wdHeld.length) 0

/-- Remove lines of the write data buffer: their credits return to their own ports (R48), and flits that wait without credit take the freed
lines (R50). -/
def State.dropLines (s : State) (gone : WLine → Bool) : State :=
  let out := s.wbuf.filter gone
  let s : State := { s with wbuf := s.wbuf.filter (fun w => !gone w) }
  let s := ((out.filterMap (·.own)).foldl (fun s p => s.giveCredits p) s).levels
  s.takeHeldWd out.length s.heldWd

/-! ## Responses (R39-R42, R54-R56) -/

/-- The code of a status (R41). -/
def Status.code (x : Status) : Nat :=
  match x with
  | .ok => 0 | .okFixed => 1 | .poison => 2 | .ue => 3 | .decode => 4 | .notready => 5 | .offline => 6 | .halted => 7
  | .keyfault => 8 | .walkdev => 9 | .locklost => 10 | .illegal => 11

/-- The statuses whose request's write data is discarded when the answer is sent (R37). -/
def Status.discards (x : Status) : Bool :=
  match x with
  | .illegal | .walkdev | .decode | .keyfault | .notready | .offline | .halted | .locklost => true
  | _ => false

/-- The response flit of R39, with its crc. -/
def rspFlit (x : Rsp) (data : LineData) (st : Status) : BitVec 559 :=
  let high := ((((data.toNat * 2 ^ 12 + x.tag.toNat) * 4 + x.idx) * 16 + st.code) * 2 + b2n x.misroute) * 2 ^ 12 + x.seq.toNat
  BitVec.ofNat 559 (high * 2 ^ 16 + crc16 high)

/-- Zero data. -/
def zeroLine : LineData := 0

/-- A response flit becomes ready for a request: at its port in the order of R55, or as FWD_RSP to the tile that
forwarded it (R146). The port's entry was reserved under R54; the status responder's flits take none. -/
def State.respond (s : State) (r : Req) (idx : Nat) (st : Status) (mis : Bool) (data : LineData) (entry : Bool := true) : State :=
  match r.org with
  | .port p =>
    let x := s.port p
    let f : Rsp := ⟨r.rid, r.flit.cls.toNat, r.flit.tag, idx, st, mis, data, entry, 0⟩
    let s := s.setPort p { x with ready := x.ready ++ [f] }
    (s.mapReq r.rid (fun r => { r with rsv := r.rsv - 1 })).levels
  | .ring t m =>
    let withData := decide (st.code ≤ 1) && (r.op == .rd || r.op == .rdl || isAtomic r.op)
    let s := s.send 0x0A t (m + st.code * 2 ^ 12 + b2n mis * 2 ^ 16 + idx * 2 ^ 17) (if withData then flitsOf 4 data.toNat else [])
    let s := s.mapReq r.rid (fun r => { r with owed := r.owed - 1 })
    if decide (r.owed ≤ 1) then
      let s := if st.discards then s.dropLines (fun w => w.rid == some r.rid && w.own == none) else s
      s.dropReq r.rid
    else s

/-- Answer a whole request with one flit of idx 0 and zero data (R42): it owes nothing else, any further reservation is
given back, and a request that had none yet is answered by the status responder (R54). -/
def State.answer (s : State) (rid : Nat) (st : Status) (mis : Bool := false) : State :=
  match s.req? rid with
  | none => s
  | some r =>
    let s := s.mapReq rid (fun r => { r with stage := .answered, rsv := min r.rsv 1, owed := 1, nextIdx := 0 })
    s.respond { r with owed := 1 } 0 st mis zeroLine (decide (r.rsv ≠ 0))

/-- Answer a write or a FLUSH, or any request with one flit, with data (R35). -/
def State.answerData (s : State) (rid : Nat) (st : Status) (data : LineData) : State :=
  match s.req? rid with
  | none => s
  | some r =>
    let s := s.mapReq rid (fun r => { r with stage := .answered })
    s.respond r 0 st false data

/-- FLUSH completes when every write it covers has issued, was withdrawn or was answered otherwise (R100). -/
def State.flushDone (s : State) (r : Req) : Bool :=
  r.op == .flush && r.stage == .flushing && r.covers.all (fun c => !s.unfinished c)

/-- Answer every FLUSH that is complete. -/
def State.checkFlush (s : State) : State :=
  (s.reqs.filter (fun r => s.flushDone r)).foldl (fun s r => s.answer r.rid .ok) s

/-- Free the host write entries that are complete; a FLUSH may then be answered. -/
def State.sweep (s : State) : State :=
  if s.qes.any s.complete then { s with qes := s.qes.filter (fun q => !s.complete q) }.checkFlush else s

/-! ## Write data (R37, R38, R50) -/

/-- A write entry of a locked-out request is not yet placed for R23 (R92): some other port holds its line's lock, taken earlier. -/
def State.lockedOut (s : State) (q : QE) : Bool :=
  s.locks.any (fun e => match e.2 with
    | some l => l.line == q.host && l.port != q.port && decide (l.age < q.age)
    | none => false)

/-- Answer a WR or WRU whose conditions of R23 are all met; its buffered words are checked first (R53). -/
def State.tryAnswer (s : State) (rid : Nat) : State :=
  match s.req? rid with
  | none => s
  | some r =>
    let mine := s.wbuf.filter (fun w => w.rid == some rid)
    let entries := s.qes.filter (fun q => q.rid == rid && q.wr && q.src == .host)
    if (r.op == .wr || r.op == .wru) && r.stage == .queued && decide (r.moved = r.lines) &&
        (List.range r.lines).all (fun i => mine.any (fun w => w.idx == i) ||
          !entries.any (fun q => q.idx == i && q.stage != .issued)) && entries.all (fun q => !s.lockedOut q) then
      let bad := mine.filter (fun w => upsetUe w.upset)
      let s := mine.foldl (fun s w => s.countWb w.upset) s
      if bad.isEmpty && r.wue then s.answerData rid .ue zeroLine
      else if bad.isEmpty then
        let s := s.mapLines (fun w => w.rid == some rid) (fun w => { w with upset := 0 })
        s.answerData rid .ok zeroLine
      else
        let s := bad.foldl (fun s w => s.raise 0x00 (portPlace r.org.portNo (r.line w.idx))) s
        let s := s.mapQEs (fun q => q.rid == rid && q.wr && bad.any (fun w => w.idx == q.idx))
          (fun q => { q with pay := .poison })
        s.answerData rid .ue zeroLine
    else s

/-- Place a write-data flit that has its credit, or discard it (R37, R38); it may complete its request. -/
def State.placeWd (s : State) (p : Nat) (f : WdFlit) : State :=
  match s.wdOwner p f.tag with
  | some r => (s.putWd p f).tryAnswer r.rid
  | none => s.putWd p f

/-- Lines leave the buffer, where it holds such lines. -/
def State.freeLines (s : State) (gone : WLine → Bool) : State := if s.wbuf.any gone then s.dropLines gone else s

/-- The effect of a write-data flit at a port: one credit is consumed and the flit placed; without a credit the acknowledge is
withheld (R48, R50). -/
def State.wdArrive (s : State) (p : Nat) (f : WdFlit) : State :=
  let x := s.port p
  if x.rst then s
  else if x.creds = 0 then s.setPort p { x with wdHeld := x.wdHeld ++ [f] }
  else (s.setPort p { x with creds := x.creds - 1 }).placeWd p f

/-! ## Acceptance (R31, R36, R42, R43) -/

/-- The first rank of R42, in its order: HALTED, OFFLINE in ENDGAME, at a closed or retired port (R65) and while slice S0 of a startup BIST runs
(R471), NOTREADY in BRINGUP otherwise (log entry 34). -/
def State.modeStatus (s : State) (p : Nat) : Option Status :=
  match s.mode with
  | .halt => some .halted
  | .endgame => some .offline
  | _ =>
    if !s.flag (Reg.HPT_PCTL_PEN p) || (s.port p).retired || (s.mode == .bringup && s.bist.slice == some 0) then some .offline
    else if s.mode = .bringup then some .notready
    else none

/-- The budget a request's deadline is set from (R43). -/
def State.budget (s : State) (p : Nat) (f : RqFlit) : Nat :=
  if f.budget = 0x3FFF then
    (if f.cls = 0 then s.fld (Reg.HPT_BUD0_BE_DEF p) else if f.cls = 1 then s.fld (Reg.HPT_BUD0_DL_DEF p)
     else s.fld (Reg.HPT_BUD1_RT_DEF p))
  else f.budget.toNat

/-- Requests accepted at a port and not yet granted (R77): a burst that has moved a line has been granted. -/
def State.waiting (s : State) (p : Nat) : List Req :=
  s.reqs.filter (fun r => r.org == .port p && r.stage == .ingress && decide (r.moved = 0))

/-- Flits the status responder of a port holds (R54). -/
def Port.statusFlits (x : Port) : Nat := (x.ready.filter (fun f => !f.entry)).length + (x.sent.filter (fun f => !f.entry)).length

/-- The line lies in the port's enabled aperture (R61). -/
def State.inAperture (s : State) (p : Nat) (a : HLine) : Bool :=
  s.flag (Reg.HPT_PCTL_APEN p) && decide (s.fld (Reg.HPT_APBASE_BASE p) * 2 ^ 14 ≤ a.toNat) &&
  decide (a.toNat < s.fld (Reg.HPT_APBASE_BASE p) * 2 ^ 14 + 2048)

/-- R31: HPn_RQ_ACK is withheld from the request at the pins. A tile asleep with only CORE awake acknowledges the requests it answers OFFLINE
and the aperture's (R63, R422); a tile that wakes acknowledges every request from its acknowledge step on (R425). -/
def State.withholdRq (s : State) (p : Nat) (h : HeldRq) : Bool :=
  let core := s.power.sleep == .asleep && s.power.coreOn
  let down := s.mode == .sleep && s.power.sleep != .waking
  match s.modeStatus p with
  | some _ => (down && !core) || decide (16 ≤ (s.port p).statusFlits)
  | none => (down && !(core && s.inAperture p h.flit.addr)) || decide (8 ≤ (s.waiting p).length)

/-- The writes of a port that a FLUSH accepted now covers (R100). -/
def State.coverSet (s : State) (p : Nat) : List Nat :=
  ((s.reqs.filter (fun r => r.org == .port p && isWriteOp r.op)).map (·.rid) ++
   (s.qes.filter (fun q => q.wr && q.src == .host && q.port == p)).map (·.rid)).dedup.filter (fun i => s.unfinished i ||
     s.reqs.any (fun r => r.rid == i && r.stage == .queued))

/-- R101: a covered write's effective deadline is the earlier of its own and the FLUSH's. -/
def minDl (a b : Tempo) : Tempo := if earlier b a then b else a

def State.flushPull (s : State) (cov : List Nat) (d : Tempo) : State :=
  { s with reqs := mapIf (fun r => cov.contains r.rid) (fun r => { r with eff := minDl r.eff d }) s.reqs,
           qes := mapIf (fun q => cov.contains q.rid) (fun q => { q with eff := minDl q.eff d }) s.qes }

/-- The orphan lines of a write-carrying request's tag become its own; those at or beyond its length are discarded (R37, R38). Orphans of the
tag of a request that carries no write data stay orphans (DESIGN CHOICE, log entry 83). -/
def State.joinOrphans (s : State) (p : Nat) (op : Op) (f : RqFlit) (rid : Nat) : State :=
  if carriesData op then
    let s := s.mapLines (fun w => w.own == some p && w.rid == none && w.tag == f.tag) (fun w => { w with rid := some rid })
    let extra : WLine → Bool := fun w => w.rid == some rid && decide (lineCount op f ≤ w.idx)
    if s.wbuf.any extra then (s.set1 (Reg.HPT_EVT_WD_BAD p)).freeLines extra else s
  else s

/-- Accept a request at a port (R36, R42, R43, R54): item 1 of R42 is answered by the status responder; any other enters the
ingress stage with its deadline. HPTn_EVT.DUP_TAG is set for a duplicate tag that reaches item 3 of R42, and not for one that a status of
item 1 answers (DESIGN CHOICE, log entry 81). -/
def State.acceptRq (s : State) (p : Nat) (h : HeldRq) : State :=
  let f := h.flit
  let rid := s.nextRid
  let dl : Tempo := h.tq + BitVec.ofNat 40 (2 * s.budget p f)
  let flush := h.op == .flush
  let dup := s.reqs.any (fun r => r.org == .port p && r.flit.tag == f.tag)
  let cov := if flush then s.coverSet p else []
  let r : Req := ⟨rid, .port p, h.op, f, h.tq, h.tq, dl, dl, false, (s.port p).panic, .ingress, dup, 0, 0,
    (if h.op == .rd then lineCount h.op f else 1), 0, cov, [], false, false⟩
  let s : State := { s with nextRid := rid + 1 }
  match s.modeStatus p with
  | some st =>
    let s : State := { s with reqs := s.reqs ++ [{ r with stage := .answered, owed := 1 }] }
    let s := if dup then s else s.joinOrphans p h.op f rid
    s.respond { r with owed := 1 } 0 st false zeroLine false
  | none =>
    let s := if dup then s.set1 (Reg.HPT_EVT_DUP_TAG p) else s
    let s : State := { s with reqs := s.reqs ++ [r] }
    let s := if flush then s.flushPull cov dl else s
    if dup then s else s.joinOrphans p h.op f rid

/-- Take the requests waiting at the pins of a port while nothing withholds the acknowledge (R31). -/
def State.takeHeldRq (s : State) (p : Nat) : Nat → State
  | 0 => s
  | n + 1 =>
    match (s.port p).rqHeld with
    | [] => s
    | h :: rest =>
      if s.withholdRq p h then s
      else ((s.setPort p { s.port p with rqHeld := rest }).acceptRq p h).takeHeldRq p n

/-- The same at every port. -/
def State.takeAllHeld (s : State) : State :=
  (List.range 8).foldl (fun s p => s.takeHeldRq p (s.port p).rqHeld.length) s

/-- A request handshake begins at a port: taken at once, or held at the pins behind a withheld acknowledge (R31). -/
def State.rqArrive (s : State) (p : Nat) (op : Op) (f : RqFlit) : State :=
  let x := s.port p
  if x.rst then s
  else
    let s := s.setPort p { x with rqHeld := x.rqHeld ++ [⟨op, f, s.tempo⟩] }
    s.takeHeldRq p (x.rqHeld.length + 1)

/-! ## Sending (R55, R59, R189) -/

/-- The ready flit a port sends next: RT first, then DL, then BE; within a class the order of readiness; a burst's lines in index
order (R55). -/
def State.nextReady (s : State) (p : Nat) : Option Rsp :=
  let ok : Rsp → Bool := fun f => match s.req? f.rid with | some r => f.idx == r.nextIdx | none => true
  best (fun a b => decide (b.cls < a.cls) && decide (a.cls < 3) || decide (3 ≤ b.cls) && decide (a.cls < 3))
    ((s.port p).ready.filter ok)

/-- What the pins carry of an entry: its data and status, or UE and zero data when a stored word is uncorrectable (R59). -/
def State.sendFlit (s : State) (p : Nat) (f : Rsp) (upset : LineData) : State :=
  if f.entry then
    let c := secded 8 upset.toNat
    let s := s.bump Reg.GLOB_BUFCE_RB_CE c.1
    if c.2 = 0 then s.emit (.response p (rspFlit f f.data f.status))
    else
      let s := ((s.bump Reg.GLOB_BUFUE_RB_UE c.2).set1 Reg.GLOB_BUFEVT_RB_UE).raise 0x02 (atPort p)
      s.emit (.response p (rspFlit f zeroLine .ue))
  else s.emit (.response p (rspFlit f f.data f.status))

/-- The last first-send of a request: its tag is free, its data discarded where the status says so (R37), lateness judged (R189). -/
def State.finish (s : State) (p : Nat) (r : Req) (st : Status) : State :=
  let s := if earlier r.dl s.tempo || r.clamped then s.bump Reg.SCHD_CNT1_LATE else s
  let s := s.dropReq r.rid
  let s := if st.discards then s.freeLines (fun w => w.own == some p && w.rid == some r.rid) else s
  s.checkFlush

/-- R189: the line that a response flit answers (a WR's one flit answers them all) was admitted, and more than 800 ns have passed since the
start of its interval (R188): the request edge, or the last write-data flit where that came later. -/
def State.rtLate (s : State) (r : Req) (idx : Nat) : Bool :=
  let start := if earlier r.t0 r.tLast then r.tLast else r.t0
  (if r.op == .rd then r.admitted.contains idx else !r.admitted.isEmpty) && decide (800 < (s.tempo - start).toNat)

/-- A flit has been sent for the first time: its request owes one flit less (R55). -/
def State.firstSent (s : State) (p : Nat) (f : Rsp) : State :=
  match s.req? f.rid with
  | none => s
  | some r =>
    let s := if s.rtLate r f.idx then s.set1 Reg.SCHD_EVT_RT_LATE else s
    let s := s.mapReq f.rid (fun r => { r with owed := r.owed - 1, nextIdx := r.nextIdx + 1 })
    if r.owed ≤ 1 then s.finish p r f.status else s

/-- The tile sends the next flit of a port: a repeat under R57 first, else the next ready one with the next sequence number. -/
def State.sendNext (s : State) (p : Nat) (upset : LineData) : State :=
  let x := s.port p
  if x.rst then s
  else match x.rep with
  | some k =>
    match x.sent[k]? with
    | some f =>
      let s := s.setPort p { x with rep := if k + 1 < x.sent.length then some (k + 1) else none }
      s.sendFlit p f upset
    | none => s.setPort p { x with rep := none }
  | none =>
    match s.nextReady p with
    | none => s
    | some f0 =>
      let f := { f0 with seq := x.next }
      ((s.setPort p { x with ready := x.ready.erase f0, sent := x.sent ++ [f], next := x.next + 1 }).sendFlit p f upset).firstSent p f

/-- The mark: the oldest unreleased sequence number (R56). -/
def Port.mark (x : Port) : BitVec 12 := match x.sent with | [] => x.next | f :: _ => f.seq

/-- The place of a sequence number in the sent and unreleased range. -/
def Port.place (x : Port) (q : BitVec 12) : Option Nat := x.sent.findIdx? (fun f => f.seq == q)

/-- R56: free every sent entry up to and including sequence number `q`; a release ends a run of negative acknowledges (R58), one that is
ignored does not (DESIGN CHOICE, log entry 85). A port in reset takes none (R60). A request withheld for a full status responder (R31) is
taken by State.done. -/
def State.release (s : State) (p : Nat) (q : BitVec 12) : State :=
  let x := s.port p
  if x.rst then s
  else match x.place q with
  | none => s
  | some k =>
    let left := x.sent.length - (k + 1)
    let rep := match x.rep with
      | some j => if j - (k + 1) < left then some (j - (k + 1)) else none
      | none => none
    (s.setPort p { x with sent := x.sent.drop (k + 1), rep := rep, nakSeq := none, nakRun := 0 }).levels

/-- R57, R58: a negative acknowledge rewinds to `q`; outside the range it is ignored with an event, and leaves a run of R58 as it is (DESIGN
CHOICE, log entry 85). A port in reset takes none (R60). -/
def State.nak (s : State) (p : Nat) (q : BitVec 12) : State :=
  let x := s.port p
  if x.rst then s
  else
  let s := s.bump (Reg.HPT_NAKCNT_NAKS p)
  match x.place q with
  | none => s.set1 (Reg.HPT_EVT_NAK_RANGE p)
  | some k =>
    let run := if x.nakSeq = some q then x.nakRun + 1 else 1
    let full := decide (run = 8)
    let s := (s.setPort p { x with sent := x.sent.drop k, rep := some 0, nakSeq := some q, nakRun := if full then 0 else run }).levels
    if full then (s.set1 (Reg.HPT_EVT_NAK_LIMIT p)).raise 0x04 (atPort p) else s

end Sys2Proof.Machine
end

