-- ==== Sys2Proof/Machine/Map.lean ====
section
/-! DEFINITION. The address map: entry lookup, target selection, mirror placement, in-channel decode and its inverse
(R107-R115, R121), and the checks made at COMMIT (R116, R124). -/

namespace Sys2Proof.Machine

open Sys2Proof

/-- A map entry of R107 as its block words spell it (R134). -/
structure MapEntry where
  base : Nat
  limit : Nat
  mtile : Nat
  mirror : Nat
  hash : Bool
  grain : Nat
  ntgt : Nat
  vld : Bool
  ver : Nat
  chbase : Nat
  slots : List Nat
  deriving DecidableEq, Repr

/-- An entry from the twelve words of its block, offsets 0x00 to 0x2C (R134). -/
def entryOf (w : Nat → Word) : MapEntry :=
  let c := (w 2).toNat
  { base := (w 0).toNat, limit := (w 1).toNat, mtile := bits c 31 27, mirror := bits c 26 25, hash := c.testBit 24,
    grain := bits c 23 20, ntgt := bits c 19 15, vld := c.testBit 8, ver := bits c 7 0, chbase := bits (w 3).toNat 17 0,
    slots := (List.range 32).map (fun k => bits ((w (4 + k / 4)).toNat) (8 * (k % 4) + 6) (8 * (k % 4))) }

/-- Current entry `e`: the active words of its block. -/
def State.entry (s : State) (e : Nat) : MapEntry := entryOf (fun i => s.word (regKey 7 (0x100 + 0x40 * e + 4 * i)))

/-- The retained version of entry `e`, readable at 0x500 + 0x40 e. -/
def State.retainedEntry (s : State) (e : Nat) : MapEntry := entryOf (fun i => s.word (regKey 7 (0x500 + 0x40 * e + 4 * i)))

/-- The number of targets. -/
def MapEntry.n (m : MapEntry) : Nat := m.ntgt + 1

/-- log2 of the grain G (R107). -/
def MapEntry.g (m : MapEntry) : Nat := 8 + m.grain

/-- R107: the entry covers a host line. -/
def MapEntry.covers (m : MapEntry) (a : HLine) : Bool :=
  m.vld && decide (m.base ≤ a.toNat / 2 ^ 14) && decide (a.toNat / 2 ^ 14 ≤ m.limit)

/-- The XOR of all k-bit fields of c, counted from bit 0 upward (R109); empty for k = 0. -/
def xorFold (k : Nat) : Nat → Nat → Nat
  | 0, _ => 0
  | fuel + 1, c => if k = 0 then 0 else (c % 2 ^ k) ^^^ xorFold k fuel (c / 2 ^ k)

/-- R109: the target slot and the channel-local byte address of a host byte address. -/
def MapEntry.target (m : MapEntry) (addr : Nat) : Nat × Nat :=
  let off := addr - m.base * 2 ^ 20
  let c := off >>> m.g
  let t := if m.hash then xorFold (Nat.log2 m.n) 52 c else c % m.n
  (t, m.chbase * 2 ^ 20 + (c / m.n) * 2 ^ m.g + off % 2 ^ m.g)

/-- The tile and channel a slot names (R110). -/
def MapEntry.slot (m : MapEntry) (t : Nat) : Nat × Nat :=
  let v := nth 0 m.slots t
  (v / 4, v % 4)

/-! ## Decode inside a channel -/

/-- The decode of one channel: row bits, seven column bits, two ranks, bank hashing, spare rows and the select positions (R112,
R113, R131, R132). -/
structure ChDec where
  rowBits : Nat
  col7 : Bool
  rkEn : Bool
  bhash : Bool
  spare : Nat
  sc : Nat
  bg0 : Nat
  bg1 : Nat
  bg2 : Nat
  ba0 : Nat
  ba1 : Nat
  rk : Nat
  deriving DecidableEq, Repr

/-- A channel's decode from its two words. -/
def chDecOf (dec sel : Word) : ChDec :=
  let d := dec.toNat
  let w := sel.toNat
  { rowBits := bits d 4 0, col7 := d.testBit 9, rkEn := d.testBit 10, bhash := d.testBit 11, spare := bits d 15 12,
    sc := bits w 3 0, bg0 := bits w 7 4, bg1 := bits w 11 8, bg2 := bits w 15 12, ba0 := bits w 19 16,
    ba1 := bits w 23 20, rk := bits w 27 24 }

def State.chDec (s : State) (c : Nat) : ChDec := chDecOf (s.word (regKey 7 (0x50 + 4 * c))) (s.word (regKey 7 (0x60 + 4 * c)))

/-- M of R112: all fields except the row. -/
def ChDec.m (d : ChDec) : Nat := (if d.col7 then 7 else 6) + 3 + 2 + 1 + b2n d.rkEn

/-- The enabled selects (R113). -/
def ChDec.sels (d : ChDec) : List Nat := [d.sc, d.bg0, d.bg1, d.bg2, d.ba0, d.ba1] ++ (if d.rkEn then [d.rk] else [])

/-- The positions of the column bits: what the selects leave of L[M-1:0], ascending (R113). -/
def ChDec.cols (d : ChDec) : List Nat := (List.range d.m).filter (fun i => !d.sels.contains i)

/-- Bit `i` of a number, as a number. -/
def bitAt (x i : Nat) : Nat := b2n (x.testBit i)

/-- Bits of `x` at the listed positions, the first lowest. -/
def gather (x : Nat) (ps : List Nat) : Nat := ps.foldr (fun p acc => acc * 2 + bitAt x p) 0

/-- The inverse of `gather`: the low bits of `v` at the listed positions. -/
def scatter (v : Nat) (ps : List Nat) : Nat :=
  (ps.foldl (fun (acc : Nat × Nat) p => (acc.1 + (acc.2 % 2) * 2 ^ p, acc.2 / 2)) (0, v)).1

/-- R112-R114: the DRAM location of channel-local line address `l` in channel `c`. -/
def ChDec.loc (d : ChDec) (c l : Nat) : Loc :=
  let row := (l >>> d.m) % 2 ^ d.rowBits
  let bg := gather l [d.bg0, d.bg1, d.bg2] ^^^ (if d.bhash then row % 8 else 0)
  let ba := gather l [d.ba0, d.ba1] ^^^ (if d.bhash then (row / 8) % 4 else 0)
  { ch := c, sck := bitAt l d.sc, rk := if d.rkEn then bitAt l d.rk else 0, bk := 4 * bg + ba, row := row,
    col := gather l d.cols, l := l }

def State.locOf (s : State) (c l : Nat) : Loc := (s.chDec c).loc c l

/-- The line address of a location: what `loc` maps to it. -/
def ChDec.lineOf (d : ChDec) (sck rk bk row col : Nat) : Nat :=
  let bg := (bk / 4) ^^^ (if d.bhash then row % 8 else 0)
  let ba := (bk % 4) ^^^ (if d.bhash then (row / 8) % 4 else 0)
  row * 2 ^ d.m + scatter col d.cols + scatter sck [d.sc] + (if d.rkEn then scatter rk [d.rk] else 0) +
    scatter bg [d.bg0, d.bg1, d.bg2] + scatter ba [d.ba0, d.ba1]

/-- The training row of a bank, its highest row (R115). -/
def ChDec.trainRow (d : ChDec) : Nat := 2 ^ d.rowBits - 1

/-- R115: a channel's usable capacity in lines. -/
def ChDec.capacity (d : ChDec) : Nat := (2 ^ d.rowBits - 1 - d.spare) * 2 ^ d.m

/-! ## Lookup (R106, R108, R121) -/

/-- What the decoder finds for a host line at this tile. -/
inductive Found where
  /-- a current entry names this tile: entry, channel, channel-local line address -/
  | here (e : Nat) (m : MapEntry) (c l : Nat)
  /-- a current entry names another tile, and a retained version names this one: forward to the tile -/
  | forward (e ver tile : Nat)
  /-- answered DECODE, with misroute or without -/
  | decode (misroute : Bool)
  deriving DecidableEq, Repr

/-- The current entry that covers a line. -/
def State.entryFor (s : State) (a : HLine) : Option Nat := (List.range 16).find? (fun e => (s.entry e).covers a)

/-- A retained version in which this tile's own slot was the target of the line. -/
def State.retainedHere (s : State) (a : HLine) : Bool :=
  (List.range 16).any (fun e => s.retained.contains e && (s.retainedEntry e).covers a &&
    decide (((s.retainedEntry e).slot ((s.retainedEntry e).target (a.toNat * 64)).1).1 = s.tileNo))

def State.lookup (s : State) (a : HLine) : Found :=
  match s.entryFor a with
  | none => .decode (s.retainedHere a)
  | some e =>
    let m := s.entry e
    let (t, c) := m.target (a.toNat * 64)
    let (tile, ch) := m.slot t
    if tile = s.tileNo then .here e m ch (c / 64)
    else if s.retainedHere a then .forward e m.ver tile
    else .decode true

/-! ## Checks at COMMIT (R116) -/

/-- The channel-local range of an entry's share, in bytes. -/
def MapEntry.share (m : MapEntry) : Nat × Nat :=
  (m.chbase * 2 ^ 20, m.chbase * 2 ^ 20 + (m.limit + 1 - m.base) * 2 ^ 20 / m.n)

/-- The targets an entry uses. -/
def MapEntry.used (m : MapEntry) : List (Nat × Nat) := (List.range m.n).map m.slot

/-- The checks of a staged map that fail, by their AMAP_EVT bits. `ent` gives the staged entries, `dec` the staged channel decodes, `bad` the
channels of this tile that are absent or retired, `own` this tile. No row of R116 refuses a slot that names another tile in a configuration without
the ring, which R110 forbids firmware: the map is taken, and a request to that slot is answered DECODE with misroute 1 (DESIGN CHOICE, log entry
90). -/
def mapCheck (ring : Bool) (own : Nat) (bad : Nat → Bool) (ent : Nat → MapEntry) (dec : Nat → ChDec) : List Nat :=
  let es := ((List.range 16).map ent).filter (·.vld)
  let pairs := ((List.range 16).flatMap (fun i => ((List.range 16).filter (fun j => decide (i < j))).map (fun j => (ent i, ent j)))).filter
    (fun p => p.1.vld && p.2.vld)
  let overlap := pairs.any (fun p => decide (p.1.base ≤ p.2.limit) && decide (p.2.base ≤ p.1.limit))
  let extent := es.any (fun m => decide (m.limit < m.base) || decide (8 < m.grain) ||
    decide ((m.limit + 1 - m.base) * 2 ^ 20 % (m.n * 2 ^ m.g) ≠ 0))
  let hashN := es.any (fun m => m.hash && decide (2 ^ Nat.log2 m.n ≠ m.n))
  let tgt := es.any (fun m => m.used.any (fun t => decide (t.1 = own) && bad t.2) || !m.used.Nodup) ||
    pairs.any (fun p => p.1.used.any (fun t => decide (t.1 = own) && p.2.used.contains t) &&
      decide (p.1.share.1 < p.2.share.2) && decide (p.2.share.1 < p.1.share.2)) ||
    es.any (fun m => m.used.any (fun t => decide (t.1 = own) && decide ((dec t.2).capacity * 64 < m.share.2))) ||
    (List.range 4).any (fun c => (dec c).sels.any (fun i => decide ((dec c).m ≤ i)) || !(dec c).sels.Nodup ||
      decide ((dec c).rowBits < 14) || decide (18 < (dec c).rowBits))
  let mirror := es.any (fun m => decide (m.mirror = 3) ||
    (decide (m.mirror = 1) && m.used.any (fun t => m.used.contains (t.1, t.2 ^^^ 1))) ||
    (decide (m.mirror = 2) && (!ring || m.used.any (fun t => decide (t.1 ≠ (nth (0, 0) m.used 0).1) || decide (t.1 = m.mtile)))))
  ([(overlap, 0), (extent, 1), (hashN, 2), (tgt, 3), (mirror, 4)].filter (·.1)).map (·.2)

/-- Where a byte address resolves to: tile, channel, channel-local byte address (R109, R110). -/
def MapEntry.resolve (m : MapEntry) (addr : Nat) : (Nat × Nat) × Nat :=
  let x := m.target addr
  (m.slot x.1, x.2)

/-- What of an entry decides where its lines lie. -/
def MapEntry.layout (m : MapEntry) : MapEntry := { m with vld := true, ver := 0 }

/-- R124: going from `old` to `new` moves a line of tile `own` that lies below its channel's watermark `wm`. -/
def moves (own : Nat) (wm : Nat → Nat) (old new : MapEntry) : Bool :=
  let lo := max old.base new.base
  let hi := min old.limit new.limit
  if hi < lo then false
  else if { old.layout with limit := 0, mirror := 0, mtile := 0 } = { new.layout with limit := 0, mirror := 0, mtile := 0 } then false
  else
    let g := min old.g new.g
    (List.range ((hi + 1 - lo) * 2 ^ 20 / 2 ^ g)).any (fun i =>
      let a := lo * 2 ^ 20 + i * 2 ^ g
      let x := old.resolve a
      decide (x.1.1 = own) && decide (x.2 / 64 < wm x.1.2) && decide (new.resolve a ≠ x))

end Sys2Proof.Machine
end

