-- ==== Sys2Proof/Machine/Timing.lean ====
section
/-! DEFINITION. Command timing: the active timing values, the slots each command takes, the counters of the lattice that check and
follow each command, and the data-bus windows (R199-R219). -/

namespace Sys2Proof.Machine

open Sys2Proof

/-- The timing values the lattices enforce (R210, R211), in CK. -/
structure Timg where
  cl : Nat
  mbl : Nat
  crcw : Nat
  rcd : Nat
  rp : Nat
  ras : Nat
  rtp : Nat
  wr : Nat
  ccdS : Nat
  ccdL : Nat
  ccdLWr : Nat
  rrdS : Nat
  rrdL : Nat
  faw : Nat
  wtrS : Nat
  wtrL : Nat
  rfcab : Nat
  rfcsb : Nat
  refsbrd : Nat
  rfmab : Nat
  rfmsb : Nat
  mrd : Nat
  mrw : Nat
  mrr : Nat
  zqlat : Nat
  xs : Nat
  xsdll : Nat
  gapRw : Nat
  gapRr : Nat
  gapWw : Nat
  gapWr : Nat
  gapPc : Nat
  cpded : Nat
  cklcs : Nat
  cksrx : Nat
  mrdimm : Bool
  rate : Nat
  deriving DecidableEq, Repr

/-- Timing values from the words of the TIMG page. -/
def timgOf (f : FRef → Nat) : Timg :=
  { cl := f Reg.TIMG_LAT_CL, mbl := f Reg.TIMG_LAT_MBL, crcw := f Reg.TIMG_LAT_CRCW, rcd := f Reg.TIMG_ACT_RCD,
    rp := f Reg.TIMG_ACT_RP, ras := f Reg.TIMG_ACT_RAS, rtp := f Reg.TIMG_COL_RTP, wr := f Reg.TIMG_COL_WR,
    ccdS := f Reg.TIMG_CCD_CCD_S, ccdL := f Reg.TIMG_CCD_CCD_L, ccdLWr := f Reg.TIMG_CCD_CCD_L_WR,
    rrdS := f Reg.TIMG_RRD_RRD_S, rrdL := f Reg.TIMG_RRD_RRD_L, faw := f Reg.TIMG_RRD_FAW,
    wtrS := f Reg.TIMG_WTR_WTR_S, wtrL := f Reg.TIMG_WTR_WTR_L, rfcab := f Reg.TIMG_RFC_RFCAB,
    rfcsb := f Reg.TIMG_RFC_RFCSB, refsbrd := f Reg.TIMG_RFC2_REFSBRD, rfmab := f Reg.TIMG_RFM_RFMAB,
    rfmsb := f Reg.TIMG_RFM_RFMSB, mrd := f Reg.TIMG_MR_MRD, mrw := f Reg.TIMG_MR_MRW, mrr := f Reg.TIMG_MR_MRR,
    zqlat := f Reg.TIMG_ZQ_ZQLAT, xs := f Reg.TIMG_XS_XS, xsdll := f Reg.TIMG_XS_XSDLL, gapRw := f Reg.TIMG_TURN_RW,
    gapRr := f Reg.TIMG_TURN_RRRS, gapWw := f Reg.TIMG_TURN_WWRS, gapWr := f Reg.TIMG_TURN_WRRS,
    gapPc := f Reg.TIMG_TURN_PC, cpded := f Reg.TIMG_SR_CPDED, cklcs := f Reg.TIMG_SR_CKLCS, cksrx := f Reg.TIMG_SR_CKSRX, mrdimm := f Reg.TIMG_MODE_MTYPE != 0, rate := f Reg.TIMG_MODE_RATE }

def State.timg (s : State) : Timg := timgOf s.fld

/-- CWL and tBL of R211. -/
def Timg.cwl (t : Timg) : Nat := t.cl - 2
def Timg.bl (_ : Timg) : Nat := 8

/-- Slots a command takes (R201). -/
def Cmd.slots (c : Cmd) : Nat :=
  match c with
  | .act | .rd | .rda | .wr | .wra | .mrw | .mrr => 2
  | _ => 1

def Cmd.isRd (c : Cmd) : Bool := c == .rd || c == .rda
def Cmd.isWr (c : Cmd) : Bool := c == .wr || c == .wra
def Cmd.isCol (c : Cmd) : Bool := c.isRd || c.isWr
/-- The DRAM column address sent with a column command is the column field times 16 (R113). -/
def Cmd.column (c : Cmd) (col : Nat) : Nat := if c.isCol then 16 * col else col

/-- The number of a command in the order of R201's constructors. -/
def Cmd.code (c : Cmd) : Nat :=
  match c with
  | .act => 0 | .rd => 1 | .rda => 2 | .wr => 3 | .wra => 4 | .mrw => 5 | .mrr => 6 | .pre => 7 | .preab => 8 | .refab => 9 | .refsb => 10
  | .rfmab => 11 | .rfmsb => 12 | .sre => 13 | .srx => 14 | .zqs => 15 | .zql => 16

/-- CA parity of a command (R202): the parity of its CA bits. -/
def caParity (c : Cmd) (bk row col : Nat) : Bool :=
  let w := (Config.caBits c.code bk row col).toNat
  decide (((List.range 28).filter (fun i => w.testBit i)).length % 2 = 1)

/-- A command as it leaves the pins: with the column sent (R113) and CA parity. -/
def sentCmd (sc : Nat) (c : Cmd) (rk bk row col : Nat) : Output :=
  .command sc c rk bk row (c.column col) (caParity c bk row (c.column col))

/-- The command a subchannel's bus carries in a slot, once the tick has been decided (R199, R202); none is a deselect, all CS_n high. -/
def Sub.onBus (u : Sub) (x : Nat) : Option Issue := u.accepted.find? (fun i => decide (i.slot ≤ x) && decide (x < i.slot + i.cmd.slots))

/-- The 32-bit tick counter: the low bits of the count of ticks since it was cleared (R203). -/
def Sub.tickCounter (u : Sub) : BitVec 32 := BitVec.ofNat 32 u.tick

def Cmd.isRef (c : Cmd) : Bool := c == .refab || c == .refsb
def Cmd.isRfm (c : Cmd) : Bool := c == .rfmab || c == .rfmsb

/-- Start offset and length of a read or write data window from its command's slot (R215, R219). -/
def Timg.winStart (t : Timg) (wr : Bool) : Nat :=
  if wr then (if t.mrdimm then t.cwl - t.mbl else t.cwl) else (if t.mrdimm then t.cl + t.mbl else t.cl)
def Timg.winLen (t : Timg) : Nat := if t.mrdimm then 4 else 8

/-- Earliest slot of the command so that its data window meets R216 (and R219 on an MRDIMM); at least 4 CK lie before and after a window that
uses the probe trim set (R375). -/
def busLimit (t : Timg) (u : Sub) (wr : Bool) (rk : Nat) (probe : Bool := false) : Nat :=
  let rr := if t.mrdimm then t.gapPc else t.gapRr
  let ww := if t.mrdimm then t.gapPc else t.gapWw
  let gap (w : Win) (n : Nat) : Nat := w.stop + (if probe || w.probe then max 4 n else n)
  let fromRd := match u.lastRd with
    | none => 0
    | some w => gap w (if wr then t.gapRw else if w.rk = rk then 0 else rr)
  let fromWr := match u.lastWr with
    | none => 0
    | some w => gap w (if w.rk = rk then 0 else if wr then ww else t.gapWr)
  max fromRd fromWr - t.winStart wr

/-- Key of a bank's counters, and of a bank group's. -/
def bankKey (rk bk : Nat) : Nat := 32 * rk + bk
def grpKey (rk bk : Nat) : Nat := 8 * rk + bk / 4

/-- The banks of a rank, and the eight banks of index j. -/
def rankBanks (rk : Nat) : List Nat := (List.range 32).map (bankKey rk)
def idxBanks (rk j : Nat) : List Nat := (List.range 8).map (fun g => bankKey rk (4 * g + j % 4))

def maxOf (t : Tab Nat) (ks : List Nat) : Nat := ks.foldl (fun m k => max m (tget 0 t k)) 0

/-- R213: the counters that check a command, grouped by reason: BANK, RANK, BUS. Each is the earliest slot permitted. -/
def limits (t : Timg) (u : Sub) (c : Cmd) (rk bk : Nat) (probe : Bool := false) : Nat × Nat × Nat :=
  let bKey := bankKey rk bk
  let gKey := grpKey rk bk
  let busy := tget 0 u.rkBusy rk
  let faw := match tget [] u.rkFaw rk with
    | a :: _ :: _ :: _ :: _ => a + t.faw
    | _ => 0
  match c with
  | .act => (tget 0 u.bkAct bKey, max busy (max (tget 0 u.rkActg gKey) faw), 0)
  | .rd | .rda => (tget 0 u.bkCol bKey, max busy (tget 0 u.rkRdg gKey), max (tget 0 u.rkWtrg gKey) (busLimit t u false rk probe))
  | .wr | .wra => (tget 0 u.bkCol bKey, max busy (tget 0 u.rkWrg gKey), busLimit t u true rk probe)
  | .pre => (tget 0 u.bkPre bKey, busy, 0)
  | .preab => (maxOf u.bkPre (rankBanks rk), busy, 0)
  | .refsb | .rfmsb => (maxOf u.bkAct (idxBanks rk bk), max busy (maxOf u.rkActg ((List.range 8).map (fun g => 8 * rk + g))), 0)
  | .refab | .rfmab => (maxOf u.bkAct (rankBanks rk), busy, 0)
  | .mrw => (0, max busy (tget 0 u.rkMr rk), 0)
  | .mrr => (0, max busy (max (tget 0 u.rkMr rk) (maxOf u.rkRdg ((List.range 8).map (fun g => 8 * rk + g)))), busLimit t u false rk)
  | .zqs | .zql | .sre | .srx => (0, busy, 0)

/-- A data window of the rank is open in slot `x`: of a read in flight, or a write whose alert window is still open (R215, R223). -/
def windowOpen (t : Timg) (u : Sub) (rk x : Nat) : Bool :=
  (u.accepted ++ u.reading ++ u.alertWin).any (fun i => i.rk == rk && (i.cmd.isCol || i.cmd == .mrr) &&
    decide (i.slot + t.winStart i.cmd.isWr ≤ x) && decide (x < i.slot + t.winStart i.cmd.isWr + t.winLen))

/-- The slot at which a write's alert window closes: tCRC_ALERT after the end of its write window (R217). -/
def Timg.alertEnd (t : Timg) (slot : Nat) : Nat := slot + t.winStart true + t.winLen + t.crcw

/-- A counter is only ever raised (R214). -/
def raiseAt (t : Tab Nat) (k v : Nat) : Tab Nat := tput 0 k (max v (tget 0 t k)) t
def raiseAll (t : Tab Nat) (ks : List Nat) (v : Nat) : Tab Nat := ks.foldl (fun t k => raiseAt t k v) t

/-- Raise the counters of every bank group of a rank, the command's own by `l` and the others by `o`. -/
def raiseGroups (t : Tab Nat) (rk bk slot l o : Nat) : Tab Nat :=
  (List.range 8).foldl (fun t g => raiseAt t (8 * rk + g) (slot + if g = bk / 4 then l else o)) t

/-- The implied precharge slot of RDA and WRA (R211). -/
def impliedPre (t : Timg) (u : Sub) (c : Cmd) (rk bk slot : Nat) : Nat :=
  max (tget 0 u.bkPre (bankKey rk bk)) (if c == .rda then slot + t.rtp else slot + t.cwl + t.bl + t.wr)

/-- R214, R215: the counters, windows and recorded states after a command takes slot `slot`. -/
def applyCmd (t : Timg) (u : Sub) (c : Cmd) (rk bk row slot : Nat) (probe : Bool := false) : Sub :=
  let bKey := bankKey rk bk
  let win (wr : Bool) : Option Win := some ⟨slot + t.winStart wr + t.winLen, rk, probe⟩
  match c with
  | .act =>
    { u with
      bkCol := raiseAt u.bkCol bKey (slot + t.rcd)
      bkPre := raiseAt u.bkPre bKey (slot + t.ras)
      rkActg := raiseGroups u.rkActg rk bk slot t.rrdL t.rrdS
      rkFaw := tput [] rk (((tget [] u.rkFaw rk) ++ [slot]).drop ((tget [] u.rkFaw rk).length - 3)) u.rkFaw
      rowOf := tput 0 bKey (row + 1) u.rowOf }
  | .rd | .rda =>
    let u := { u with
      rkRdg := raiseGroups u.rkRdg rk bk slot t.ccdL t.ccdS
      bkPre := raiseAt u.bkPre bKey (slot + t.rtp)
      lastRd := win false }
    if c == .rda then
      { u with
        bkAct := raiseAt u.bkAct bKey (impliedPre t u c rk bk slot + t.rp)
        rowOf := tput 0 bKey 0 u.rowOf }
    else u
  | .wr | .wra =>
    let u := { u with
      rkWrg := raiseGroups u.rkWrg rk bk slot t.ccdLWr t.ccdS
      bkPre := raiseAt u.bkPre bKey (slot + t.cwl + t.bl + t.wr)
      rkWtrg := raiseGroups u.rkWtrg rk bk (slot + t.cwl + t.bl) t.wtrL t.wtrS
      lastWr := win true }
    if c == .wra then
      { u with
        bkAct := raiseAt u.bkAct bKey (impliedPre t u c rk bk slot + t.rp)
        rowOf := tput 0 bKey 0 u.rowOf }
    else u
  | .pre => { u with bkAct := raiseAt u.bkAct bKey (slot + t.rp), rowOf := tput 0 bKey 0 u.rowOf }
  | .preab =>
    { u with
      bkAct := raiseAll u.bkAct (rankBanks rk) (slot + t.rp)
      rowOf := (rankBanks rk).foldl (fun r k => tput 0 k 0 r) u.rowOf }
  | .refab => { u with rkBusy := raiseAt u.rkBusy rk (slot + t.rfcab) }
  | .rfmab => { u with rkBusy := raiseAt u.rkBusy rk (slot + t.rfmab) }
  | .refsb =>
    { u with
      bkAct := raiseAll u.bkAct (idxBanks rk bk) (slot + t.rfcsb)
      rkActg := raiseAll u.rkActg ((List.range 8).map (fun g => 8 * rk + g)) (slot + t.refsbrd) }
  | .rfmsb =>
    { u with
      bkAct := raiseAll u.bkAct (idxBanks rk bk) (slot + t.rfmsb)
      rkActg := raiseAll u.rkActg ((List.range 8).map (fun g => 8 * rk + g)) (slot + t.refsbrd) }
  | .mrw => { u with rkBusy := raiseAt u.rkBusy rk (slot + t.mrd), rkMr := raiseAt u.rkMr rk (slot + t.mrw) }
  | .mrr => { u with rkMr := raiseAt u.rkMr rk (slot + t.mrr), lastRd := win false }
  | .zql => { u with rkBusy := raiseAt u.rkBusy rk (slot + t.zqlat), zqDone := tput 0 rk (slot + t.zqlat) u.zqDone }
  | .srx =>
    { u with
      rkBusy := raiseAt u.rkBusy rk (slot + t.xs)
      rkRdg := raiseAll u.rkRdg ((List.range 8).map (fun g => 8 * rk + g)) (slot + t.xsdll)
      asleep := u.asleep.filter (· != rk) }
  | .sre => { u with asleep := u.asleep.filter (· != rk) ++ [rk] }
  | .zqs => u

/-- R208: the recorded state permits the command. -/
def stateOk (u : Sub) (c : Cmd) (rk bk : Nat) : Bool :=
  let awake := !u.asleep.contains rk
  let isOpen := decide (tget 0 u.rowOf (bankKey rk bk) ≠ 0)
  match c with
  | .act => !isOpen && awake
  | .rd | .rda | .wr | .wra => isOpen && awake
  | .pre => isOpen
  | .preab => awake
  | .refsb | .rfmsb => (idxBanks rk bk).all (fun k => decide (tget 0 u.rowOf k = 0))
  | .refab | .rfmab | .mrw => (rankBanks rk).all (fun k => decide (tget 0 u.rowOf k = 0))
  | .mrr | .zqs | .zql => awake
  | .sre | .srx => false

/-- The first free slots of tick `k2` for a command, at or after `from`. -/
def freeSlot (used : List Nat) (c : Cmd) (k2 start : Nat) : Option Nat :=
  (List.range (5 - c.slots)).map (fun j => 4 * k2 + j) |>.find? (fun x =>
    decide (start ≤ x) && (List.range c.slots).all (fun i => !used.contains (x + i)))

/-- R203: E is met at tick k; 0 means as soon as possible. -/
def eMet (k e : Nat) : Bool := decide (e = 0) || decide ((k + 2 ^ 16 - e % 2 ^ 16) % 2 ^ 16 < 2 ^ 15)

/-- The slot at which E will be met, seen from tick k. -/
def eSlot (k e : Nat) : Nat := if eMet k e then 0 else 4 * (k + (e % 2 ^ 16 + 2 ^ 16 - k % 2 ^ 16) % 2 ^ 16)

end Sys2Proof.Machine
end

