-- ==== Sys2Proof/Machine/Rows.lean ====
section
/-! DEFINITION. Row-disturbance defence in the bank engines (R248-R252) and the refresh groups' debt (R237-R242). -/

namespace Sys2Proof.Machine

open Sys2Proof

/-! ## Activation tables -/

/-- The entry number with the smallest count, the lowest on ties (R249). -/
def minEntry (l : List ActEnt) : Nat :=
  (l.foldl (fun (acc : Nat × Nat × Nat) x => if x.count < acc.2.1 then (acc.2.2, x.count, acc.2.2 + 1)
    else (acc.1, acc.2.1, acc.2.2 + 1)) (0, (l.head?.map (·.count)).getD 0, 0)).1

/-- R249: the table, the spill counter and the row's count after an ACT of row `r`. -/
def countAct (l : List ActEnt) (spill r : Nat) : List ActEnt × Nat × Nat :=
  match l.findIdx? (fun x => x.row == r) with
  | some i =>
    let c := (nth ⟨r, 0⟩ l i).count + 1
    (setNth l i ⟨r, c⟩, spill, c)
  | none =>
    if l.length < 80 then (l ++ [⟨r, spill + 1⟩], spill, spill + 1)
    else
      let i := minEntry l
      let sp := max spill (nth ⟨r, 0⟩ l i).count
      (setNth l i ⟨r, sp + 1⟩, sp, sp + 1)

/-- The rows neighbour refresh activates for row `r` (R250 step 3). -/
def nbrRows (rowBits blast r : Nat) : List Nat :=
  (List.range (blast + 1)).flatMap (fun i =>
    (if i + 1 ≤ r then [r - (i + 1)] else []) ++ (if r + (i + 1) < 2 ^ rowBits then [r + (i + 1)] else []))

/-- The bank engine's tables after the lattice accepts an ACT of its bank (R249, R250, R252). `nbr` marks an activation of
neighbour refresh, which the epoch activation count leaves out. -/
def engAct (e : Eng) (rowBits row : Nat) (nbr : Bool) : Eng :=
  let (tb, sp, c) := countAct e.table e.spill row
  let e := { e with table := tb, spill := sp, epochAct := if nbr then e.epochAct else e.epochAct + 1 }
  let e := if e.cfgBud && decide (81 * e.cfgT ≤ e.epochAct) then { e with throttled := true } else e
  let m : Mitig := ⟨row, if e.cfgNbr then nbrRows rowBits e.cfgBlast row else [], false⟩
  if c < e.cfgT then e
  else match e.mitig with
  | none => { e with mitig := some m }
  | some o => if o.row = row ∨ e.mitNext.any (fun x => x.row == row) = true then e else { e with mitNext := e.mitNext ++ [m] }

/-- R250 step 4: the mitigation's last command has been accepted: the row's count becomes 0, its entry stays. A row that reached T meanwhile is
mitigated next. -/
def mitigDone (e : Eng) : Eng :=
  match e.mitig with
  | none => e
  | some m => { e with mitig := e.mitNext.head?, mitNext := e.mitNext.drop 1, table := mapIf (fun x => x.row == m.row) (fun x => { x with count := 0 }) e.table }

/-- R251: an epoch ends: tables and counts cleared, except that the first end after an SRX clears only the activation
count; new T, NBR, BLAST and BUDGET_EN come into force. -/
def epochEnd (e : Eng) (t : Nat) (nbr : Bool) (blast : Nat) (bud : Bool) : Eng :=
  let e := if e.skipClear then { e with skipClear := false } else { e with table := [], spill := 0 }
  { e with epochRef := 0, epochAct := 0, throttled := false, cfgT := t, cfgNbr := nbr, cfgBlast := blast, cfgBud := bud }

/-- ERC with its zero rule (R260). -/
def State.erc (s : State) : Nat := max 1 (s.fld Reg.REFD_EPOCH_ERC) * 1024

/-- The epoch of a bank advances with a refresh command of its group (R251). -/
def State.engRefreshed (s : State) (b : Nat) : State :=
  let e := s.eng b
  let n := e.epochRef + 1
  if s.erc ≤ n then
    s.setEng b (epochEnd e (s.fld Reg.REFD_RHCTL_T) (s.flag Reg.REFD_RHCTL_NBR) (s.fld Reg.REFD_RHCTL_BLAST)
      (s.flag Reg.REFD_RHCTL_BUDGET_EN))
  else s.setEng b { e with epochRef := n }

/-- The lattice accepts an ACT for a bank: its engine counts it; a bank that reaches its budget is reported (R252). -/
def State.bankAct (s : State) (sc rk bk row : Nat) (nbr : Bool) : State :=
  let b := engOf sc rk bk
  let e := s.eng b
  let e' := engAct e (s.chDec (sc / 2)).rowBits row nbr
  let s := s.setEng b e'
  if e'.throttled && !e.throttled then
    ((s.set1 Reg.REFD_EVT_THROTTLE).bump Reg.REFD_CNT1_THROT).raise 0x0E (atBank (sc / 2) (sc % 2) rk 0xF bk)
  else s

/-! ## Refresh groups -/

/-- Channel in all-bank mode (R237). -/
def State.allBank (s : State) (c : Nat) : Bool := s.fbit Reg.REFD_RCTL_AB c

/-- The table key of a refresh group: subchannel, rank, bank index (0 in all-bank mode). -/
def groupKey (sc rk j : Nat) : Nat := 8 * sc + 4 * rk + j

/-- The largest number of refresh commands JESD79-5 lets a device postpone in the modes used (log entry 20). -/
def jedecPostpone : Nat := 4

/-- P, the forcing level P' and Q of R238. -/
def State.refP (s : State) : Nat := min (s.fld Reg.REFD_RCTL_POSTMAX) jedecPostpone
def State.refP' (s : State) : Nat := max s.refP 1
def State.refQ (s : State) : Nat := s.fld Reg.REFD_RCTL_PULLMAX

/-- tREFI_eff of a rank, numbered 2 * channel + rank (R244). -/
def State.trefi (s : State) (i : Nat) : Nat :=
  let t := s.fld Reg.REFD_RCTL_TREFI
  if !s.flag Reg.REFD_RCTL_TEMP_EN then t
  else match (tget (⟨0, 0, none⟩ : RankTemp) s.rankTemps i).code with
    | 1 => 2 * t
    | 0 => t
    | _ => t / 2

/-- The banks of a group, as engine numbers. -/
def State.groupBanks (s : State) (sc rk j : Nat) : List Nat :=
  if s.allBank (sc / 2) then (List.range 32).map (engOf sc rk)
  else (List.range 8).map (fun g => engOf sc rk (4 * g + j))

/-- R240: the group is forced. -/
def State.forced (s : State) (sc rk j : Nat) : Bool := decide ((s.refP' : Int) ≤ (s.group (groupKey sc rk j)).debt)

/-- R239: the lattice accepts a REFsb or REFab of a group: the debt falls by 1 and the epochs of its banks advance. -/
def State.groupRefreshed (s : State) (sc rk j : Nat) : State :=
  let k := groupKey sc rk j
  let x := s.group k
  let s := if s.forced sc rk j then s.bump Reg.REFD_CNT1_FORCED else s
  let s := s.setGroup k { x with debt := x.debt - 1, proposed := false }
  (s.groupBanks sc rk j).foldl (fun s b => s.engRefreshed b) s

end Sys2Proof.Machine
end

