-- ==== Sys2Proof/Machine/Sched.lean ====
section
/-! DEFINITION. The scheduling cores and bank engines: hazards, keys, slack, admission, drain, Gambit, candidates and the filling of
a proposal window (R86-R88, R163-R187). -/

namespace Sys2Proof.Machine

open Sys2Proof

/-! ## Hazards (R86, R87, R92, R171) -/

/-- Two entries act on the same stored line. -/
def QE.sameLine (a b : QE) : Bool := a.loc.ch == b.loc.ch && a.loc.l == b.loc.l

/-- Accesses that hold their line at the bank engine for later host requests until they end (R283, R313). -/
def QE.holdsLine (q : QE) : Bool :=
  match q.src with
  | .scrub | .scrubWrite | .scrubVerify | .repairRd | .repairWr | .repairVerify => true
  | .second | .dup => false
  | _ => q.link != 0

/-- The entry is the read of a read-modify-write: of a WRP or an atomic (R24, R98). -/
def State.readsToMerge (s : State) (q : QE) : Bool :=
  !q.wr && q.src == .host && s.reqs.any (fun r => r.rid == q.rid && (r.op == .wrp || isAtomic r.op))

/-- An earlier-granted demand read of a mirrored line is not answered yet: a read repair may still write its line, on either channel, and must
do so before any later write (R90, R313). -/
def State.awaitsRepair (s : State) (q : QE) : Bool :=
  q.wr && s.qes.any (fun o => !o.wr && o.src == .host && decide (o.mir ≠ 0) && o.host == q.host && decide (o.age < q.age) &&
    (q.src == .host || q.src == .second || q.src == .dup))

/-- The order of effect of a line is the order of grants (R86): an entry waits for an earlier-granted write of its line until that write has
issued, and for an RDL that has not taken its lock; a write and the read of a read-modify-write wait for an earlier read until its RD has been
accepted, so that nothing comes between the read and the drain (R87, R98). A request locked out by another port's lock holds back none that
is not (R91, R92, R99). -/
def State.hazard (s : State) (q : QE) : Bool :=
  s.awaitsRepair q || s.qes.any (fun o => o.sameLine q && decide (o.age < q.age) && (s.lockedOut q || !s.lockedOut o) &&
    (if o.wr || o.holdsLine || o.needLock then true
     else (q.wr || s.readsToMerge q) && (o.stage == .wait || o.stage == .proposed)))

/-- R126: a write that also goes to a migrating line's new place waits until the line's copy has been written there. -/
def State.waitsCopy (s : State) (q : QE) : Bool :=
  (q.src == .dup || !q.far.isEmpty) && (match s.mig with
    | some m => m.busy && m.cur == q.host && decide (m.age < q.age)
    | none => false)

/-- R148, R154: a write drains no faster than its copies can leave: it waits while a tile one of them goes to takes no new MIRROR_WR. -/
def State.waitsRoute (s : State) (q : QE) : Bool := q.wr && q.far.any (fun f => s.ring.routeHold.contains f.1)

/-- The buffer index up to which lines must be present before a WR may drain (R51, R71). -/
def State.cut (s : State) : Nat :=
  let c := s.fld Reg.GLOB_WBCUT_CUT
  if c = 0 ∨ 4 < c then 4 else c

/-- What a write entry is to write is at hand (R51): its own line, and of the request's first CUT lines each is in the buffer or has already been
drained. -/
def State.payReady (s : State) (q : QE) : Bool :=
  match q.pay with
  | .none => false
  | .buffer =>
    let has (i : Nat) : Bool := s.wbuf.any (fun w => w.rid == some q.rid && w.idx == i) ||
      ((match s.req? q.rid with | some r => decide (i < r.moved) | none => true) &&
        !s.qes.any (fun o => o.wr && o.rid == q.rid && o.idx == i && o.stage != .issued))
    let n := match s.req? q.rid with | some r => r.lines | none => 1
    s.wbuf.any (fun w => w.rid == some q.rid && w.idx == q.idx) && (List.range (min s.cut n)).all has
  | _ => true

/-- R252: an entry beyond QMAX of a throttled bank waits in the hazard and lock unit. -/
def State.throttleWait (s : State) (q : QE) : Bool :=
  (s.eng q.loc.eng).throttled && q.src == .host &&
  decide (max 1 (s.fld Reg.REFD_THR_QMAX) ≤
    (s.qes.filter (fun o => o.loc.eng == q.loc.eng && o.src == .host && decide (o.age < q.age))).length)

/-- R451: a mirror access for another tile waits for its line to be filled. -/
def State.waitsFill (s : State) (q : QE) : Bool :=
  (match q.src with | .mirrorWr _ _ | .mirrorRd _ _ => true | _ => false) && decide (s.fld (Reg.GLOB_FILLWM_WM q.loc.ch) ≤ q.loc.l)

/-- R306, R321: the entry's bank copies a row; only a repair's write goes before the copy, and the read of a repair that a line of this very bank
does not let start yet. -/
def State.waitsRow (s : State) (q : QE) : Bool :=
  q.src != .repairWr && q.src != .poisonWr &&
  !(q.src == .repairRd && s.repair.remap.any (fun e => match e.2 with
    | some m => m.copy && s.qes.any (fun o => o.tag == q.link && o.loc.eng == engOf (2 * m.id.ch + m.id.sck) m.id.rk m.id.bk)
    | none => false)) &&
  s.repair.remap.any (fun e => match e.2 with
    | some m => m.copy && m.id.ch == q.loc.ch && m.id.sck == q.loc.sck && m.id.rk == q.loc.rk && m.id.bk == q.loc.bk
    | none => false)

/-- An entry that may be proposed, whatever the phase. -/
def State.isCand (s : State) (q : QE) : Bool :=
  q.stage == .wait && !q.held && !s.waitsRow q && !q.needLock && !s.lockedOut q && !s.hazard q && !s.waitsCopy q && !s.waitsRoute q && !s.waitsFill q && !s.throttleWait q && (!q.wr || s.payReady q) &&
  (q.wr || q.src != .host || !s.reqs.any (fun r => r.rid == q.rid && r.op == .wrp) || s.wbuf.any (fun w => w.rid == some q.rid))

/-! ## Keys and slack (R172-R174) -/

/-- A key: proposals of R240 and R250 that rank ahead of every request, then tier, then deadline, then age. -/
structure Key where
  top : Bool
  tier : Nat
  dl : Tempo
  age : Nat
  deriving DecidableEq, Repr

/-- Strictly better (R172, R78). -/
def Key.better (a b : Key) : Bool :=
  if a.top != b.top then a.top
  else if a.tier ≠ b.tier then decide (a.tier < b.tier)
  else if earlier a.dl b.dl then true
  else if earlier b.dl a.dl then false
  else decide (a.age < b.age)

/-- An entry's own key; a clamped deadline compares as the present Tempo (R79). -/
def State.ownKey (s : State) (q : QE) : Key :=
  ⟨false, if q.promo then 0 else if q.adm then 1 else 2, if q.clamped then s.tempo else q.eff, q.age⟩

/-- R171: a blocking write takes the key of a read it blocks, if that is better. -/
def State.keyOf (s : State) (q : QE) : Key :=
  if q.wr then
    (s.qes.filter (fun o => !o.wr && o.sameLine q && decide (q.age < o.age))).foldl
      (fun k o => let ko := { s.ownKey o with age := q.age }; if ko.better k then ko else k) (s.ownKey q)
  else s.ownKey q

/-- The row an engine finds open in its bank (R182): its own record, or the row an accepted RDA or WRA has yet to close. -/
def State.foundRow (s : State) (b : Nat) : Option Nat :=
  let e := s.eng b
  match e.row, e.shut with
  | some r, _ => some r
  | none, some (r, x) => if 4 * (s.sub (b / 64)).tick < x then some r else none
  | none, none => none

/-- The outcome an entry meets at its bank in the engine's view (R182): 0 HIT, 1 MISS, 2 CONFLICT. -/
def State.outcome (s : State) (q : QE) : Nat :=
  match s.foundRow q.loc.eng with | none => 1 | some r => if r = q.loc.row then 0 else 2

/-- The service estimate of R173. -/
def State.svc (s : State) (q : QE) : Nat :=
  match s.outcome q with
  | 0 => s.fld Reg.SCHD_SVC_HIT
  | 1 => s.fld Reg.SCHD_SVC_EMPTY
  | _ => s.fld Reg.SCHD_SVC_CONFL

/-- R173; tier 0 has slack minus infinity, below every margin. -/
def State.slack (s : State) (q : QE) : Int :=
  let k := s.keyOf q
  if k.tier = 0 then -(2 ^ 40) else (k.dl - s.tempo).toInt - s.svc q

def State.margin (s : State) (q : QE) : Int :=
  if (s.keyOf q).tier = 1 then 2 * s.fld Reg.SCHD_SLACK_RT_MARGIN else 2 * s.fld Reg.SCHD_SLACK_MARGIN

/-- Slack at or below margin: urgent. -/
def State.urgent (s : State) (q : QE) : Bool := decide (s.slack q ≤ s.margin q)

/-- R174: row hit `h` may pass `x`. -/
def State.passOk (s : State) (h x : QE) : Bool :=
  s.flag Reg.SCHD_CTL_SLACK_EN && decide ((s.keyOf h).tier ≤ (s.keyOf x).tier) && decide (s.margin x < s.slack x)

/-! ## Real-time admission (R186, R187) -/

def State.bankq (s : State) : Nat :=
  let b := s.fld Reg.SCHD_RTADM_BANKQ
  if b = 0 ∨ 8 < b then 1 else b

/-- WCRT of R187 times 20 * RATE (of TIMG_MODE), from given timing values and admission fields, so that it is a whole number. -/
def wcrtScaled (t : Timg) (bankq depth rate : Nat) : Nat :=
  let u := if t.mrdimm then 40 else 20
  720 * t.rate + 20 * u * (t.bl + t.wtrL + t.rfcsb + t.rp + bankq * (t.rp + t.rcd + t.cl + t.bl)) +
    (5 * depth + 4 * rate) * u * max (4 * t.rrdS) t.faw

/-- R187: WCRT above 800 ns. -/
def wcrtOver (t : Timg) (bankq depth rate : Nat) : Bool := decide (16000 * t.rate < wcrtScaled t bankq depth rate)

/-- WCRT in nanoseconds, rounded up (log entry 17). -/
def wcrtNs (t : Timg) (bankq depth rate : Nat) : Nat := (wcrtScaled t bankq depth rate + 20 * t.rate - 1) / (20 * max 1 t.rate)

/-- WCRT of the active values, as SCHD_RTBND is to show it (R193). -/
def State.wcrtNow (s : State) : Nat :=
  wcrtNs s.timg s.bankq (max 1 (s.fld Reg.SCHD_RTADM_DEPTH)) (s.fld Reg.SCHD_RTADM_RATE)

/-- R187, R193: the tile has computed the bound from its active values: when a copy of SCHD or TIMG takes effect, and at GO (log entry 98). -/
def State.setBound (s : State) : State := s.setFlds [(Reg.SCHD_RTBND_VALID, 1), (Reg.SCHD_RTBND_WCRT, min 0xFFFF s.wcrtNow)]

/-- R187: RATE beyond 40 % of the subchannel's peak line rate. -/
def rateOver (t : Timg) (rate : Nat) : Bool := decide (5 * t.rate < 2 * rate)

/-- Admission is stopped (R186, R187, R247, R452): disabled, RATE 0, WCRT above 800 with the active timing, P 0, a short interval,
all-bank mode or a fill not complete. -/
def State.rtStopped (s : State) (x : Loc) : Bool :=
  !s.flag Reg.SCHD_CTL_RTADM_EN || decide (s.fld Reg.SCHD_RTADM_RATE = 0) ||
  wcrtOver s.timg s.bankq (max 1 (s.fld Reg.SCHD_RTADM_DEPTH)) (s.fld Reg.SCHD_RTADM_RATE) ||
  decide (s.refP = 0) || decide (s.trefi (2 * x.ch + x.rk) < 800) || s.allBank x.ch || !s.fbit Reg.GLOB_FILLST_DONE x.ch

/-- Admitted entries queued for a bank, with the writes that block an admitted read (R171). -/
def State.bankAdmitted (s : State) (b : Nat) : Nat :=
  (s.qes.filter (fun q => q.loc.eng == b && (q.adm || (q.wr && s.qes.any (fun o => o.adm && !o.wr && o.sameLine q &&
    decide (q.age < o.age)))))).length

/-- Depth of a bucket, 0 treated as 1 (R193). -/
def State.bucketDepth (s : State) : Nat := max 1 (s.fld Reg.SCHD_RTADM_DEPTH)

/-- R186: the tokens an admission bucket has gained by now: RATE in each microsecond of Tempo, DEPTH at most. -/
def State.accrue (s : State) (sc : Nat) : State :=
  let u := s.sub sc
  let n := u.bktFrac + s.fld Reg.SCHD_RTADM_RATE * (s.longTime - u.bktAt)
  let full := decide (s.bucketDepth ≤ u.bucket + n / 1000)
  s.setSub sc { u with
    bucket := if full then s.bucketDepth else u.bucket + n / 1000
    bktFrac := if full then 0 else n % 1000
    bktAt := s.longTime }

/-- R186: a class RT line is admitted or not at its queue insertion; one of another opcode than RD and WR never is. -/
def State.rtAdmit (s : State) (op : Op) (cls : BitVec 2) (x : Loc) : Bool × State :=
  if cls = 2 then
    let s := s.accrue x.sc
    let u := s.sub x.sc
    if (op == .rd || op == .wr) && !s.rtStopped x && decide (0 < u.bucket) && decide (s.bankAdmitted x.eng < s.bankq) then
      (true, s.setSub x.sc { u with bucket := u.bucket - 1 })
    else (false, (s.bump Reg.SCHD_CNT0_UNADM).set1 Reg.SCHD_EVT_UNADMIT)
  else (false, s)

/-! ## Withdrawal (R169) -/

/-- R169: withdraw the proposals of entries that satisfy `c`: they leave the window with no verdict and are candidates again. -/
def State.withdraw (s : State) (c : QE → Bool) : State :=
  let tags := (s.qes.filter (fun q => c q && q.stage == .proposed)).map (fun q => (q.tag, q.loc))
  tags.foldl (fun s t =>
    let u := s.sub t.2.sc
    if u.window.any (fun p => p.tag == t.1) then
      let s := s.setSub t.2.sc { u with window := u.window.filter (fun p => p.tag != t.1) }
      let s := s.setEng t.2.eng { s.eng t.2.eng with outstanding := false }
      s.mapQE t.1 (fun q => { q with stage := .wait, pol := none })
    else s) s

/-! ## Write drain (R177-R179) -/

/-- R177: the writes that count towards WHI and WLO, those whose WR has not issued (the scheduler's worked example ends its
batch at the twentieth issue; DEDUCED, log entry 79). -/
def State.writesOf (s : State) (sc : Nat) : List QE :=
  s.qes.filter (fun q => q.wr && q.src != .train && q.loc.sc == sc && !q.done && q.stage != .issued)

/-- A write of the drain stands at a bank and has not issued. -/
def State.bankWrites (s : State) (b : Nat) : Bool :=
  s.qes.any (fun q => q.wr && q.src != .train && q.loc.eng == b && !q.done && q.stage != .issued)

/-- A read candidate of the subchannel exists; a scrub read never interrupts a drain (R283), nor does training (R375). -/
def State.readCand (s : State) (sc : Nat) : Bool :=
  s.qes.any (fun q => !q.wr && q.src != .scrub && q.src != .train && q.loc.sc == sc && s.isCand q)

/-- The drain condition that holds now (R177): batch first, then forced, then idle. -/
def State.drainDue (s : State) (sc : Nat) : Drain :=
  let ws := s.writesOf sc
  if s.fld Reg.SCHD_WDRN_WHI ≤ ws.length then .batch
  else if ws.any (fun q => s.urgent q) then .forced
  else if !ws.isEmpty && !s.readCand sc then .idle
  else .read

/-- R177: enter drain; reads whose ACT the lattice had accepted are the committed reads of R178. Of the others, those of banks with writes in the
drain are withdrawn from the window. -/
def State.drainStart (s : State) (sc : Nat) : State :=
  let u := s.sub sc
  let d := s.drainDue sc
  if d = .read ∨ (u.drain ≠ .read ∧ ¬ (d = .batch ∧ u.drain ≠ .batch)) then s
  else
    let s := if d = .batch then s.bump Reg.SCHD_CNT1_DRAIN else s
    let s := s.setSub sc { u with drain := d, breaks := 0, intr := none }
    let s := s.mapQEs (fun q => !q.wr && q.loc.sc == sc && decide (tget 0 u.rowOf (bankKey q.loc.rk q.loc.bk) = q.loc.row + 1))
      (fun q => { q with committed := true })
    s.withdraw (fun q => !q.wr && q.loc.sc == sc && !q.committed && s.bankWrites q.loc.eng)

/-- R177: return to read phase when the drain's end condition is met. Only writes already accepted still issue: those in the window are
withdrawn. -/
def State.drainEnd (s : State) (sc : Nat) : State :=
  let u := s.sub sc
  let ws := s.writesOf sc
  let ended := match u.drain with
    | .read => false
    | .batch => decide (ws.length ≤ s.fld Reg.SCHD_WDRN_WLO)
    | .forced => !ws.any (fun q => s.urgent q)
    | .idle => s.readCand sc || ws.isEmpty
  if ended then (s.setSub sc { u with drain := .read, breaks := 0, intr := none }).withdraw (fun q => q.wr && q.loc.sc == sc && q.src != .scrubWrite)
  else s

/-- The drains that have come to their end. -/
def State.endDrains (s : State) : State := (List.range 8).foldl (fun s sc => s.drainEnd sc) s

/-- R178: a committed read whose column command has not been accepted. -/
def State.committedWaits (s : State) (sc : Nat) : Bool :=
  s.qes.any (fun o => o.committed && !o.wr && o.loc.sc == sc && (s.isCand o || o.stage == .proposed))

/-- R179: a read that interrupts the drain of its subchannel. Slack-urgent tier 2 reads do so MAXBRK times in a batch; within an interruption that
has been counted, every one of them. -/
def State.interrupts (s : State) (u : Sub) (q : QE) : Bool :=
  !q.wr && q.src != .scrub && q.src != .scrubVerify && q.src != .train &&
  (decide ((s.keyOf q).tier ≤ 1) && (u.drain == .batch || u.drain == .forced) ||
    (u.drain == .batch && s.urgent q && (u.intr == some true || decide (u.breaks < s.fld Reg.SCHD_WDRN_MAXBRK))))

/-- An interrupting read has not been served yet: its column command is not accepted. -/
def State.intrWaits (s : State) (sc : Nat) : Bool :=
  s.qes.any (fun o => o.loc.sc == sc && (s.isCand o || o.stage == .proposed) && s.interrupts (s.sub sc) o)

/-- R179: an interruption begins: of the writes only those accepted still issue. One with no read left to serve is over. -/
def State.turnRound (s : State) (sc : Nat) : State :=
  let u := s.sub sc
  if u.drain = .read then s
  else if s.intrWaits sc then (if s.committedWaits sc then s else s.withdraw (fun q => q.wr && q.loc.sc == sc))
  else s.setSub sc { u with intr := none }

/-- R128, R283, R375: a scrub read, a migration's copy or an access to the training row waits while its bank has a host candidate. -/
def State.scrubWaits (s : State) (q : QE) : Bool :=
  (q.src == .probe && s.qes.any (fun o => o.adm && o.loc.sc == q.loc.sc && o.loc.rk == q.loc.rk && s.isCand o)) ||
  (q.src == .scrub || q.src == .migRd || q.src == .migWr || q.src == .train) &&
  s.qes.any (fun o => o.src == .host && o.loc.eng == q.loc.eng && s.isCand o)

/-- The accesses a rank has made or is to make to its training row are given up: those in the window are withdrawn, and those accepted finish for
nothing (`again` is 1). The sweep point starts again (R375). -/
def State.dropTrain (s : State) (sc rk : Nat) : State :=
  let mine (q : QE) : Bool := q.src == .train && q.loc.sc == sc && q.loc.rk == rk
  let s := s.withdraw mine
  let s : State := { s with qes := s.qes.filter (fun q => !(mine q && q.stage != .accepted)) }
  s.mapQEs mine (fun q => { q with again := 1 })

/-- R375: accesses to a training row are withdrawn when a host candidate appears at their bank or the subchannel is in drain. -/
def State.yieldTrain (s : State) (sc : Nat) : State :=
  [0, 1].foldl (fun s rk =>
    if s.qes.any (fun q => q.src == .train && q.loc.sc == sc && q.loc.rk == rk && (q.stage == .wait || q.stage == .proposed) &&
      ((s.sub sc).drain != .read || s.scrubWaits q)) then s.dropTrain sc rk else s) s

/-- Candidates of the present phase, whose column command may be proposed (R175, R178, R179); a scrub's write-back goes in either phase (R283). -/
def State.phaseCand (s : State) (sc : Nat) (q : QE) : Bool :=
  let u := s.sub sc
  q.loc.sc == sc && s.isCand q && !s.scrubWaits q &&
  (if u.drain = .read then !q.wr || q.src == .scrubWrite || q.src == .train
   else if s.committedWaits sc then q.committed && !q.wr
   else if s.intrWaits sc then s.interrupts u q
   else (q.wr && q.src != .train) || q.src == .scrubVerify)

/-! ## Gambit (R181-R185) -/

/-- The reset contents of the policy tables (R185) and of POLSEL (R198), by BENG space and index. -/
def bengReset (key : Nat) : Nat :=
  if key < 0x400 then
    let o1 := key % 4
    let o2 := (key / 4) % 4
    if o1 = 0 then 4 else if o1 = 2 ∧ o2 = 2 then 8 else 2
  else 0

/-- BENG space `sp`, word `i`: the active value. -/
def State.bengWord (s : State) (sp i : Nat) : Nat := tget (bengReset (sp * 0x1000 + i)) s.tabs (sp * 0x1000 + i)

/-- The policy entry an engine uses (R184). -/
def State.policy (s : State) (b : Nat) (hist : BitVec 8) : Nat :=
  let h := if s.flag Reg.SCHD_CTL_GAMBIT_EN then hist.toNat else 0xFF
  s.bengWord 0 (256 * (s.bengWord 1 b % 4) + h)

/-- R194: an idle timeout in nanoseconds; none is never. -/
def State.gtmo (s : State) (i : Nat) : Option Nat :=
  let v := bits (s.word (regKey 0x10 (if i < 4 then 0x5C else 0x60))).toNat (8 * (i % 4) + 7) (8 * (i % 4))
  if v = 0xFF then none else some (16 * v)

/-- The history an engine decides by: with the request's own outcome, if it is its bank's target only now (R183). -/
def State.histFor (s : State) (q : QE) : BitVec 8 :=
  let h := (s.eng q.loc.eng).hist
  if q.judged then h else (h <<< 2) ||| BitVec.ofNat 8 (s.outcome q)

/-- R176: whether the column command of `q` closes its row, and the policy entry read where step 4 decides. `others` are the bank's other
candidates of the phase. -/
def State.closes (s : State) (q : QE) (others : List QE) : Bool × Option Nat :=
  if others.any (fun o => o.loc.row == q.loc.row) then (false, none)
  else if !others.isEmpty then (true, none)
  else if q.nt then (true, none)
  else
    let p := s.policy q.loc.eng (s.histFor q)
    (p.testBit 3, some p)

/-! ## Candidates and the window (R163, R169, R175) -/

/-- A command offered to the window, with the key it is placed under. -/
structure Cand where
  p : Proposal
  k : Key
  hit : Bool
  ent : Option QE
  /-- the policy entry its column command was chosen by (R184) -/
  pol : Option Nat
  deriving DecidableEq, Repr

/-- The next command of an entry at its bank (R175, R176), with the policy entry it was chosen by. -/
def State.nextCmd (s : State) (q : QE) (others : List QE) : Cmd × Option Nat :=
  match (s.eng q.loc.eng).row with
  | none => (.act, none)
  | some r =>
    if r = q.loc.row then
      let (c, p) := s.closes q others
      (if c then (if q.wr then .wra else .rda) else (if q.wr then .wr else .rd), p)
    else (.pre, none)

/-- R252: entries whose ACT a throttled bank does not offer: host requests, scrubs, probes and migration copies. -/
def QE.yields (q : QE) : Bool :=
  match q.src with
  | .host | .second | .dup | .scrub | .scrubWrite | .scrubVerify | .probe | .train | .migRd | .migWr => true
  | _ => false

/-- A bank's candidates of the phase. -/
def State.bankCands (s : State) (sc b : Nat) : List QE := s.qes.filter (fun q => q.loc.eng == b && s.phaseCand sc q)

/-- The better of two entries by key. -/
def State.betterQE (s : State) (x y : QE) : Bool := (s.keyOf x).better (s.keyOf y)

/-- The entry a bank serves next (R175): its best-keyed candidate, or a hit to the open row that may pass it. -/
def State.bankPick (s : State) (sc b : Nat) : Option QE :=
  let cs := s.bankCands sc b
  match best s.betterQE cs with
  | none => none
  | some x =>
    match best s.betterQE (cs.filter (fun q => (s.eng b).row == some q.loc.row)) with
    | none => some x
    | some h => if h.tag ≠ x.tag ∧ s.passOk h x = true then some h else some x

/-- The reads of a bank that may receive ACT and PRE in a drain, where the bank has no write in it (R178). -/
def State.prepReads (s : State) (sc b : Nat) : List QE :=
  if (s.sub sc).drain = .read ∨ s.bankWrites b = true then []
  else s.qes.filter (fun q => q.loc.eng == b && !q.wr && q.src != .train && s.isCand q)

/-- E of an entry's next proposal: the not-before tick of its last refusal, else what the bank's last ACCEPT gave (R165, R168). -/
def State.eOf (s : State) (q : QE) : Nat := if q.e ≠ 0 then q.e else (s.eng q.loc.eng).e

/-- The proposal of an entry's command. -/
def State.candOf (s : State) (q : QE) (c : Cmd × Option Nat) : Cand :=
  ⟨⟨c.1, q.loc.rk, q.loc.bk, q.loc.row, q.loc.col, false, (s.keyOf q).tier, (s.keyOf q).dl, q.tag, s.eOf q, 0, 0, 0⟩,
   s.keyOf q, c.1.isCol, some q, c.2⟩

/-- The candidate a bank's engine offers for its requests (R175). ACT is not offered for host requests of a throttled bank (R252), nor anything
while a mitigation is owed (R250). -/
def State.bankCand (s : State) (sc b : Nat) : Option Cand :=
  let e := s.eng b
  if e.outstanding || e.mitig.isSome then none
  else match s.bankPick sc b with
  | some q =>
    let c := s.nextCmd q ((s.bankCands sc b).filter (fun o => o.tag != q.tag))
    if c.1 == .act && e.throttled && q.yields then none else some (s.candOf q c)
  | none =>
    match best s.betterQE (s.prepReads sc b) with
    | none => none
    | some q =>
      let c := s.nextCmd q []
      if c.1.isCol || (c.1 == .act && e.throttled) then none else some (s.candOf q c)

/-- A maintenance proposal of a bank engine, with E from its bank's last ACCEPT (R165). -/
def State.maintCand (s : State) (sc : Nat) (cmd : Cmd) (rk bk row : Nat) (top : Bool) (dl : Tempo) (tag : Nat) : Cand :=
  ⟨⟨cmd, rk, bk, row, 0, top, 2, dl, tag, (s.eng (engOf sc rk bk)).e, 0, 0, 0⟩, ⟨top, 2, dl, 0⟩, false, none, none⟩

/-- The tag of the proposals the refresh group of a bank makes: above every queue entry's. -/
def refTag (k : Nat) : Nat := 2 ^ 40 + k
/-- The tag of mitigation proposals and of idle-timer precharges, by engine. -/
def mitTag (b : Nat) : Nat := 2 ^ 41 + b
def idleTag (b : Nat) : Nat := 2 ^ 42 + b

/-- A PRE for each bank of a list that has a row open and no proposal out. -/
def State.closeCands (s : State) (sc rk : Nat) (banks : List Nat) (top : Bool) (dl : Tempo) (tag : Nat → Nat) : List Cand :=
  (banks.filter (fun b => (s.eng b).row.isSome && !(s.eng b).outstanding)).map (fun b => s.maintCand sc .pre rk (b % 32) 0 top dl (tag b))

/-- The proposals of a mitigation in progress (R250): of neighbour refresh the next ACT or PRE, else the RFM once every bank it needs is closed. -/
def State.mitCand (s : State) (sc b : Nat) : List Cand :=
  let e := s.eng b
  let rk := (b / 32) % 2
  let bk := b % 32
  match e.mitig with
  | none => []
  | some m =>
    if e.cfgNbr then
      match e.outstanding, m.nbr with
      | true, _ | _, [] => []
      | false, r :: _ =>
        if e.row.isSome then [s.maintCand sc .pre rk bk (if m.opened then r else 0) true s.tempo (mitTag b)]
        else [s.maintCand sc .act rk bk r true s.tempo (mitTag b)]
    else
      let ab := s.allBank (sc / 2)
      let banks := if ab then (List.range 32).map (engOf sc rk) else (List.range 8).map (fun g => engOf sc rk (4 * g + bk % 4))
      if banks.any (fun b' => (s.eng b').row.isSome) then s.closeCands sc rk banks true s.tempo mitTag
      else if e.outstanding then []
      else [s.maintCand sc (if ab then .rfmab else .rfmsb) rk bk 0 true s.tempo (mitTag b)]

/-- The ranks that have started a REFab under the token held, or have an unforced one in a window (R245). -/
def State.tokenRanks (s : State) : List Nat :=
  (s.ring.tokUsed ++ (List.range 8).flatMap (fun sc =>
    ((s.sub sc).window.filter (fun p => p.cmd == .refab && !p.top)).map (fun p => 2 * (sc / 2) + p.rk))).dedup

/-- An unforced REFab of a rank may start (R245). -/
def State.tokenOk (s : State) (ri : Nat) : Bool :=
  !s.flag Reg.REFD_RCTL_TOKEN_EN || !s.flag Reg.RING_STAT_NUMBERED ||
  (!s.ring.tokens.isEmpty && (decide (s.tokenRanks.length < 4) || s.tokenRanks.contains ri))

/-- Another forced group of the rank became forced before this one, or with it under a lower bank index (R243). -/
def State.forcedBefore (s : State) (sc rk j : Nat) : Bool :=
  let t := (s.group (groupKey sc rk j)).forcedAt
  (List.range 4).any (fun i => i != j && s.forced sc rk i && (s.group (groupKey sc rk i)).running &&
    (let u := (s.group (groupKey sc rk i)).forcedAt
     earlier u t || (!earlier t u && decide (i < j))))

/-- A candidate, or in the window. -/
def State.inPlay (s : State) (q : QE) : Bool := s.isCand q || q.stage == .proposed

/-- An admitted line of a rank has a proposal in the window (R247). -/
def State.admittedIn (s : State) (sc rk : Nat) : Bool :=
  (s.sub sc).window.any (fun p => p.rk == rk && (match s.qe? p.tag with | some q => q.adm | none => false))

/-- The proposals of one refresh group (R240, R241, R243, R247): none, a PRE for each of its banks that has a row open, or the refresh. A bank under
mitigation is left to it. -/
def State.refCand (s : State) (sc rk j : Nat) : List Cand :=
  let k := groupKey sc rk j
  let g := s.group k
  let banks := s.groupBanks sc rk j
  let forced := s.forced sc rk j
  let adm := s.qes.any (fun q => q.adm && q.loc.sc == sc && q.loc.rk == rk)
  let admHere := s.qes.any (fun q => q.adm && banks.contains q.loc.eng && s.inPlay q)
  let idle := !adm && !s.qes.any (fun q => banks.contains q.loc.eng && s.isCand q)
  let due := decide (0 < g.debt)
  let ab := s.allBank (sc / 2)
  let token := !ab || forced || s.tokenOk (2 * (sc / 2) + rk)
  let may := g.running && !g.proposed &&
    (forced || (token && !s.admittedIn sc rk && ((due && !admHere) || (decide (-(s.refQ : Int) < g.debt) && idle))))
  if !may then []
  else
    let dl := if forced then g.forcedAt
      else if due then g.prevInc + ns ((s.refP' - g.debt.toNat) * s.trefi (2 * (sc / 2) + rk))
      else g.prevInc + ns (s.trefi (2 * (sc / 2) + rk))
    let free := banks.filter (fun b => (s.eng b).mitig.isNone)
    if free.any (fun b => (s.eng b).row.isSome) then s.closeCands sc rk free forced dl (fun _ => refTag k)
    else if banks.any (fun b => (s.eng b).outstanding || (s.eng b).mitig.isSome) || (forced && s.forcedBefore sc rk j) then []
    else [s.maintCand sc (if ab then .refab else .refsb) rk j 0 forced dl (refTag k)]

/-- All candidates of a subchannel: one per bank engine (requests, or what a mitigation or an idle timer asks), refresh groups,
and mode register commands waiting. -/
def State.cands (s : State) (sc : Nat) : List Cand :=
  let u := s.sub sc
  let groupsOf := (List.range 2).flatMap (fun rk => (List.range (if s.allBank (sc / 2) then 1 else 4)).flatMap (fun j => s.refCand sc rk j))
  let blocked (b : Nat) : Bool := (List.range 2).any (fun rk => (List.range (if s.allBank (sc / 2) then 1 else 4)).any (fun j =>
    s.forced sc rk j && (s.group (groupKey sc rk j)).running && (s.groupBanks sc rk j).contains b))
  let engines := (List.range 64).map (fun i => 64 * sc + i)
  let mits := engines.flatMap (fun b => s.mitCand sc b)
  let reqs := engines.filterMap (fun b => if blocked b then none else s.bankCand sc b)
  let idles := engines.filterMap (fun b =>
    let e := s.eng b
    match e.idle, e.row with
    | some d, some r => if reached s.tempo d && !e.outstanding && !s.qes.any (fun q => q.loc.eng == b && s.phaseCand sc q) then
        some (s.maintCand sc .pre ((b / 32) % 2) (b % 32) r false d (idleTag b)) else none
    | _, _ => none)
  let maints := (u.maint.filter (fun m => !m.placed)).map (fun m =>
    (⟨⟨m.cmd, m.rk, m.bk, m.ma, m.val, m.top, 2, m.dl, m.tag, 0, 0, 0, 0⟩, ⟨m.top, 2, m.dl, 0⟩, false, none, none⟩ : Cand))
  mits ++ groupsOf ++ reqs ++ idles ++ maints

/-- R175: hits move ahead of non-hits they may pass. -/
def State.passSort (s : State) (l : List Cand) : List Cand :=
  l.foldl (fun acc y =>
    match y.ent, y.hit && y.p.cmd.isCol with
    | some h, true =>
      let mayPass (x : Cand) : Bool := match x.ent with | some q => !x.p.cmd.isCol && s.passOk h q | none => false
      let keep := acc.reverse.dropWhile mayPass |>.reverse
      keep ++ [y] ++ acc.drop keep.length
    | _, _ => acc ++ [y]) []

/-- A candidate takes a free place: its entry is proposed and its bank engine has a proposal out; the bank outcome of R182 is
recorded the first time the request is its bank's target (R183). A read that interrupts a drain does so once with all that follow it (R179). -/
def State.placeCand (s : State) (sc : Nat) (c : Cand) : State :=
  let b := engOf sc c.p.rk c.p.bk
  let single := c.p.cmd != .mrr && c.p.cmd != .mrw
  let s := s.setSub sc { s.sub sc with window := (s.sub sc).window ++ [c.p] }
  let s := if single then s.setEng b { s.eng b with outstanding := true } else s
  match c.ent with
  | some q =>
    let u := s.sub sc
    let s := s.setEng b { s.eng b with hist := s.histFor q, idle := none }
    let t2 := decide ((s.keyOf q).tier = 2)
    let s := if u.drain != .read && !q.committed && s.interrupts u q then
        s.setSub sc { u with
          intr := some (t2 || u.intr == some true)
          breaks := u.breaks + (if t2 && u.intr != some true then 1 else 0) }
      else s
    s.mapQE q.tag (fun q => { q with stage := .proposed, judged := true, pol := c.pol })
  | none =>
    let k := c.p.tag - 2 ^ 40
    let s := if 2 ^ 40 ≤ c.p.tag ∧ c.p.tag < 2 ^ 41 ∧ c.p.cmd ≠ .pre then s.setGroup k { s.group k with proposed := true } else s
    s.setSub sc { s.sub sc with maint := mapIf (fun m => m.tag == c.p.tag) (fun m => { m with placed := true }) (s.sub sc).maint }

/-- Place of a candidate in a list. -/
def placeIn (l : List Cand) (c : Cand) : Nat := l.findIdx (· == c)

/-- Count the row-hit passes a placement makes (R174, SCHD_CNT1.PASS): within a bank, a hit served ahead of a better-keyed candidate; in the window,
each pair of a hit and a non-hit that it goes before. `one` has at most one candidate of a bank. -/
def State.countPasses (s : State) (sc : Nat) (sorted one placed : List Cand) : State :=
  let was := sorted.filter (fun c => one.contains c)
  let inBank := (placed.filter (fun c => match c.ent with
    | some q => c.p.cmd.isCol && (s.bankCands sc q.loc.eng).any (fun x => s.betterQE x q)
    | none => false)).length
  let moved := placed.foldl (fun n y => n + (was.filter (fun x =>
    decide (placeIn was x < placeIn was y) && decide (placeIn one y < placeIn one x))).length) 0
  s.bump Reg.SCHD_CNT1_PASS (inBank + moved)

/-- Take refresh proposals out of a window: their groups may propose again (R169). -/
def State.dropRefresh (s : State) (sc : Nat) (gone : Proposal → Bool) : State :=
  let u := s.sub sc
  (u.window.filter gone).foldl (fun s p =>
    let b := engOf sc p.rk p.bk
    let k := p.tag - 2 ^ 40
    (s.setEng b { s.eng b with outstanding := false }).setGroup k { s.group k with proposed := false })
    (s.setSub sc { u with window := u.window.filter (fun p => !gone p) })

/-- R247: unforced refresh proposals of a rank leave the window when an admitted line of the rank is to be placed. -/
def State.withdrawRefresh (s : State) (sc : Nat) : State :=
  s.dropRefresh sc (fun p => p.cmd.isRef && !p.top &&
    s.qes.any (fun q => q.adm && q.loc.sc == sc && q.loc.rk == p.rk && q.stage == .wait && s.isCand q))

/-- R245: with no token left, no unforced REFab stays in a window. -/
def State.withdrawRefab (s : State) : State :=
  if !s.ring.tokens.isEmpty || !s.flag Reg.REFD_RCTL_TOKEN_EN || !s.flag Reg.RING_STAT_NUMBERED then s
  else (List.range 8).foldl (fun s sc => s.dropRefresh sc (fun p => p.cmd == .refab && !p.top)) s

/-- The key a proposal was placed under. -/
def State.placedKey (s : State) (p : Proposal) : Key := ⟨p.top, p.tier, p.dl, ((s.qe? p.tag).map (·.age)).getD 0⟩

/-- R169: a full window makes room for a candidate with a better key than its worst request. -/
def State.makeRoom (s : State) (sc : Nat) (c : Cand) : Option State :=
  match best (fun a b => (s.placedKey b).better (s.placedKey a)) ((s.sub sc).window.filter (fun p => (s.qe? p.tag).isSome)) with
  | some w => if c.k.better (s.placedKey w) then some (s.withdraw (fun q => q.tag == w.tag)) else none
  | none => none

/-- R169: a request in the window gives its bank's place up to one with a better key that the bank would serve before it. -/
def State.rebid (s : State) (sc : Nat) : State :=
  (s.sub sc).window.foldl (fun s p =>
    match s.qe? p.tag with
    | none => s
    | some w =>
      let s' := s.withdraw (fun q => q.tag == w.tag)
      match s'.bankPick sc w.loc.eng with
      | some q => if q.tag ≠ w.tag ∧ (s'.keyOf q).better (s.placedKey p) = true then s' else s
      | none => s) s

/-- A candidate takes a free place, or the place of a worse one. An unforced refresh takes none beside a proposal of an admitted line of its
rank (R247). -/
def State.takePlace (s : State) (sc : Nat) (c : Cand) : State :=
  if c.p.cmd.isRef && !c.p.top && s.admittedIn sc c.p.rk then s
  else if (s.sub sc).window.length < 8 then s.placeCand sc c
  else match s.makeRoom sc c with
  | some s => s.placeCand sc c
  | none => s

/-- A candidate's bank already has a proposal, in a list or in the window. -/
def State.bankTaken (s : State) (sc : Nat) (acc : List Cand) (c : Cand) : Bool :=
  c.p.cmd != .mrr && c.p.cmd != .mrw &&
  (acc.any (fun d => d.p.cmd != .mrr && d.p.cmd != .mrw && d.p.rk == c.p.rk && d.p.bk == c.p.bk) ||
   (s.sub sc).window.any (fun p => p.cmd != .mrr && p.cmd != .mrw && p.rk == c.p.rk && p.bk == c.p.bk))

/-- PROPOSAL_PLACE: fill the free places of a window in key order with row-hit passing, one proposal per bank (R163, R175). -/
def State.placeAll (s : State) (sc : Nat) : State :=
  let s := (((s.drainEnd sc).turnRound sc).yieldTrain sc).withdrawRefresh sc
  let s := s.rebid sc
  let sorted := sortBy (fun a b => a.k.better b.k) (s.cands sc)
  let one := (s.passSort sorted).foldl (fun acc c => if s.bankTaken sc acc c then acc else acc ++ [c]) []
  let take := one.take (8 - (s.sub sc).window.length)
  one.foldl (fun s c => s.takePlace sc c) (s.countPasses sc sorted one take)

end Sys2Proof.Machine
end

