-- ==== Sys2Proof/Machine/Keys.lean ====
section
/-! DEFINITION. Key slots: who may use one, loading, clearing, and the clears made by a trigger (R389-R400). -/

namespace Sys2Proof.Machine

open Sys2Proof

/-- A slot at reset: slot 0 always VALID, plaintext and open to every port; the others EMPTY (R390, R394). -/
def slotReset (k : Nat) : Slot := if k = 0 then ⟨.valid, 0xFF, 0, 0⟩ else ⟨.empty, 0, 0, 0⟩

def State.slot (s : State) (k : Nat) : Slot := tget (slotReset k) s.crypt.slots k
def State.setSlot (s : State) (k : Nat) (x : Slot) : State :=
  { s with crypt := { s.crypt with slots := tput (slotReset k) k x s.crypt.slots } }

/-- CRYP_KSTAT.VALID_N (R402). -/
def State.validSlots (s : State) : Nat := ((List.range 256).filter (fun k => (s.slot k).st == .valid)).length

/-- R392 at the serving tile: the slot is EMPTY or PENDING, or the tile has no encryption. -/
def State.slotBad (s : State) (k : Nat) : Bool :=
  if k = 0 then false else !s.build.crypt || (s.slot k).st != .valid

/-- R390, R391 at the receiving tile: port `p` may not name the slot. -/
def State.maskBad (s : State) (p k : Nat) (nec : Bool) : Bool :=
  !(s.slot k).ports.testBit p && !(nec && s.fbit Reg.CRYP_NECPORT_NEC p)

/-- A request is answered KEYFAULT (R392). -/
def State.countKeyfault (s : State) : State := (s.bump Reg.CRYP_CNT_KEYFAULT).set1 Reg.CRYP_EVT_KEYFAULT

/-- The line an encryption engine hands to the code, and back (R388, R389). -/
def State.cipher (s : State) (enc : Bool) (k : Nat) (a : HLine) (d : LineData) : LineData :=
  if k = 0 ∨ s.build.crypt = false then d else xts enc (s.slot k).key a d

/-- The 64-byte key block of the key word registers (R393). -/
def State.keyBlock (s : State) : LineData :=
  BitVec.ofNat 512 ((List.range 16).foldr (fun i acc => acc * 2 ^ 32 + (tget 0 s.crypt.keyw i).toNat) 0)

/-- K1 equals K2 (R394). -/
def sameHalves (k : LineData) : Bool := decide (k.toNat % 2 ^ 256 = k.toNat / 2 ^ 256)

/-- Queue entries of a slot, and requests past its key check with lines still to be placed (R395). -/
def State.slotBusy (s : State) (k : Nat) : Bool :=
  s.qes.any (fun q => q.key == k) ||
  s.reqs.any (fun r => r.flit.keyid.toNat == k && !r.gone && r.op != .flush && r.op != .ulk &&
    (r.stage == .heldFill || (r.stage == .queued && decide (r.moved < r.lines))))

def State.setKbusy (s : State) (v : Bool) : State := s.setFld Reg.CRYP_KCMD_BUSY (b2n v)

/-- R395: the slot becomes PENDING; the writes past its key check are ranked as forced writes, those in the queues and those of a request that still
has a line to place or is held (R43). -/
def State.pend (s : State) (k : Nat) (st : SlotSt) (next : LineData) : State :=
  let s := (s.setSlot k { s.slot k with st := st, nextKey := next }).setKbusy true
  let mine (r : Req) : Bool := r.flit.keyid.toNat == k && isWriteOp r.op && (r.stage == .queued || r.stage == .heldFill)
  let s : State := { s with reqs := mapIf mine (fun r => { r with eff := minDl r.eff s.tempo }) s.reqs }
  s.mapQEs (fun q => q.wr && q.key == k) (fun q => { q with eff := minDl q.eff s.tempo })

/-- R396, R397, R399: the cleared words are read back; `v1` and `v2` tell whether the first and the second read-back found all zero. -/
def State.verifyClear (s : State) (cause : Nat) (v1 v2 : Bool) : State :=
  if v1 || v2 then
    ((s.set1 Reg.CRYP_KSTAT_CLEARED).setFld Reg.CRYP_KSTAT_CAUSE cause).set1 Reg.CRYP_EVT_CLEARED
  else ((s.set1 Reg.CRYP_KSTAT_VERIFY_FAIL).set1 Reg.CRYP_EVT_VERIFY_FAIL).raise 0x32 nowhere

/-- The key word registers are zeroed. -/
def State.zeroKeyw (s : State) : State := { s with crypt := { s.crypt with keyw := [] } }

/-- R395: a PENDING slot none of whose queue entries is left takes its new key, or is zeroed. -/
def State.settle (s : State) (k : Nat) : State :=
  let x := s.slot k
  if s.slotBusy k then s
  else match x.st with
  | .pendLoad => s.setSlot k { x with st := .valid, key := x.nextKey, nextKey := 0 }
  | .pendClear => s.setSlot k { x with st := .empty, key := 0, nextKey := 0 }
  | _ => s

/-- Some slot is still PENDING. -/
def State.anyPending (s : State) : Bool :=
  (List.range 256).any (fun k => (s.slot k).st == .pendLoad || (s.slot k).st == .pendClear)

/-- The command ends when nothing is PENDING: BUSY clears, LOAD_DONE; CLEAR ALL also zeroes the key words and verifies (R394-R396). -/
def State.endKcmd (s : State) (v1 v2 : Bool) : State :=
  if s.anyPending then s
  else
    let s := (s.setKbusy false).set1 Reg.CRYP_EVT_LOAD_DONE
    if s.crypt.clearAll then
      let s := s.zeroKeyw
      { s with crypt := { s.crypt with clearAll := false } }.verifyClear 5 v1 v2
    else s

/-- A key command is refused (R393, R394). -/
def State.kRefused (s : State) : State := s.set1 Reg.CRYP_EVT_REFUSED

/-- Agent 3 only, not BUSY, TAMPER low (R393, R394). -/
def State.kcmdOk (s : State) (agent : Nat) : Bool := decide (agent = 3) && !s.flag Reg.CRYP_KCMD_BUSY && !s.crypt.tamper

/-- LOAD (R394, R395); refused where the key store failed startup BIST (R478). -/
def State.keyLoad (s : State) (agent : Nat) : State :=
  let k := s.fld Reg.CRYP_KSEL_SLOT
  let kb := s.keyBlock
  if !s.kcmdOk agent || decide (k = 0) || sameHalves kb || s.bist.keyBad then s.kRefused
  else
    let s := (s.zeroKeyw).clr Reg.CRYP_KSTAT_CLEARED
    if (s.slot k).st = .valid then ((s.pend k .pendLoad kb).settle k).endKcmd true true
    else (s.setSlot k { s.slot k with st := .valid, key := kb }).endKcmd true true

/-- CLEAR (R394, R395). -/
def State.keyClear (s : State) (agent : Nat) : State :=
  let k := s.fld Reg.CRYP_KSEL_SLOT
  if !s.kcmdOk agent || decide (k = 0) then s.kRefused
  else if (s.slot k).st = .valid then ((s.pend k .pendClear 0).settle k).endKcmd true true
  else (s.setSlot k { s.slot k with st := .empty, key := 0 }).endKcmd true true

/-- CLEAR ALL (R396). -/
def State.keyClearAll (s : State) (agent : Nat) (v1 v2 : Bool) : State :=
  if !s.kcmdOk agent then s.kRefused
  else
    let s : State := { s with crypt := { s.crypt with clearAll := true } }
    let s := (List.range 256).foldl (fun s k => if k ≠ 0 ∧ (s.slot k).st = .valid then (s.pend k .pendClear 0).settle k else s) s
    (s.setKbusy true).endKcmd v1 v2

/-- The last queue entry of a PENDING slot is freed (R395, R396). -/
def State.keyChange (s : State) (k : Nat) (v1 v2 : Bool) : State :=
  let st := (s.slot k).st
  if (st = .pendLoad ∨ st = .pendClear) ∧ s.slotBusy k = false then (s.settle k).endKcmd v1 v2 else s

/-- The key number of an access whose key a trigger has destroyed: its read is answered KEYFAULT (R398). -/
def keyGone : Nat := 256

/-- A write of a line is made a poison line because its key is gone (R398). -/
def State.lostKey (s : State) (p : Nat) (a : HLine) : State :=
  ((s.bump Reg.CRYP_CNT_KPOISON).set1 Reg.CRYP_EVT_WPOISON).raise 0x31 (portPlace p a)

/-- A trigger of R397 clears every key: all slots but 0 EMPTY, masks kept, reads not yet decrypted lose their key, writes not yet
encrypted are written as poison with a class D record each, those of lines still to be placed too (R398); the clear is verified (R397, R399). -/
def State.clearKeys (s : State) (cause : Nat) (v1 v2 : Bool) : State :=
  let hit (q : QE) : Bool := q.ofWrite && q.key != 0 && q.key != keyGone && q.stage != .issued &&
    (q.pay == .buffer || match q.pay with | .plain _ => true | _ => false)
  let lines := ((s.qes.filter hit).map (fun q => (q.rid, q.idx, q.port, q.host))).dedup
  let s := lines.foldl (fun s x => s.lostKey x.2.2.1 x.2.2.2) s
  let past (r : Req) : Bool := decide (r.flit.keyid ≠ 0) && (r.stage == .queued || r.stage == .heldFill)
  let s : State := { s with reqs := mapIf past (fun r => { r with gone := true }) s.reqs }
  let s := s.mapQEs hit (fun q => { q with pay := .poison })
  let s := s.mapQEs (fun q => q.key != 0) (fun q => { q with key := keyGone })
  let s := (List.range 256).foldl (fun s k => if k = 0 then s else s.setSlot k { slotReset k with ports := (s.slot k).ports }) s
  let s := { s.zeroKeyw with crypt := { s.zeroKeyw.crypt with clearAll := false } }
  (s.setKbusy false).verifyClear cause v1 v2

end Sys2Proof.Machine
end

