-- ==== Sys2Proof/Machine/Lattice.lean ====
section
/-! DEFINITION. The issue lattice: sequence commands, the decision of a tick, verdicts and their delivery to the bank engines
(R164-R169, R199-R208, R213, R214, R221). -/

namespace Sys2Proof.Machine

open Sys2Proof

/-- A closed notice: the bank engine records no open row (R221). -/
def State.closeNotice (s : State) (b : Nat) : State := s.setEng b { s.eng b with row := none, shut := none, idle := none }

/-- The tag of the commands a sequence issues itself. -/
def seqTag : Nat := 2 ^ 43

/-- A step of a sequence that names no bank. -/
def seqStep (c : Option Cmd) (rk gap : Nat) (start : Option Nat) (why : Nat) : SeqCmd := ⟨c, rk, 0, 0, 0, seqTag, gap, start, 0, 0, why⟩

/-- The bank engine's tables follow every accepted command of its bank (R239, R249-R251). -/
def State.followCmd (s : State) (sc : Nat) (c : Cmd) (rk bk row tag : Nat) : State :=
  let b := engOf sc rk bk
  let own := decide (2 ^ 41 ≤ tag) && decide (tag < 2 ^ 42)
  match c with
  | .act =>
    let s := s.bankAct sc rk bk row own
    if own then
      let e := s.eng b
      s.setEng b { e with mitig := e.mitig.map (fun m => { m with opened := true }) }
    else s
  | .pre =>
    let e := s.eng b
    match e.mitig with
    | some m =>
      if own && m.opened then
        let rest := m.nbr.drop 1
        if rest.isEmpty then (s.setEng b (mitigDone e)).bump Reg.REFD_CNT0_MIT_NBR
        else s.setEng b { e with mitig := some { m with nbr := rest, opened := false } }
      else s
    | none => s
  | .rfmsb | .rfmab =>
    if own then
      let m := tag - 2 ^ 41
      (s.setEng m (mitigDone (s.eng m))).bump Reg.REFD_CNT0_MIT_RFM
    else s
  | .refsb => s.groupRefreshed sc rk (bk % 4)
  | .refab =>
    let ri := 2 * (sc / 2) + rk
    let needs := s.allBank (sc / 2) && s.flag Reg.REFD_RCTL_TOKEN_EN && s.flag Reg.RING_STAT_NUMBERED
    let s := if needs && s.ring.tokens.isEmpty then s.set1 Reg.RING_EVT_TOKLESS
      else if needs && !s.ring.tokUsed.contains ri then { s with ring := { s.ring with tokUsed := s.ring.tokUsed ++ [ri] } }
      else s
    s.groupRefreshed sc rk 0
  | .preab => (List.range 32).foldl (fun s k => s.closeNotice (engOf sc rk k)) s
  | .srx => (List.range 32).foldl (fun s k => s.setEng (engOf sc rk k) { s.eng (engOf sc rk k) with skipClear := true }) s
  | _ => s

/-- A command takes slot `slot` in the lattice of a subchannel (R208, R214): counters, recorded state, slots used, and the list of
accepted commands. -/
def State.takeSlot (s : State) (sc : Nat) (c : Cmd) (rk bk row col tag slot ma val : Nat) : State :=
  let was := tget 0 (s.sub sc).rowOf (bankKey rk bk)
  let probe := match s.qe? tag with | some q => q.src == .train | none => false
  let u := applyCmd s.timg (s.sub sc) c rk bk row slot probe
  let s := s.setSub sc { u with
    used := u.used ++ (List.range c.slots).map (slot + ·)
    accepted := u.accepted ++ [⟨c, rk, bk, row, col, tag, slot, ma, val, 0, was⟩] }
  s.followCmd sc c rk bk row tag

/-- A sequence command is legal in the recorded state (R208, R225, R226). -/
def seqOk (u : Sub) (c : Cmd) (rk bk : Nat) : Bool :=
  match c with
  | .sre => !u.asleep.contains rk && (rankBanks rk).all (fun k => decide (tget 0 u.rowOf k = 0))
  | .srx => u.asleep.contains rk
  | c => stateOk u c rk bk

/-- The first step of a sequence took slot `x`: the others may start their gaps later (R221, R225). -/
def armSteps (rk why x : Nat) (l : List SeqCmd) : List SeqCmd :=
  mapIf (fun q => q.rk == rk && q.why == why && q.start.isNone) (fun q => { q with start := some (x + q.gap) }) l

/-- Lower one hold of a rank. -/
def Sub.lower (u : Sub) (rk : Nat) : Sub := { u with holds := u.holds.erase rk }

/-- A ZQCal Start is accepted and the Latch that ends it is not (R223). -/
def Sub.calibrates (u : Sub) (rk : Nat) : Bool :=
  u.zqLatch.contains rk || u.accepted.any (fun i => (i.cmd == .zqs || i.cmd == .zql) && i.rk == rk)

/-- The other rank of the channel lets a rank calibrate: its Latch has issued and tZQLAT has passed, on both subchannels (R223). -/
def State.zqFree (s : State) (sc rk : Nat) : Bool :=
  [sc, sc ^^^ 1].all (fun i => !(s.sub i).calibrates (1 - rk) && decide (tget 0 (s.sub i).zqDone (1 - rk) ≤ 4 * (s.sub i).tick + 8))

/-- The slot of tick `k2` a sequence command takes (R204): the first that its counters, R208 and R223 permit. -/
def State.seqSlot (s : State) (sc k2 : Nat) (q : SeqCmd) (c : Cmd) : Option Nat :=
  let u := s.sub sc
  let l := limits s.timg u c q.rk q.bk
  let lim := max (q.start.getD 0) (max l.1 (max l.2.1 l.2.2))
  if !seqOk u c q.rk q.bk || (c == .zqs && !s.zqFree sc q.rk) then none
  else if c == .zql then
    (List.range 4).map (fun j => 4 * k2 + j) |>.find? (fun x => decide (lim ≤ x) && !u.used.contains x && !windowOpen s.timg u q.rk x)
  else freeSlot u.used c k2 lim

/-- The verdict of a proposal that leaves the window (R165). -/
def State.verdict (s : State) (sc : Nat) (v : Verdict) : State :=
  s.setSub sc { s.sub sc with verdicts := (s.sub sc).verdicts ++ [v] }

/-- The sequence commands of a subchannel at tick `k2` (R204): the first waiting step of each sequence takes its slot. They come before the window
and are never refused. The MRW that serves a proposal returns its ACCEPT now, with the slot it takes (R165; log entry 97). -/
def State.runSeqs (s : State) (sc k2 : Nat) (fuel : Nat) (l : List SeqCmd) (waiting : List (Nat × Nat)) : State :=
  match fuel, l with
  | 0, _ => s
  | _, [] => s
  | fuel + 1, q :: rest =>
    let wait (s : State) : State :=
      (s.setSub sc { s.sub sc with seqs := (s.sub sc).seqs ++ [q] }).runSeqs sc k2 fuel rest ((q.rk, q.why) :: waiting)
    if waiting.contains (q.rk, q.why) then wait s
    else match q.start, q.cmd with
    | none, _ => wait s
    | some x, none =>
      if x ≤ 4 * k2 + 3 then
        let s := s.setSub sc ((s.sub sc).lower q.rk)
        let s := if q.why = 0 then (s.set1 Reg.TIMG_EVT_MR_DONE).clr Reg.TIMG_MRCMD_GO else s
        s.runSeqs sc k2 fuel rest waiting
      else wait s
    | some _, some c =>
      match s.seqSlot sc k2 q c with
      | some x =>
        let s := s.takeSlot sc c q.rk q.bk q.row q.col q.tag x q.ma q.val
        let s := if q.why = 0 ∧ c = .mrw then s.verdict sc ⟨true, q.tag, .mrw, q.rk, 0, q.ma, (x / 4) % 2 ^ 16, x % 4, 0, 0⟩ else s
        s.runSeqs sc k2 fuel (armSteps q.rk q.why x rest) waiting
      | none => wait s

/-- The MRW sequence of R221 for the proposal with a tag: hold, PREab, MRW tRP later, lower the hold tRP + tMRD after the PREab. -/
def State.startMrw (s : State) (sc rk ma val tag : Nat) : State :=
  let t := s.timg
  let u := s.sub sc
  s.setSub sc { u with
    holds := u.holds ++ [rk]
    seqs := u.seqs ++ [seqStep (some .preab) rk 0 (some 0) 0,
      { seqStep (some .mrw) rk t.rp none 0 with tag := tag, ma := ma, val := val },
      seqStep none rk (t.rp + t.mrd) none 0] }

/-- The NEXT tick of an ACCEPT (R206). -/
def nextTick (u : Sub) (c : Cmd) (rk bk : Nat) : Nat :=
  match c with
  | .act => tget 0 u.bkCol (bankKey rk bk) / 4
  | .pre | .rda | .wra => tget 0 u.bkAct (bankKey rk bk) / 4
  | _ => 0

/-- A proposal leaves the window with REFUSE (R165, R168). -/
def State.refuse (s : State) (sc : Nat) (p : Proposal) (why nb : Nat) : State :=
  s.verdict sc ⟨false, p.tag, p.cmd, p.rk, p.bk, p.row, 0, 0, why, nb⟩

/-- PLIFE with its zero rule (R191). -/
def State.plife (s : State) : Nat := max 1 (s.fld Reg.SCHD_PCTL_PLIFE)

/-- A proposal stays in its place with its reason; considered PLIFE times it is refused (R204). -/
def State.keep (s : State) (sc : Nat) (p : Proposal) (why nb : Nat) : State :=
  if s.plife ≤ p.seen + 1 then s.refuse sc p why nb
  else s.setSub sc { s.sub sc with window := (s.sub sc).window ++ [{ p with seen := p.seen + 1, why := why, nb := nb }] }

/-- The lattice considers one proposal for tick k + 2 (R204, R205): accepted, refused for STATE, or kept with its reason. `held` are the ranks whose
hold stood when the snapshot was taken (R207). -/
def State.consider (s : State) (sc k : Nat) (held : List Nat) (p : Proposal) : State :=
  let u := s.sub sc
  let t := s.timg
  let k2 := k + 2
  let probe := match s.qe? p.tag with | some q => q.src == .train | none => false
  if held.contains p.rk || (u.gapHold && p.cmd.isCol) then s.keep sc p 6 0
  else if p.cmd = .mrw then s.startMrw sc p.rk p.row p.col p.tag
  else if stateOk u p.cmd p.rk p.bk = false then s.refuse sc p 5 0
  else
    let l := limits t u p.cmd p.rk p.bk probe
    let e := eSlot k2 p.e
    let lim := max e (max l.1 (max l.2.1 l.2.2))
    match freeSlot u.used p.cmd k2 lim with
    | some x =>
      let s := s.takeSlot sc p.cmd p.rk p.bk p.row p.col p.tag x (if p.cmd = .mrr then p.row else 0) 0
      s.verdict sc ⟨true, p.tag, p.cmd, p.rk, p.bk, p.row, (x / 4) % 2 ^ 16, x % 4, 0, nextTick (s.sub sc) p.cmd p.rk p.bk % 2 ^ 16⟩
    | none =>
      let lastStart := 4 * k2 + 4 - p.cmd.slots
      let why := if lastStart < max e l.1 then 1 else if lastStart < l.2.1 then 2 else if lastStart < l.2.2 then 3 else 4
      s.keep sc p why (if why = 4 then 0 else (lim / 4) % 2 ^ 16)

/-- PROPOSAL_LIFE_EXPIRY (R164): proposals considered PLIFE times without acceptance are refused and leave the window. The decision itself refuses
them as they reach PLIFE (R204); one is left here only after a COMMIT has lowered PLIFE. -/
def State.expire (s : State) (sc : Nat) : State :=
  let u := s.sub sc
  let old (p : Proposal) : Bool := decide (s.plife ≤ p.seen)
  (u.window.filter old).foldl (fun s p => s.refuse sc p p.why p.nb) (s.setSub sc { u with window := u.window.filter (fun p => !old p) })

/-- LATTICE_TICK: sequence commands are considered first, then the snapshot of the window in its order; the tick count advances (R203, R204). A hold
this decision raises applies from the next snapshot (R207). -/
def State.latticeTick (s : State) (sc : Nat) : State :=
  let u := s.sub sc
  let k := u.tick
  let s := s.setSub sc { u with used := u.used.filter (fun x => decide (4 * (k + 2) ≤ x)), seqs := [], window := [] }
  let s := s.runSeqs sc (k + 2) u.seqs.length u.seqs []
  let held := (s.sub sc).holds
  let s := u.window.foldl (fun s p => s.consider sc k held p) s
  s.setSub sc { s.sub sc with tick := k + 1 }

/-- An ACCEPT reaches the bank engine: bank state, and E of its next proposal from NEXT (R165, R180). -/
def State.acceptVerdict (s : State) (sc : Nat) (v : Verdict) : State :=
  let b := engOf sc v.rk v.bk
  let e := s.eng b
  let shut := if v.cmd = .rda ∨ v.cmd = .wra then e.row.map (fun r => (r, tget 0 (s.sub sc).bkAct (bankKey v.rk v.bk) - s.timg.rp)) else none
  let row := match v.cmd with
    | .act => some v.row
    | .pre | .rda | .wra => none
    | _ => e.row
  let s := if v.cmd = .mrr ∨ v.cmd = .mrw then s
    else s.setEng b { e with
      row := row
      shut := shut
      outstanding := false
      e := v.nxt
      idle := (if v.cmd = .pre then none else e.idle)
      lastRow := (if row = none then e.row.getD e.lastRow else e.lastRow)
      usedAt := (if v.cmd.isCol then s.longTime else e.usedAt) }
  let s := if v.cmd = .mrw then s.setSub sc { s.sub sc with maint := (s.sub sc).maint.filter (fun m => m.tag != v.tag) } else s
  s.mapQE v.tag (fun q => { q with stage := if v.cmd.isCol then .accepted else .wait, e := 0 })

/-- The banks whose recorded state a command asks for (R208). -/
def checkedBanks (c : Cmd) (bk : Nat) : List Nat :=
  match c with
  | .refsb | .rfmsb => (List.range 8).map (fun g => 4 * g + bk % 4)
  | .refab | .rfmab | .preab | .mrw => List.range 32
  | .act | .rd | .rda | .wr | .wra | .pre => [bk]
  | .mrr | .sre | .srx | .zqs | .zql => []

/-- R167: an engine whose view differs from the lattice's reloads it. A view that a closed notice has already brought up to date is no reload
(R221, log entry 41). -/
def State.reload (s : State) (sc rk bk : Nat) : State :=
  let b := engOf sc rk bk
  let o := tget 0 (s.sub sc).rowOf (bankKey rk bk)
  let row := if o = 0 then none else some (o - 1)
  if (s.eng b).row = row then s
  else ((s.setEng b { s.eng b with row := row, shut := none }).set1 Reg.SCHD_EVT_STATE_RELOAD).raise 0x08 (atBank (sc / 2) (sc % 2) rk 0xF bk)

/-- A REFUSE reaches the bank engine: the request is a candidate again with its not-before tick; on a STATE refusal every engine the command asks
about whose view differs from the lattice's reloads it (R167, R168). -/
def State.refuseVerdict (s : State) (sc : Nat) (v : Verdict) : State :=
  let b := engOf sc v.rk v.bk
  let s := s.bump Reg.SCHD_CNT0_REFUSE
  let own := (s.qe? v.tag).isSome
  let s := if v.cmd = .mrr ∨ v.cmd = .mrw then s else s.setEng b { s.eng b with outstanding := false, e := if own then 0 else v.nxt }
  let s := s.mapQE v.tag (fun q => { q with stage := .wait, e := v.nxt, pol := none })
  let s := s.setSub sc { s.sub sc with maint := mapIf (fun m => m.tag == v.tag) (fun m => { m with placed := false }) (s.sub sc).maint }
  let s := if 2 ^ 40 ≤ v.tag ∧ v.tag < 2 ^ 41 ∧ v.cmd ≠ .pre then
      let k := v.tag - 2 ^ 40
      s.setGroup k { s.group k with proposed := false }
    else s
  if v.reason = 5 then (checkedBanks v.cmd v.bk).foldl (fun s k => s.reload sc v.rk k) s else s

/-- Deliver the oldest verdict of the kind named. -/
def State.deliver (s : State) (sc : Nat) (acc : Bool) : State :=
  let u := s.sub sc
  match u.verdicts.find? (fun v => v.accept == acc) with
  | none => s
  | some v =>
    let s := s.setSub sc { u with verdicts := u.verdicts.erase v }
    if acc then s.acceptVerdict sc v else s.refuseVerdict sc v

end Sys2Proof.Machine
end

