-- ==== Sys2Proof/Machine/Trims.lean ====
section
/-! DEFINITION. Trims and the Opening Book: interpolation, the storing of a trusted result, pending trims, and the runs of an En
Passant pass with their abort (R343, R348, R362-R370, R377, R379, R381). -/

namespace Sys2Proof.Machine

open Sys2Proof

/-! ## Accessors -/

def trim0 : Trim := ⟨0, 0, 0, 0, 0, 0, 0, 0, [0, 0, 0, 0], [0, 0, 0, 0], 0⟩
def caTrim0 : CaTrim := ⟨0, 0, 0, 0, 0⟩
def eye0 : Eye := ⟨0, 0⟩
def bookEnt0 : BookEnt := ⟨trim0, false, 0, false, 0⟩
def phy0 : Phy := ⟨.off, 0, 0, false, .idle, 0, [], false, 0, 0, 0, false, none⟩
def train0 : TrainSub := ⟨0, 0, 0, []⟩
def ep0 : EpCh := ⟨false, 0, 0, []⟩

/-- The key of a lane group of a subchannel rank, and of one of its book points. -/
def laneKey (sc rk g : Nat) : Nat := 16 * (2 * sc + rk) + g
def bookKey (sc rk g pt : Nat) : Nat := 8 * laneKey sc rk g + pt

def State.phy (s : State) (c : Nat) : Phy := tget phy0 s.phys c
def State.setPhy (s : State) (c : Nat) (x : Phy) : State := { s with phys := tput phy0 c x s.phys }
def State.trim (s : State) (k : Nat) : Trim := tget trim0 s.trims k
def State.setTrim (s : State) (k : Nat) (x : Trim) : State := { s with trims := tput trim0 k x s.trims }
def State.caTrim (s : State) (i : Nat) : CaTrim := tget caTrim0 s.caTrims i
def State.setCaTrim (s : State) (i : Nat) (x : CaTrim) : State := { s with caTrims := tput caTrim0 i x s.caTrims }
def State.eye (s : State) (k : Nat) : Eye := tget eye0 s.eyes k
def State.setEye (s : State) (k : Nat) (x : Eye) : State := { s with eyes := tput eye0 k x s.eyes }
def State.bookEnt (s : State) (k : Nat) : BookEnt := tget bookEnt0 s.book k
def State.setBookEnt (s : State) (k : Nat) (x : BookEnt) : State := { s with book := tput bookEnt0 k x s.book }
def State.train (s : State) (sc : Nat) : TrainSub := tget train0 s.trains sc
def State.setTrain (s : State) (sc : Nat) (x : TrainSub) : State := { s with trains := tput train0 sc x s.trains }
def State.ep (s : State) (c : Nat) : EpCh := tget ep0 s.eps c
def State.setEp (s : State) (c : Nat) (x : EpCh) : State := { s with eps := tput ep0 c x s.eps }

/-- A channel's ranks: one or two by its decode (R112). -/
def State.ranks (s : State) (c : Nat) : List Nat := if (s.chDec c).rkEn then [0, 1] else [0]

/-- The module type is MRDIMM (R200). -/
def State.mrdimm (s : State) : Bool := s.fld Reg.TIMG_MODE_MTYPE != 0

/-! ## Erasure slots (R280) -/

def State.erase? (s : State) (i : Nat) : Option Erase := tget none s.repair.eras i
def State.setErase (s : State) (i : Nat) (x : Option Erase) : State :=
  { s with repair := { s.repair with eras := tput none i x s.repair.eras } }

/-- The slot of a subchannel rank (R295). -/
def ersIdx (sc rk : Nat) : Nat := 2 * sc + rk

/-! ## Arithmetic of the book -/

/-- div_nearest of R364: the nearest integer, halves towards zero. -/
def divNearest (n : Int) (d : Nat) : Int :=
  let m : Int := ((2 * n.natAbs + d - 1) / (2 * d) : Nat)
  if n < 0 then -m else m

/-- Clamp to a range (R343). -/
def clampTo (lo hi v : Int) : Int := max lo (min hi v)
def clampDly (v : Int) : Int := clampTo (-192) 192 v
def clampDsk (v : Int) : Int := clampTo (-32) 31 v

/-- The temperatures of the five points, in units of 0.25 °C (R364). -/
def pointTh (i : Nat) : Int := 180 * (i : Int) - 220

/-- t, a and q of R364. -/
def segment (th : Int) : Int × Nat × Int :=
  let t := clampTo (-220) 500 th
  let a := if 320 ≤ t then 3 else if 140 ≤ t then 2 else if -40 ≤ t then 1 else 0
  (t, a, t - pointTh a)

/-- The filtered temperature of R365: the mean of the last 16 samples, or of those taken so far (log entry 40: to the nearest unit). -/
def thetaF (l : List Int) : Int :=
  let l := l.take 16
  if l.isEmpty then 0 else divNearest (l.foldl (· + ·) 0) l.length

def State.thF (s : State) (c : Nat) : Int := thetaF (s.phy c).samples

/-- Interpolation of one value between two book points. -/
def interp (v0 v1 q : Int) : Int := v0 + divNearest ((v1 - v0) * q) 180

/-- R364: a lane group's trims at a temperature. -/
def State.bookAt (s : State) (sc rk g : Nat) (th : Int) : Trim :=
  let (_, a, q) := segment th
  let x := (s.bookEnt (bookKey sc rk g a)).t
  let y := (s.bookEnt (bookKey sc rk g (a + 1))).t
  { x with
    rdDly := clampDly (interp x.rdDly y.rdDly q)
    wrDly := clampDly (interp x.wrDly y.wrDly q)
    rdsk := List.zipWith (fun u v => clampDsk (interp u v q)) x.rdsk y.rdsk
    wdsk := List.zipWith (fun u v => clampDsk (interp u v q)) x.wdsk y.wdsk }

/-- A recomputation for one rank: its trims wait for the next idle gap, in place of any that still waited (R366). -/
def State.pendRank (s : State) (sc rk : Nat) : State :=
  let i := 2 * sc + rk
  let ts := (List.range 10).map (fun g => (laneKey sc rk g, s.bookAt sc rk g (s.thF (sc / 2))))
  { s with pendTrims := tput none i (some ⟨s.tempo, ts⟩) s.pendTrims }

/-- New trims of one lane group wait for the next idle gap, beside those of other groups that still wait. -/
def State.pendGroup (s : State) (sc rk g : Nat) (f : Trim → Trim) : State :=
  let i := 2 * sc + rk
  let k := laneKey sc rk g
  let (since, ts) : Tempo × List (Nat × Trim) := match tget none s.pendTrims i with | some p => (p.since, p.trims) | none => (s.tempo, [])
  let t := match ts.find? (fun x => x.1 == k) with | some x => x.2 | none => s.trim k
  { s with pendTrims := tput none i (some ⟨since, ts.filter (fun x => x.1 != k) ++ [(k, f t)]⟩) s.pendTrims }

/-- The ranks a trusted result of a rank is applied and stored for (R362). -/
def State.epStores (s : State) (rk : Nat) : List Nat := if s.mrdimm then [0, 1] else [rk]

/-- R379 step 1: a group's read trims are restored from the book at the next idle gap. -/
def State.restoreGroup (s : State) (sc rk g : Nat) : State :=
  (s.epStores rk).foldl (fun s rk =>
    let b := s.bookAt sc rk g (s.thF (sc / 2))
    s.pendGroup sc rk g (fun t => { t with rdDly := b.rdDly, rdsk := b.rdsk })) s

/-- R365: recompute a channel's trims while INTERP_EN is 1. -/
def State.recompute (s : State) (c : Nat) : State :=
  if !s.flag Reg.BOOK_LCTL_INTERP_EN then s
  else
    let s := s.setPhy c { s.phy c with thDone := s.thF c, bookNew := false }
    [2 * c, 2 * c + 1].foldl (fun s sc => [0, 1].foldl (fun s rk => s.pendRank sc rk) s) s

/-- An idle gap of a subchannel: the trims that wait are applied, each rank's in one step (R366). -/
def State.applyPend (s : State) (sc : Nat) : State :=
  [0, 1].foldl (fun s rk =>
    let i := 2 * sc + rk
    match tget none s.pendTrims i with
    | none => s
    | some p =>
      let s : State := { s with pendTrims := tput none i none s.pendTrims }
      p.trims.foldl (fun s kt => s.setTrim kt.1 kt.2) s) s

/-! ## Storing a trusted result (R368) -/

/-- The five values of one trim after a trusted result: the near point takes the value that interpolates to `v` at `tm`, seeded points
follow the line through their measured neighbours. `ms` tells which points were measured before. -/
def storeOne (lo hi : Int) (ms : List Bool) (vs : List Int) (tm v : Int) : List Int :=
  let (_, a, q) := segment tm
  let near := if q ≤ 90 then a else a + 1
  let far := if q ≤ 90 then a + 1 else a
  let w := (if q ≤ 90 then 180 - q else q).toNat
  let nv := if nth false ms far then
      let f := nth 0 vs far
      f + divNearest ((v - f) * 180) w
    else v
  let vs := setNth vs near (clampTo lo hi nv)
  let ms := setNth ms near true
  (List.range 5).map (fun i =>
    if nth false ms i then nth 0 vs i
    else
      let below := ((List.range i).filter (fun j => nth false ms j)).getLast?
      let above := (List.range 5).find? (fun j => decide (i < j) && nth false ms j)
      match below, above with
      | some b, some c =>
        let vb := nth 0 vs b
        clampTo lo hi (vb + divNearest ((nth 0 vs c - vb) * ((i : Int) - b)) (c - b))
      | some b, none => nth 0 vs b
      | none, some c => nth 0 vs c
      | none, none => nth 0 vs i)

/-- Store a trusted run of a lane group in the book (R368). -/
def State.storeRun (s : State) (sc rk g : Nat) (wr : Bool) (tm dly : Int) (dsk : List Int) : State :=
  let es := (List.range 5).map (fun i => s.bookEnt (bookKey sc rk g i))
  let ms := es.map (fun e => if wr then e.wm else e.rm)
  let dl := storeOne (-192) 192 ms (es.map (fun e => if wr then e.t.wrDly else e.t.rdDly)) tm dly
  let lanes := (List.range 4).map (fun j =>
    storeOne (-32) 31 ms (es.map (fun e => nth 0 (if wr then e.t.wdsk else e.t.rdsk) j)) tm (nth 0 dsk j))
  let (_, a, q) := segment tm
  let near := if q ≤ 90 then a else a + 1
  (List.range 5).foldl (fun s i =>
    let e := nth bookEnt0 es i
    let d := nth 0 dl i
    let k := lanes.map (fun l => nth 0 l i)
    let e := if wr then { e with t := { e.t with wrDly := d, wdsk := k } } else { e with t := { e.t with rdDly := d, rdsk := k } }
    let e := if i = near then (if wr then { e with wm := true, wth := tm } else { e with rm := true, rth := tm }) else e
    s.setBookEnt (bookKey sc rk g i) e) s

/-! ## The eye-centre rule (R348) -/

/-- The run a lane counts: the longest; on a tie the one whose centre lies nearer 0, then the lower. -/
def laneRun (l : List LaneRun) (lane : Nat) : Option (Int × Int) :=
  let better (a b : LaneRun) : Bool :=
    let la := a.last - a.first
    let lb := b.last - b.first
    let ca := (a.first + a.last).natAbs
    let cb := (b.first + b.last).natAbs
    decide (lb < la) || (decide (la = lb) && (decide (ca < cb) || (decide (ca = cb) && decide (a.first < b.first))))
  (best better (l.filter (fun r => r.lane == lane && decide (r.first ≤ r.last)))).map (fun r => (r.first, r.last))

/-- What a sweep gives a lane group: delay, deskews, window, and each lane's own centre. -/
structure EyeFit where
  dly : Int
  dsk : List Int
  win : Int
  cents : List Int
  deriving DecidableEq, Repr

/-- The intersection of runs; empty when the first exceeds the last. -/
def meetRuns (l : List (Int × Int)) : Int × Int :=
  l.foldl (fun acc r => (max acc.1 r.1, min acc.2 r.2)) (-1000, 1000)

/-- R348 for the lanes listed: none when some lane has no passing point or their runs do not meet. -/
def eyeFit (l : List LaneRun) (lanes : List Nat) : Option EyeFit :=
  let rs := lanes.filterMap (laneRun l)
  if rs.length < lanes.length then none
  else
    let g := meetRuns rs
    if g.2 < g.1 then none
    else
      let gc := Int.fdiv (g.1 + g.2) 2
      let cents := rs.map (fun r => Int.fdiv (r.1 + r.2) 2)
      let dsk := cents.map (fun c => clampDsk (c - gc))
      let r := meetRuns (List.zipWith (fun (p : Int × Int) d => (p.1 - d, p.2 - d)) rs dsk)
      if r.2 < r.1 then none
      else some ⟨clampDly (Int.fdiv (r.1 + r.2) 2), dsk, r.2 - r.1 + 1, cents⟩

/-! ## En Passant runs (R369, R370, R379) -/

def State.epRank? (s : State) (sc rk : Nat) : Option EpRank := tget none (s.ep (sc / 2)).ranks (2 * sc + rk)
def State.setEpRank (s : State) (sc rk : Nat) (x : Option EpRank) : State :=
  let c := sc / 2
  s.setEp c { s.ep c with ranks := tput none (2 * sc + rk) x (s.ep c).ranks }

/-- Some rank of a channel still has runs to make. -/
def State.epBusy (s : State) (c : Nat) : Bool := (s.ep c).ranks.any (fun e => match e.2 with | some r => !r.todo.isEmpty | none => false)

/-- A channel's pass ends when no rank has a run left (R369). -/
def State.epEnd (s : State) (c : Nat) : State :=
  if (s.ep c).running && !s.epBusy c then
    let s := s.setEp c { s.ep c with running := false, ranks := [] }
    (s.setFld (Reg.BOOK_PASS_LAST c) (s.tempo.toNat / 256)).set1 Reg.BOOK_EVT_PASS_DONE
  else s

/-- A run of a rank begins, with the settings of BOOK that are in force now (R370, R522). -/
def State.startRun (s : State) (sc rk : Nat) (r : EpRank) : State :=
  s.setEpRank sc rk (some { r with
    begun := true, t0 := s.tempo, th := s.thF (sc / 2), sample := s.tempo, pt := 0
    epctl := s.word Reg.BOOK_EPCTL_SPAN.key, probe := s.word Reg.BOOK_PROBE_PWAIT.key })

/-- The run in turn of a rank begins, if it has not yet (R370 step 1, R373): a group erased for good is skipped; a read run marks its group
unless the slot holds a permanent mark. No run begins while a SLEEP vote is under way (R417). -/
def State.epBegin (s : State) (sc rk : Nat) : Nat → State
  | 0 => s
  | fuel + 1 =>
    match (if s.power.vote.isSome then none else s.epRank? sc rk) with
    | none => s
    | some r =>
      match r.begun, r.todo with
      | true, _ => s
      | false, [] => s.epEnd (sc / 2)
      | false, (g, wr) :: rest =>
        let i := ersIdx sc rk
        let skip := s.setEpRank sc rk (some { r with todo := rest, bad := 0 })
        let go (s : State) : State := s.startRun sc rk r
        match s.erase? i with
        | some e =>
          if e.src = 0 ∧ e.grp = g then skip.epBegin sc rk fuel
          else if e.src = 0 ∨ wr then go s
          else
            let s := (s.set1 Reg.ECCS_EVT_ERS_BUSY).setEpRank sc rk (some { r with todo := r.todo.filter (·.2) })
            s.epBegin sc rk fuel
        | none => if wr then go s else go (s.setErase i (some ⟨1, g⟩))

/-- Clear an En Passant mark of a rank (R370 step 5). -/
def State.epUnmark (s : State) (sc rk : Nat) : State :=
  match s.erase? (ersIdx sc rk) with
  | some e => if e.src = 1 then s.setErase (ersIdx sc rk) none else s
  | none => s

/-- The run in turn is over, or with `whole` its group is done with: the next begins. A group whose last run this was has completed its turn. -/
def State.epNext (s : State) (sc rk : Nat) (whole : Bool) : State :=
  match s.epRank? sc rk with
  | none => s
  | some r =>
    match r.todo with
    | [] => s
    | (g, _) :: rest =>
      let c := sc / 2
      let rest := if whole then rest.filter (fun x => x.1 != g) else rest
      let s := if rest.any (fun x => x.1 == g) then s else s.setEp c { s.ep c with done := (s.ep c).done + 1 }
      let s := (s.dropTrain sc rk).setEpRank sc rk (some { r with todo := rest, begun := false, bad := 0 })
      s.epBegin sc rk 24

/-- R379: the run in progress of a rank is aborted: its mark is cleared, the book's trims are restored at the next gap, and the group runs again
after the others. The next run begins when the rank resumes. -/
def State.epAbort (s : State) (sc rk : Nat) : State :=
  match s.epRank? sc rk with
  | none => s
  | some r =>
    match r.begun, r.todo with
    | true, x :: rest =>
      let s := (s.dropTrain sc rk).setEpRank sc rk (some { r with todo := rest ++ [x], begun := false, bad := 0 })
      let s := if x.2 then s else s.restoreGroup sc rk x.1
      ((s.bump Reg.BOOK_CNT1_ABORT).set1 Reg.BOOK_EVT_ABORT).epUnmark sc rk
    | _, _ => s

/-- Every run of a channel is aborted (R381). -/
def State.epAbortCh (s : State) (c : Nat) : State :=
  [2 * c, 2 * c + 1].foldl (fun s sc => [0, 1].foldl (fun s rk => s.epAbort sc rk) s) s

/-- A rank's runs may go on: no directed scrub of one of its lines is outstanding, and no read of it is made again under R379 (its `retries`
is 1). -/
def State.epFree (s : State) (sc rk : Nat) : Bool :=
  !s.qes.any (fun q => q.loc.sc == sc && q.loc.rk == rk && (!q.wr && q.retries != 0 ||
    decide (0 < q.link) && (q.src == .scrub || q.src == .scrubWrite || q.src == .scrubVerify)))

/-- The runs of a channel go on after a pause: each rank's next run begins. -/
def State.epResume (s : State) (c : Nat) : State :=
  [2 * c, 2 * c + 1].foldl (fun s sc => [0, 1].foldl (fun s rk => if s.epFree sc rk then s.epBegin sc rk 24 else s) s) s

/-- The pass of a channel is given up, its marks cleared (R381). -/
def State.epDrop (s : State) (c : Nat) : State :=
  let s := [2 * c, 2 * c + 1].foldl (fun s sc => [0, 1].foldl (fun s rk => (s.epUnmark sc rk).dropTrain sc rk) s) s
  s.setEp c { s.ep c with running := false, ranks := [] }

end Sys2Proof.Machine
end

