-- ==== Sys2Proof/Machine/Data.lean ====
section
/-! DEFINITION. What issues at the pins: column commands with their data, mode register and refresh-class commands, and the
completion of writes (R20, R87, R214-R217, R290, R312, R391). -/

namespace Sys2Proof.Machine

open Sys2Proof

/-! ## Erasure slots (R280, R309, R310) -/

/-- The erased group plus one that a RD issued now will decode under. -/
def State.erNow (s : State) (sc rk : Nat) : Nat := match s.erase? (ersIdx sc rk) with | some e => e.grp + 1 | none => 0

/-! ## What a write stores -/

/-- R290: the armed injection is applied to a stored burst of its channel and subchannel: of any write of a line but a fill, a scrub's write-back and
the poison a scrub writes. -/
def State.inject (s : State) (q : QE) (b : Burst) : Burst × State :=
  let src := match q.src with | .fill | .scrubWrite | .train => false | .poisonWr => decide (q.link ≠ 0) | _ => true
  if s.flag Reg.ECCS_INJ_ARM && src && decide (q.again = 0) && decide (q.retries = 0) && decide (s.fld Reg.ECCS_INJ_CH = q.loc.ch) && decide (s.fld Reg.ECCS_INJ_SC = q.loc.sck) then
    let ps := (posOfGroup (s.fld Reg.ECCS_INJ_GROUP)).filter (· < 80)
    let b := (List.zip (List.range 8) ps).foldl (fun (b : Burst) kp =>
      if s.fbit Reg.ECCS_INJ_SYM kp.1 then b ^^^ BitVec.ofNat 640 (s.fld Reg.ECCS_INJ_XV <<< (8 * kp.2)) else b) b
    (b, (s.clr Reg.ECCS_INJ_ARM).set1 Reg.ECCS_EVT_INJ_DONE)
  else (b, s)

/-- A payload that its key is missing for is poison (R398). -/
def WPay.keyless : WPay → WPay
  | .buffer | .plain _ => .poison
  | p => p

/-- What a write entry stores at line `l` of a channel: plaintext is encrypted, then encoded with `l` (R20, R388). -/
def State.storedAt (s : State) (q : QE) (l : Nat) : Burst :=
  match (if q.key = keyGone then q.pay.keyless else q.pay) with
  | .buffer =>
    match s.wbuf.find? (fun w => w.rid == some q.rid && w.idx == q.idx) with
    | some w => encodeLine .normal (s.cipher true q.key q.host w.data) l
    | none => poisonBurst l
  | .plain d => encodeLine .normal (s.cipher true q.key q.host d) l
  | .stored b => b
  | .fill => fillBurst l
  | .poison | .none => poisonBurst l

/-- The buffered words of a line are checked when the drain pops it (R45, R53): an uncorrectable word makes the line poison. `more` gives
the bits that have flipped since the last check. -/
def State.checkPop (s : State) (q : QE) (more : LineData) : State :=
  if q.pay == .buffer then
    match s.wbuf.find? (fun w => w.rid == some q.rid && w.idx == q.idx) with
    | none => s
    | some w =>
      let u := w.upset ^^^ more
      let s := s.countWb u
      if upsetUe u then
        let open' := s.reqs.any (fun r => r.rid == q.rid && r.stage != .answered)
        let s := s.raise (if open' then 0x00 else 0x01) (portPlace q.port q.host)
        let s := s.mapReq q.rid (fun r => { r with wue := true })
        s.mapQEs (fun o => o.ofWrite && o.rid == q.rid && o.idx == q.idx) (fun o => { o with pay := .poison })
      else s.mapLines (fun x => x.rid == some q.rid && x.idx == q.idx) (fun x => { x with upset := 0 })
  else s

/-- A buffered line whose copies have all left the buffer is freed (R48). -/
def State.freeDrained (s : State) (rid idx : Nat) : State :=
  if s.qes.any (fun o => o.ofWrite && o.rid == rid && o.idx == idx && o.stage != .issued && (o.pay == .buffer || o.pay == .none)) then s
  else s.freeLines (fun w => w.rid == some rid && w.idx == idx)

/-- Command-clock distance within which a column command is replayed after a CA parity error (R256). -/
def Sub.remember (u : Sub) (i : Issue) (win : Nat) : Sub :=
  { u with recent := u.recent.filter (fun o => decide (i.slot ≤ o.slot + win)) ++ [i] }

/-- R184: the idle timer runs from a column command that leaves its row open, when the engine chose so by its policy, with the TMO of the entry it
read then; a candidate of the bank stops it. -/
def State.startIdle (s : State) (q : QE) (c : Cmd) : State :=
  let b := q.loc.eng
  match q.pol, c == .rd || c == .wr with
  | some p, true =>
    let s := s.mapQE q.tag (fun o => { o with pol := none })
    if !(s.bankCands q.loc.sc b).isEmpty then s
    else match s.gtmo (p % 8) with
    | some n => s.setEng b { s.eng b with idle := some (s.tempo + ns n) }
    | none => s
  | _, _ => s.mapQE q.tag (fun o => { o with pol := none })

/-- A write's WR issues: its burst leaves the pins, its alert window opens, its MIRROR_WRs leave (R23, R87, R147, R217, R312). -/
def State.issueWrite (s : State) (sc : Nat) (i : Issue) (more : LineData) : State :=
  match s.qe? i.tag with
  | none => s
  | some q0 =>
    let s := s.checkPop q0 more
    let q := (s.qe? i.tag).getD q0
    let b := s.storedAt q q.loc.l
    let far := q.far.map (fun f => (f, if f.2.2 = q.loc.l then b else s.storedAt q f.2.2))
    let s := s.mapQEs (fun o => o.rid == q.rid && o.idx == q.idx && o.ofWrite && q.ofWrite && o.loc.l == q.loc.l && o.tag != q.tag &&
      o.stage != .issued) (fun o => { o with pay := .stored b })
    let (b, s) := s.inject q b
    let s := s.mapQE q.tag (fun o => { o with stage := .issued, pay := .stored b, acks := o.acks + far.length, far := [] })
    let s := far.foldl (fun s (f : (Nat × Nat × Nat) × Burst) =>
      s.sendAwait 0x0B f.1.1 (f.1.2.1 + f.1.2.2 * 4) (flitsOf 5 f.2.toNat) q.tag) s
    let u := s.sub sc
    let s := s.setSub sc ({ u with alertWin := u.alertWin ++ [i] }.remember i (s.fld Reg.REFD_ALRT_PAR_WIN))
    let s := s.emit (.writeBurst sc b)
    let s := if q.ofWrite then s.freeDrained q.rid q.idx else s
    s.startIdle q i.cmd

/-- A read's RD issues: its window opens under the erasure slot as it stands now (R215, R280). -/
def State.issueRead (s : State) (sc : Nat) (i : Issue) : State :=
  let u := s.sub sc
  let i := { i with er := s.erNow sc i.rk }
  let s := s.setSub sc ({ u with reading := u.reading ++ [i] }.remember i (s.fld Reg.REFD_ALRT_PAR_WIN))
  match s.qe? i.tag with
  | none => s
  | some q => (s.mapQE q.tag (fun o => { o with stage := .issued })).startIdle q i.cmd

/-- A ZQCal Start or Latch issues (R223). -/
def State.zqIssued (s : State) (sc : Nat) (i : Issue) : State :=
  let u := s.sub sc
  if i.cmd = .zqs then
    let late := decide (2 * (1000000 * s.fld Reg.TIMG_ZQ_ZQ_INT) < (s.tempo - tget 0 u.zqStart i.rk).toNat)
    let s := if late && decide (tget 0 u.zqStart i.rk ≠ 0) then s.set1 Reg.TIMG_EVT_ZQ_LATE else s
    s.setSub sc { u with zqStart := tput 0 i.rk s.tempo u.zqStart, zqLatch := u.zqLatch.filter (· != i.rk) ++ [i.rk] }
  else s.setSub sc { u with zqLatch := u.zqLatch.filter (· != i.rk) }

/-- The accepted command with the earliest slot (R204). -/
def Sub.nextIssue (u : Sub) : Option Issue := best (fun a b => decide (a.slot < b.slot)) u.accepted

/-- COMMAND_ISSUE: the next accepted command of a subchannel issues at its slot (R214). -/
def State.issueNext (s : State) (sc : Nat) (more : LineData) : State :=
  match (s.sub sc).nextIssue with
  | none => s
  | some i =>
    let s := s.setSub sc { s.sub sc with accepted := (s.sub sc).accepted.erase i }
    let s := s.emit (sentCmd sc i.cmd i.rk i.bk i.row i.col)
    match i.cmd with
    | .rd | .rda => s.issueRead sc i
    | .wr | .wra => s.issueWrite sc i more
    | .mrr =>
      let u := s.sub sc
      s.setSub sc { u with reading := u.reading ++ [{ i with er := 0 }] }
    | .mrw => s.emit (.modeSet sc i.rk i.ma i.val)
    | .zqs | .zql => s.zqIssued sc i
    | .act | .pre | .preab | .refab | .refsb | .rfmab | .rfmsb | .sre | .srx => s

/-- R238: the poison or repair line written when a read of another entry asked for it, and other writes of the tile's own, once issued:
the entry is freed. A scrub write-back is followed by its verify read (R282), a repair write by its read-back (R313). -/
def State.ownIssued (s : State) (q : QE) : State :=
  let s := s.dropQE q.tag
  match q.src with
  | .scrubWrite => s.addQEAt { mkQE false .scrubVerify q.loc q.eff with age := q.age, link := q.link, grp := q.grp }
  | .repairWr => s.addQEAt { mkQE false .repairVerify q.loc q.eff with age := q.age, link := 1 }
  | .mirrorWr t m => s.send 0x0C t m []
  | _ => s

/-- A write counts as issued at its own place (R87): a host write waits for its copies, a copy completes its write. -/
def State.writeIssued (s : State) (q : QE) : State :=
  match q.src with
  | .host => (s.mapQE q.tag (fun o => { o with done := true })).sweep
  | .second | .dup => (s.dropQE q.tag).sweep
  | _ => s.ownIssued q

end Sys2Proof.Machine
end

