-- ==== Sys2Proof/Machine/Direct.lean ====
section
/-! DEFINITION. Commands of the tile's own sequences: each passes through its lattice, ahead of the window, and ticks pass until the lattice has
taken it; and self-refresh entry (R204, R225, R255). -/

namespace Sys2Proof.Machine

open Sys2Proof

/-- CK cycles of a DRAM clock in nanoseconds, rounded up: at RATE hundred MT/s a cycle lasts 20 / RATE ns, twice that for the DRAM of an MRDIMM
(R200). -/
def State.ckNs (s : State) (n : Nat) : Nat :=
  let r := max 1 (s.fld Reg.TIMG_MODE_RATE)
  ((if s.mrdimm then 40 else 20) * n + r - 1) / r

/-- Nanoseconds in CK cycles, rounded up. -/
def State.nsCk (s : State) (n : Nat) : Nat :=
  let d := if s.mrdimm then 40 else 20
  (n * s.fld Reg.TIMG_MODE_RATE + d - 1) / d

/-- The accepted commands of a subchannel issue. -/
def State.issueAll (s : State) (sc : Nat) : State := (s.sub sc).accepted.foldl (fun s _ => s.issueNext sc 0) s

/-- A step of a sequence still waits in its lattice. -/
def Sub.waits (u : Sub) (rk why : Nat) : Bool := u.seqs.any (fun q => q.rk == rk && q.why == why)

/-- Ticks in which nothing waits but one sequence decide nothing until its counters permit its next step: they pass. -/
def State.skipIdle (s : State) (sc rk why : Nat) : State :=
  let u := s.sub sc
  if !u.window.isEmpty || u.seqs.any (fun q => q.rk != rk || q.why != why) then s
  else match u.seqs with
  | [] => s
  | q :: _ =>
    let lim := match q.cmd with
      | some c => let l := limits s.timg u c q.rk q.bk; max l.1 (max l.2.1 l.2.2)
      | none => 0
    s.setSub sc { u with tick := max u.tick (max (q.start.getD 0) lim / 4 - 2) }

/-- Ticks pass until the lattice has taken every step of a sequence. -/
def State.tickUntil (s : State) (sc rk why : Nat) : Nat → State
  | 0 => s
  | fuel + 1 => if (s.sub sc).waits rk why then ((s.skipIdle sc rk why).latticeTick sc).tickUntil sc rk why fuel else s

/-- A command of the tile's own sequences: it is considered ahead of the window in each decision, from slot `start` on, and once taken it issues,
after those accepted for earlier slots. What it carries or returns is part of its sequence. -/
def State.directFrom (s : State) (sc start : Nat) (c : Cmd) (rk bk row col tag ma val : Nat) : State :=
  let s := s.setSub sc { s.sub sc with seqs := (s.sub sc).seqs ++ [⟨some c, rk, bk, row, col, tag, 0, some start, ma, val, 3⟩] }
  let s := s.tickUntil sc rk 3 4096
  match (s.sub sc).accepted.find? (fun i => i.cmd == c && i.rk == rk && i.bk == bk && i.row == row && i.col == col && i.tag == tag) with
  | none => s
  | some i =>
    let s := ((s.sub sc).accepted.filter (fun o => decide (o.slot < i.slot))).foldl (fun s _ => s.issueNext sc 0) s
    let u := s.sub sc
    let s := (s.setSub sc { u with accepted := u.accepted.erase i }).emit (sentCmd sc c rk bk row col)
    match c with
    | .zqs | .zql => s.zqIssued sc i
    | _ => s

/-- The same, as soon as its counters permit. -/
def State.directAt (s : State) (sc : Nat) (c : Cmd) (rk bk row col tag ma val : Nat) : State := s.directFrom sc 0 c rk bk row col tag ma val

/-- The same for a command without a column. -/
def State.directCmd (s : State) (sc : Nat) (c : Cmd) (rk bk row tag ma val : Nat) : State := s.directAt sc c rk bk row 0 tag ma val

/-- Ticks pass until the lattice has come to a slot. -/
def State.tickTo (s : State) (sc x : Nat) : Nat → State
  | 0 => s
  | fuel + 1 =>
    let u := s.sub sc
    if x ≤ 4 * u.tick then s
    else if u.window.isEmpty && u.seqs.isEmpty then s.setSub sc { u with tick := (x + 3) / 4 }
    else (s.latticeTick sc).tickTo sc x fuel

/-- PREab where a bank of the rank is open; its engines are told. -/
def State.closeRank (s : State) (sc rk : Nat) : State :=
  if (rankBanks rk).any (fun k => decide (tget 0 (s.sub sc).rowOf k ≠ 0)) then s.directCmd sc .preab rk 0 0 seqTag 0 0 else s

/-- Close a bank; its engine is told. -/
def State.closeBank (s : State) (sc rk bk : Nat) : State :=
  let o := tget 0 (s.sub sc).rowOf (bankKey rk bk)
  (if o = 0 then s else s.directCmd sc .pre rk bk (o - 1) seqTag 0 0).closeNotice (engOf sc rk bk)

/-! ## Self-refresh entry (R225) -/

/-- The slot after the last data window of a rank: of reads in flight and writes whose alert windows are open. -/
def State.dataEnd (s : State) (sc rk : Nat) : Nat :=
  let u := s.sub sc
  let t := s.timg
  ((u.reading ++ u.alertWin).filter (fun i => i.rk == rk)).foldl (fun m i => max m (i.slot + t.winStart i.cmd.isWr + t.winLen)) 0

/-- A ZQCal Latch still owed issues tZQCAL after its Start. -/
def State.oweLatch (s : State) (sc rk : Nat) : State :=
  let u := s.sub sc
  if !u.zqLatch.contains rk then s
  else s.directFrom sc (4 * u.tick + s.nsCk (s.fld Reg.TIMG_ZQ_ZQCAL - (s.tempo - tget 0 u.zqStart rk).toNat)) .zql rk 0 0 0 seqTag 0 0

/-- A rank enters self-refresh: a ZQCal Latch still owed issues, and tZQLAT passes; PREab once every bank permits it and the last data window is
over; SRE tRP later; tCPDED after that CA and CS_n go to the retention drivers. The slot of the SRE is answered too. -/
def State.enterSr (s : State) (sc rk : Nat) : State × Nat :=
  let t := s.timg
  let s := s.oweLatch sc rk
  let u := s.sub sc
  let s := s.setSub sc { u with seqs := u.seqs ++
    [seqStep (some .preab) rk 0 (some (max (s.dataEnd sc rk) (tget 0 u.zqDone rk))) 4, seqStep (some .sre) rk t.rp none 4] }
  let s := s.tickUntil sc rk 4 4096
  let x := match (s.sub sc).accepted.find? (fun i => i.cmd == .sre && i.rk == rk) with | some i => i.slot | none => 0
  ((s.issueAll sc).emit (.retention sc rk (x + t.cpded)), x)

/-- An MRW sequence under way ends; steps that no slot has been given to are dropped (R221). -/
def State.quietSeqs (s : State) (sc rk : Nat) : State :=
  let s := s.tickUntil sc rk 0 64
  s.setSub sc { s.sub sc with seqs := (s.sub sc).seqs.filter (fun q => q.rk != rk) }

/-- Raise a hold on every rank of a channel's lattices (R207, R316, R338). -/
def State.holdChannel (s : State) (c : Nat) : State :=
  (List.range 2).foldl (fun s k => s.setSub (2 * c + k) { s.sub (2 * c + k) with holds := (s.sub (2 * c + k)).holds ++ [0, 1] }) s

/-- Lower it again. -/
def State.releaseChannel (s : State) (c : Nat) : State :=
  (List.range 2).foldl (fun s k => s.setSub (2 * c + k) (((s.sub (2 * c + k)).lower 0).lower 1)) s

/-- Every awake rank of a channel enters self-refresh: the hold is raised, accepted commands issue, and CK stops tCKLCS after the last SRE of both
subchannels (R225). -/
def State.channelSr (s : State) (c : Nat) : State :=
  let s := s.holdChannel c
  let awake (s : State) (sc : Nat) : List Nat := (s.ranks c).filter (fun rk => !(s.sub sc).asleep.contains rk)
  let s := [2 * c, 2 * c + 1].foldl (fun s sc => ((awake s sc).foldl (fun s rk => s.quietSeqs sc rk) s).issueAll sc) s
  let r := [2 * c, 2 * c + 1].foldl (fun (r : State × Nat) sc => (awake r.1 sc).foldl (fun r rk =>
    let r' := r.1.enterSr sc rk
    (r'.1, max r.2 r'.2)) r) (s, 0)
  if r.2 = 0 then r.1 else r.1.emit (.ckStop c (r.2 + s.timg.cklcs))

end Sys2Proof.Machine
end

