-- ==== Sys2Proof/Machine/Repair.lean ====
section
/-! DEFINITION. Repair: DEGRADED, erasure marks, failing rows and their proposals, the remap table, failed channels and Castling
(R280, R304-R321). -/

namespace Sys2Proof.Machine

open Sys2Proof

/-! ## DEGRADED (R5, R311) -/

/-- A reason for DEGRADED arises: its RPMR_DGRSN bit, and the mode where the tile serves. A tile asleep takes it up on waking, one in
BRINGUP at MEM_READY. -/
def State.degrade (s : State) (bit : Nat) : State :=
  let s := s.setFld ⟨0x15, 0x050, 3, 0⟩ (s.fld ⟨0x15, 0x050, 3, 0⟩ ||| 2 ^ bit)
  match s.mode with
  | .service => s.setMode .degraded
  | .sleep => if s.sleepFrom = .service then { s with sleepFrom := .degraded } else s
  | _ => s

/-! ## Erasure slots (R280, R309, R310) -/

/-! ## Rows: suspects, proposals, remap (R304-R308) -/

def Loc.rowId (x : Loc) : RowId := ⟨x.ch, x.sck, x.rk, x.bk, x.row⟩

/-- Place of a row in the PPR list: RPMR_PPRW0 of some entry names it (R304). -/
def State.inPprList (s : State) (r : RowId) : Bool :=
  (List.range (min 64 (s.fld Reg.RPMR_PPRIDX_NENT))).any (fun n =>
    tget 0 s.tabs (0x20000 + 2 * n) == r.ch * 2 ^ 30 + r.sck * 2 ^ 29 + r.rk * 2 ^ 28 + r.bk * 2 ^ 23 + r.row)

/-- R304: propose a row for the PPR list. -/
def State.propose (s : State) (r : RowId) (reason mask : Nat) : State :=
  if s.inPprList r then s
  else match (List.range 16).find? (fun i => (tget none s.repair.props i).isNone) with
    | none => s.set1 Reg.RPMR_EVT_PROP_OVF
    | some i =>
      { s with repair := { s.repair with props := tput none i (some ⟨r, reason, mask⟩) s.repair.props } }.set1 Reg.RPMR_EVT_PROP

/-- The remap entry that redirects a row, valid. -/
def State.remapOf (s : State) (r : RowId) : Option Remap :=
  (s.repair.remap.filterMap (·.2)).find? (fun m => m.vld && m.id == r)

/-- Row of spare index i (R306). -/
def State.spareRow (s : State) (c i : Nat) : Nat := 2 ^ (s.chDec c).rowBits - 2 - i

/-- The row that holds a remapped row's lines: the spare row, or the row copied from until the copy is over (R306, R307). -/
def State.rowNow (s : State) (m : Remap) : Nat := if m.copy then m.src else s.spareRow m.id.ch m.spare

/-- The row an ACT for a location names: the spare row of a redirected row (R306). -/
def State.physRow (s : State) (x : Loc) : Nat :=
  match s.remapOf x.rowId with
  | some m => s.rowNow m
  | none => x.row

/-- The row the map gives for a row of the DRAM: of a spare row in use, the row it stands for (R307). -/
def State.rowFor (s : State) (r : RowId) : RowId :=
  match (s.repair.remap.filterMap (·.2)).find? (fun m => m.vld && { m.id with row := s.rowNow m } == r) with
  | some m => m.id
  | none => r

/-- Give up the row copies of the channels `which` (R321): a row copied for the second time stays in the spare row it was copied from, unless
its entry is to be freed; any other entry is freed. -/
def State.dropCopies (s : State) (which : Nat → Bool) (keep : Bool) : State :=
  let back (m : Remap) : Option Remap :=
    if !(m.copy && which m.id.ch) then some m
    else if keep && m.vld then some { m with copy := false, spare := 2 ^ (s.chDec m.id.ch).rowBits - 2 - m.src }
    else none
  { s with repair := { s.repair with remap := s.repair.remap.filterMap (fun e =>
      (e.2.bind back).map (fun m => (e.1, some m))) } }

/-- The device mask of a lane group, or every device (R329). -/
def State.devMask (s : State) (ch : Nat) (g : Option Nat) : Nat :=
  match g with
  | none => 0x3FF
  | some g => if s.flag (Reg.CHN_CFG_X8 ch) then 2 ^ (g / 2) else 2 ^ g

/-- The lowest spare index of a bank not in use nor spent (R306, R307). -/
def State.freeSpare (s : State) (r : RowId) : Option Nat :=
  (List.range (s.chDec r.ch).spare).find? (fun i =>
    let row := s.spareRow r.ch i
    !s.repair.spent.contains { r with row := row } &&
    !(s.repair.remap.filterMap (·.2)).any (fun m => m.id.ch == r.ch && m.id.sck == r.sck && m.id.rk == r.rk && m.id.bk == r.bk && m.spare == i))

/-- RPMR_RMREQ.GO reads 1 while the copy of the row it named runs. -/
def State.rmGoEnd (s : State) : State :=
  let r : RowId := ⟨s.fld Reg.RPMR_RMREQ_CH, s.fld Reg.RPMR_RMREQ_SC, s.fld Reg.RPMR_RMREQ_RK, s.fld Reg.RPMR_RMREQ_BANK, s.fld Reg.RPMR_RMREQ_ROW⟩
  if (s.repair.remap.filterMap (·.2)).any (fun m => m.id == r && m.copy) then s else s.clr Reg.RPMR_RMREQ_GO

/-- A row becomes failing (R305): remap it where its channel is critical, and propose it (R304, R306-R308). `r` names the row the map
gives; a spare row in use is named by the row it stands for (R307). -/
def State.rowFails (s : State) (r : RowId) (mask : Nat) : State :=
  if !(s.fbit Reg.RPMR_CFG_CRIT r.ch) || !s.flag Reg.RPMR_CFG_RM_EN then s.propose r 2 mask
  else if (s.repair.remap.filterMap (·.2)).any (fun m => m.id == r && m.copy) then s
  else
    let old := (List.range 16).find? (fun i => match tget none s.repair.remap i with | some m => m.id == r | none => false)
    let ent := match old with | some i => some i | none => (List.range 16).find? (fun i => (tget none s.repair.remap i).isNone)
    match ent, s.freeSpare r with
    | some i, some sp =>
      let source := match tget none s.repair.remap i with | some m => s.rowNow m | none => r.row
      let spent := match tget none s.repair.remap i with
        | some m => [{ r with row := s.rowNow m }]
        | none => []
      let s : State := { s with repair := { s.repair with
        remap := tput none i (some ⟨r, sp, old.isSome, true, source⟩) s.repair.remap
        spent := s.repair.spent ++ spent } }
      s.withdraw (fun q => q.loc.ch == r.ch && q.loc.sck == r.sck && q.loc.rk == r.rk && q.loc.bk == r.bk)
    | _, _ =>
      let s := if (s.chDec r.ch).spare = 0 then s
        else ((s.bump Reg.RPMR_CNT1_RMREF).set1 Reg.RPMR_EVT_RM_REFUSED).degrade 2
      s.propose r 4 mask

/-- R305: a charge enters the suspect list, under the row of the DRAM that was charged (R307, log entry 100); a count at ROWTHR makes the row
failing. -/
def State.suspect (s : State) (r : RowId) (g : Nat) : State :=
  let old := s.repair.suspects.find? (fun x => x.id == r)
  let n := match old with | some x => x.count + 1 | none => 1
  let gs := match old with | some x => (x.grps ++ [g]).dedup | none => [g]
  let rest := s.repair.suspects.filter (fun x => x.id != r)
  let rest := if rest.length < 8 then rest else rest.drop 1
  let s : State := { s with repair := { s.repair with suspects := rest ++ [⟨r, n, gs⟩] } }
  if max 1 (s.fld Reg.RPMR_CFG_ROWTHR) ≤ n then s.rowFails (s.rowFor r) (gs.foldl (fun m g => m ||| s.devMask r.ch (some g)) 0) else s

/-! ## Failed channels and Castling (R316-R319) -/

/-- Entries of the current map with a share on channel `c` of this tile: mirror modes, as primary, and as the within-tile secondary. -/
def State.sharesOf (s : State) (c : Nat) : List MapEntry :=
  ((List.range 16).map s.entry).filter (fun m => m.vld && m.used.any (fun t => t == (s.tileNo, c)))

def State.secondSharesOf (s : State) (c : Nat) : List MapEntry :=
  ((List.range 16).map s.entry).filter (fun m => m.vld && decide (m.mirror = 1) && m.used.any (fun t => t == (s.tileNo, c ^^^ 1)))

/-- A channel's patrol scrubber. -/
def scrub0 : Scrub := ⟨false, 0, 0, false, 0⟩
def State.scrubOf (s : State) (c : Nat) : Scrub := tget scrub0 s.repair.scrub c
def State.setScrub (s : State) (c : Nat) (x : Scrub) : State :=
  { s with repair := { s.repair with scrub := tput scrub0 c x s.repair.scrub } }

def State.track? (s : State) (i : Nat) : Option Track := tget none s.repair.track i
def State.setTrack (s : State) (i : Nat) (x : Option Track) : State :=
  { s with repair := { s.repair with track := tput none i x s.repair.track } }

/-- The tracker entry of a line (R286). -/
def State.trackOf (s : State) (c l : Nat) : Option (Nat × Track) :=
  (List.range 32).findSome? (fun i => match s.track? i with | some t => if t.ch = c ∧ t.l = l then some (i, t) else none | none => none)

/-- Free the tracker entry of a line, if it has one. -/
def State.freeTrack (s : State) (c l : Nat) : State := match s.trackOf c l with | some (i, _) => s.setTrack i none | none => s

/-- The tile's own accesses to a channel that stops are given up: a scrub counts as skipped, a repair's first read is made again, a
migration's line is looked at again; accesses for other tiles stay unanswered (R155, R321). -/
def State.dropOwn (s : State) (c : Nat) : State :=
  let own (q : QE) : Bool := q.loc.ch == c && !q.ofWrite && q.src != .host
  let gone := s.qes.filter own
  let s : State := { s with qes := s.qes.filter (fun q => !own q) }
  gone.foldl (fun s q =>
    match q.src with
    | .scrub | .scrubWrite | .scrubVerify =>
      if q.link = 0 then s.setScrub c { s.scrubOf c with busy := false } else s.freeTrack q.loc.ch q.loc.l
    | .repairRd => s.mapQE q.link (fun o => { o with held := false, stage := .wait, again := 0, judged := false, e := 0 })
    | .migRd | .migWr =>
      match s.mig with
      | some m => { s with mig := some { m with busy := false, next := m.cur } }
      | none => s
    | _ => s) s

/-- A channel's DRAM goes to self-refresh, where `intact` says that its command path works, and its lattices stop (R225, R317, R320). Its PHY is
unpowered: no PLL, no temperature sensor (R334, R342). -/
def State.stopChannel (s : State) (c : Nat) (intact : Bool) : State :=
  let begun := (s.phy c).phase == .training || (s.phy c).phase == .passed
  let s := if intact && begun then s.channelSr c else s
  let s := (s.setPhy c { s.phy c with pll := .off, relock := 0, samples := [] }).setFlds [(Reg.CHN_PLL_LOCK c, 0), (Reg.CHN_TEMP_VALID c, 0)]
  let s := (s.dropOwn c).epDrop c
  let s := if s.flag Reg.TIMG_MRCMD_GO && decide (s.fld Reg.TIMG_MRCMD_CH = c) then (s.clr Reg.TIMG_MRCMD_GO).set1 Reg.TIMG_EVT_MR_ABORT else s
  (List.range 2).foldl (fun s k =>
    let sc := 2 * c + k
    let u := s.sub sc
    let s := s.setSub sc { u with
      window := []
      seqs := []
      accepted := []
      verdicts := []
      reading := []
      alertWin := []
      maint := []
      parWait := []
      holds := [0, 1]
      asleep := if intact then [0, 1] else u.asleep
      rowOf := [] }
    (List.range 64).foldl (fun s i =>
      let b := 64 * sc + i
      s.setEng b { s.eng b with row := none, shut := none, e := 0, idle := none, outstanding := false }) s) s

/-- Reads of mirrored lines whose primary is channel `c` are served from the secondary (R316, R317 step 2); with `all`, those already
accepted too. -/
def State.redirectReads (s : State) (c : Nat) (all : Bool) : State :=
  let mine (q : QE) : Bool := q.loc.ch == c && q.mir == 1 && !q.wr && !(q.held && q.again == 2)
  let s := s.withdraw mine
  s.mapQEs (fun q => mine q && (all || q.stage == .wait)) (fun q =>
    let x := s.locOf (c ^^^ 1) q.loc.l
    { q with loc := { x with row := s.physRow x }, stage := .wait, held := false, judged := false, e := 0 })

/-- Requests waiting for a failed channel move to the surviving copy in their grant order (R317 step 2). Secondary copies due on the
failed channel count as issued; of its primaries, the secondary write stands for both. -/
def State.moveToPartner (s : State) (c : Nat) : State :=
  let p := c ^^^ 1
  let s : State := { s with qes := s.qes.filter (fun q => !(q.loc.ch == c && q.src == .second)) }
  let s := s.redirectReads c true
  let mine (q : QE) : Bool := q.loc.ch == c && q.mir == 1 && q.wr
  let (secs, rest) := s.qes.partition (fun q => q.src == .second && q.loc.ch == p)
  let s : State := { s with qes := rest }
  let tagOf (t : Nat) : Nat := match secs.find? (fun x => x.link == t) with | some x => x.tag | none => t
  let s := s.mapQEs mine (fun q =>
    match secs.find? (fun x => x.link == q.tag) with
    | some x => { x with
        src := .host, link := 0, mir := 0, mtile := q.mtile, acks := q.acks, far := q.far,
        pay := if x.stage == .issued then x.pay else q.pay }
    | none => let x := s.locOf p q.loc.l
      { q with loc := { x with row := s.physRow x }, mir := 0, done := true })
  let s := s.mapQEs (fun q => q.src == .dup) (fun q => { q with link := tagOf q.link })
  let s : State := { s with ring := { s.ring with awaits := s.ring.awaits.map (fun a => { a with forWhat := tagOf a.forWhat }) } }
  s.sweep

/-- Answer UE to every queued host read of a channel and withdraw its other entries (R318). -/
def State.loseChannel (s : State) (c : Nat) (which : QE → Bool) : State :=
  let gone := s.qes.filter (fun q => q.loc.ch == c && which q)
  let s : State := { s with qes := s.qes.filter (fun q => !(q.loc.ch == c && which q)) }
  let s := gone.foldl (fun s q =>
    if q.src == .host then
      match s.req? q.rid with
      | some r => if !q.wr && r.stage == .queued && (r.op == .rd || r.op == .rdl) then s.respond r q.idx .ue false zeroLine
                  else if r.stage == .queued && !q.wr then s.answer r.rid .ue else s
      | none => s
    else s) s
  (s.freeLines (fun w => gone.any (fun q => q.wr && q.src == .host && w.rid == some q.rid && w.idx == q.idx))).checkFlush

/-- A channel's failure is settled: it waits no longer (R321). -/
def State.clearFailing (s : State) (c : Nat) : State :=
  { s with repair := { s.repair with
      failing := s.repair.failing.filter (· != c)
      asked := s.repair.asked.filter (· != c) } }

/-- Requests of a failed channel whose lines are mirrored across tiles wait for the proxy (R319); a write already issued stands in the
peer's copy alone. -/
def State.moveToProxy (s : State) (c : Nat) : State :=
  let s := s.mapQEs (fun q => q.loc.ch == c && q.mir == 2 && q.src == .host && !(q.held && q.again == 2)) (fun q =>
    if q.wr && q.stage == .issued then { q with done := true } else { q with stage := .wait, judged := false, e := 0 })
  s.sweep

/-- Castling of channel `c` (R317), or the proxy of R319 for an entry mirrored across tiles. -/
def State.castle (s : State) (c : Nat) (intact : Bool) : State :=
  let within := (s.sharesOf c ++ s.secondSharesOf c).any (fun m => decide (m.mirror = 1))
  let s := s.setChState c 2
  let s := if within then s.setChState (c ^^^ 1) 1 else s
  let s := s.clearFailing c
  let s : State := { s with repair := { s.repair with away := s.repair.away.filter (fun x => x.1 != c && x.1 != c ^^^ 1) } }
  let s := (s.moveToPartner c).moveToProxy c
  let s := s.stopChannel c intact
  ((s.raise 0x1E (atChan c)).set1 Reg.RPMR_EVT_CASTLED).degrade 1

/-- R318: a failed channel with a share that is not mirrored. -/
def State.chanLost (s : State) (c : Nat) (intact : Bool) : State :=
  let s := s.setChState c 2
  let s := s.clearFailing c
  let s := ((s.set1 Reg.RPMR_EVT_CHFAIL).raise 0x20 (atChan c)).degrade 3
  let s := s.loseChannel c (fun q => q.mir == 0)
  s.stopChannel c intact

/-- R321: a channel fails while one of its rows is being copied: the copy is abandoned and its remap entry freed. -/
def State.abandonCopies (s : State) (c : Nat) : State :=
  (s.dropCopies (· == c) false).rmGoEnd

/-- R317, R318 for a channel that has failed: Castling where its partner is NORMAL and it may, CASTLE_WAIT where it may not yet, and the
loss of its shares that are not mirrored. -/
def State.settleFailure (s : State) (c : Nat) (intact : Bool) : State :=
  let shares := s.sharesOf c ++ s.secondSharesOf c
  let plain := shares.any (fun m => decide (m.mirror = 0))
  let within := shares.any (fun m => decide (m.mirror = 1))
  let across := shares.any (fun m => decide (m.mirror = 2))
  let partnerOk := decide (s.chState (c ^^^ 1) = 0)
  if (within && partnerOk) || across then
    if s.flag Reg.RPMR_CFG_AUTO_CASTLE || s.repair.asked.contains c then
      let s := s.castle c intact
      if plain then (((s.set1 Reg.RPMR_EVT_CHFAIL).raise 0x20 (atChan c)).degrade 3).loseChannel c (fun q => q.mir == 0) else s
    else s.raise 0x1F (atChan c)
  else if within then (s.chanLost c intact).loseChannel c (fun _ => true)
  else s.chanLost c intact

/-- R316: a channel has failed. Its lattices are held, and commands they have accepted still issue (R207); a second report of a channel already failed changes nothing. -/
def State.chanFails (s : State) (c : Nat) (intact : Bool) : State :=
  if !s.chUp c then s
  else
    let s := if s.repair.failing.contains c then s
      else { s with repair := { s.repair with failing := s.repair.failing ++ [c] } }.holdChannel c
    let s := if intact then [2 * c, 2 * c + 1].foldl (fun s sc => s.issueAll sc) s else s
    ((s.abandonCopies c).redirectReads c false).settleFailure c intact

/-! ## Permanent erasure (R309, R310) -/

/-- Mark a lane group erased for good: the slot, a class C record, ERASED, the rows proposed, and DEGRADED. -/
def State.markErased (s : State) (i g : Nat) : State :=
  let sc := i / 2
  let s := (s.setErase i (some ⟨0, g⟩)).raise 0x1A (atBank (sc / 2) (sc % 2) (i % 2) g 0)
  let s := s.set1 Reg.RPMR_EVT_ERASED
  let rows := s.repair.suspects.filter (fun x => x.id.ch == sc / 2 && x.id.sck == sc % 2 && x.id.rk == i % 2 && x.grps.contains g)
  (rows.foldl (fun s x => s.propose (s.rowFor x.id) 3 (s.devMask x.id.ch (some g))) s).degrade 0

/-- A request to mark group `g` in slot `i`: from a device count over its threshold or from RPMR_ERSREQ. -/
def State.eraseRequest (s : State) (i g : Nat) : State :=
  let c := i / 4
  if !s.chUp c ∨ 9 < g then s
  else match s.erase? i with
  | none => ((s.epAbort (i / 2) (i % 2)).markErased i g).epBegin (i / 2) (i % 2) 24
  | some e =>
    if e.src = 1 then
      (((s.set1 Reg.ECCS_EVT_ERS_BUSY).epAbort (i / 2) (i % 2)).markErased i g).epBegin (i / 2) (i % 2) 24
    else if e.grp = g then s.set1 Reg.ECCS_EVT_ERS_BUSY
    else ((s.set1 Reg.ECCS_EVT_ERS_BUSY).set1 Reg.RPMR_EVT_SECOND_DEV).chanFails c true

/-- R316: a read repair is counted towards RRTHR within any 1 ms. -/
def State.countRepair (s : State) (c : Nat) : State :=
  let recent := s.repair.repairs.filter (fun p => decide ((s.tempo - p.2).toNat ≤ 1000000)) ++ [(c, s.tempo)]
  let s : State := { s with repair := { s.repair with repairs := recent } }
  if max 1 (s.fld Reg.RPMR_MCFG_RRTHR) ≤ (recent.filter (fun p => p.1 == c)).length then s.chanFails c true else s

/-- R288, R289: charge a lane group; the row becomes a suspect, and a count at THR is reported to R309. -/
def State.charge (s : State) (x : Loc) (g : Nat) : State :=
  let i := ersIdx x.sc x.rk
  let k := 16 * i + g
  let n := min 255 (tget 0 s.repair.devCnt k + 1)
  let s : State := { s with repair := { s.repair with devCnt := tput 0 k n s.repair.devCnt } }.raise 0x17 (atLoc x g)
  let s := s.suspect x.rowId g
  if n = max 1 (s.fld Reg.ECCS_DEVCFG_THR) then (s.set1 Reg.ECCS_EVT_DEV_OVER).eraseRequest i g else s

end Sys2Proof.Machine
end

