-- ==== Sys2Proof/Machine/Integrity.lean ====
section
/-! DEFINITION. What a read brings about: answers, merges, the repeat tracker, scrubs, read repair (R24, R98, R99, R277-R289, R313-R315). -/

namespace Sys2Proof.Machine

open Sys2Proof

/-! ## Merges (R24, R98) -/

/-- Bytes of `new` where the mask bit is 1, of `old` elsewhere. -/
def mergeMask (mask : BitVec 64) (old new : LineData) : LineData :=
  let m : LineData := BitVec.ofNat 512 ((List.range 64).foldl (fun a k => if mask.getLsbD k then a + 0xFF * 2 ^ (8 * k) else a) 0)
  (new &&& m) ||| (old &&& ~~~m)

/-- Word `w` of a line. -/
def wordAt (d : LineData) (w : BitVec 3) : BitVec 64 := BitVec.ofNat 64 (d.toNat >>> (64 * w.toNat))

/-- A line with word `w` replaced. -/
def putWord (d : LineData) (w : BitVec 3) (v : BitVec 64) : LineData :=
  let m : LineData := BitVec.ofNat 512 ((2 ^ 64 - 1) <<< (64 * w.toNat))
  (d &&& ~~~m) ||| BitVec.ofNat 512 (v.toNat <<< (64 * w.toNat))

/-- The new word of an atomic (R98). -/
def atomicNew (op : Op) (old operand mask : BitVec 64) : BitVec 64 :=
  match op with
  | .afadd => old + operand
  | .aswp => operand
  | .acas => if old = mask then operand else old
  | .aor => old ||| operand
  | .aand => old &&& operand
  | _ => old

/-! ## Answering a read's line -/

/-- Give up the write entries of a read-modify-write (R24): nothing is to be written. -/
def State.withdrawWrite (s : State) (rid : Nat) : State :=
  let gone := s.qes.filter (fun q => q.rid == rid && q.ofWrite)
  let s : State := { s with qes := s.qes.filter (fun q => !(q.rid == rid && q.ofWrite)) }
  if gone.isEmpty then s.freeLines (fun w => w.rid == some rid) else (s.freeLines (fun w => w.rid == some rid)).checkFlush

/-- The write entries of a request are to write this; where their key is gone, poison (R398). -/
def State.setPay (s : State) (rid : Nat) (p : WPay) : State :=
  let s := match s.qes.find? (fun q => q.rid == rid && q.ofWrite && q.key == keyGone && p != p.keyless) with
    | some q => s.lostKey q.port q.host
    | none => s
  s.mapQEs (fun q => q.rid == rid && q.ofWrite) (fun q => { q with pay := if q.key = keyGone then p.keyless else p })

/-- The outcome of one line's read for its request: an RD or RDL line is answered; a WRP or an atomic is merged or not (R24, R99).
`data` is plaintext. -/
def State.finishRead (s : State) (q : QE) (st : Status) (data : LineData) : State :=
  let s := s.dropQE q.tag
  match s.req? q.rid with
  | none => s
  | some r =>
    if r.stage == .answered then s
    else if r.op == .rd || r.op == .rdl then s.respond r q.idx st false data
    else
      match st with
      | .ok | .okFixed =>
        if r.op == .wrp then
          match s.wbuf.find? (fun w => w.rid == some r.rid) with
          | none => s
          | some w =>
            let s := s.countWb w.upset
            if upsetUe w.upset then
              let s := s.raise 0x00 (portPlace q.port q.host)
              (s.setPay r.rid .poison).answerData r.rid .ue zeroLine
            else
              let s := s.mapLines (fun w => w.rid == some r.rid) (fun w => { w with data := mergeMask r.flit.mask data w.data, upset := 0 })
              (s.setPay r.rid .buffer).answerData r.rid .ok zeroLine
        else
          let old := wordAt data r.flit.wsel
          let line := putWord data r.flit.wsel (atomicNew r.op old r.flit.operand r.flit.mask)
          (s.setPay r.rid (.plain line)).answerData r.rid .ok (BitVec.ofNat 512 old.toNat)
      | .ue => (s.setPay r.rid .poison).answerData r.rid .ue zeroLine
      | st => (s.withdrawWrite r.rid).answerData r.rid st zeroLine

/-! ## The repeat tracker (R286, R287) -/

/-- Tracker entries older than WIN are freed (R286). -/
def State.expireTracks (s : State) : State :=
  (List.range 32).foldl (fun s i => match s.track? i with
    | some t => if 1000000 * s.fld Reg.ECCS_RPT_WIN < (s.tempo - t.start).toNat then s.setTrack i none else s
    | none => s) s

/-- A host's write, here or for another tile, on whichever copy. -/
def QE.hostWrite (q : QE) : Bool := q.wr && (match q.src with | .host | .second | .dup | .mirrorWr _ _ => true | _ => false)

/-- A locked line lies in a channel at `l`: at its place of the map, or in its copy on the paired channel. -/
def State.lockedAt (s : State) (line : HLine) (c l : Nat) : Bool :=
  match s.lookup line with
  | .here _ m c' l' => (c' == c || (decide (m.mirror = 1) && c' ^^^ 1 == c)) && l' == l
  | _ => false

/-- The line is busy for a scrub: a pending host write, a lock, or a read-modify-write in progress (R282 step 1). -/
def State.scrubSkips (s : State) (x : Loc) : Bool :=
  s.qes.any (fun q => (q.hostWrite || s.readsToMerge q) && q.loc.ch == x.ch && q.loc.l == x.l) ||
  s.locks.any (fun e => match e.2 with | some l => s.lockedAt l.line x.ch x.l | none => false)

/-- The line's location with a remapped row redirected (R306). -/
def State.placeOf (s : State) (c l : Nat) : Loc := let x := s.locOf c l; { x with row := s.physRow x }

/-- A directed scrub of a tracked line (R287): skipped at once, or its read is placed with a deadline 10 µs away. -/
def State.directedScrub (s : State) (i : Nat) (t : Track) : State :=
  let s := s.bump Reg.ECCS_CNT3_DIRECT
  let x := s.placeOf t.ch t.l
  if s.scrubSkips x then s.setTrack i none
  else (s.epAbort x.sc x.rk).addQE { mkQE false .scrub x (s.tempo + ns 10000) with link := i + 1 }

/-- A corrected demand read reports to the tracker (R286). -/
def State.report (s : State) (x : Loc) (g : Nat) : State :=
  if !s.flag Reg.ECCS_RPT_EN then s
  else
    let s := s.expireTracks
    match (List.range 32).find? (fun i => match s.track? i with | some t => t.ch == x.ch && t.l == x.l | none => false) with
    | some i =>
      match s.track? i with
      | none => s
      | some t =>
        if t.watch then
          if t.grp = g then (s.setTrack i none).charge x g
          else s.setTrack i (some { t with watch := false, count := 1, grp := g, start := s.tempo })
        else if t.count = 4 then s
        else
          let t' : Track := { t with count := t.count + 1, grp := g }
          let s := s.setTrack i (some t')
          if t'.count = 4 then s.directedScrub i t' else s
    | none =>
      let new : Track := ⟨x.ch, x.l, g, 1, s.tempo, false⟩
      match (List.range 32).find? (fun i => (s.track? i).isNone) with
      | some i => s.setTrack i (some new)
      | none =>
        let used := (List.range 32).filterMap (fun i => (s.track? i).map (fun t => (i, t)))
        let older (a b : Nat × Track) : Bool := earlier a.2.start b.2.start
        let pick := match best older (used.filter (fun p => !p.2.watch)) with
          | some p => some p
          | none => best older used
        match pick with
        | some p => (s.bump Reg.ECCS_CNT3_EVICT).setTrack p.1 (some new)
        | none => s

/-! ## Scrub outcomes (R282, R285, R287) -/

/-- The map entry whose share in channel `c` of this tile holds channel-local line `l` (R285), as primary or, within the tile, as
secondary. -/
def State.entryAt (s : State) (c l : Nat) : Option MapEntry :=
  ((List.range 16).map s.entry).find? (fun m => m.vld &&
    (m.used.any (fun t => t == (s.tileNo, c)) || (decide (m.mirror = 1) && m.used.any (fun t => t == (s.tileNo, c ^^^ 1)))) &&
    decide (m.share.1 ≤ 64 * l) && decide (64 * l < m.share.2))

/-- What a finished scrub of a line found. -/
inductive ScrubOut where
  | skipped | cleanFirst | cleanVerify | again (g : Option Nat) | bad
  deriving DecidableEq, Repr

/-- The outcome of a directed scrub is applied to its line's tracker entry (R287); a patrol visit ends. -/
def State.scrubDone (s : State) (q : QE) (o : ScrubOut) : State :=
  if q.link = 0 then s.setScrub q.loc.ch { s.scrubOf q.loc.ch with busy := false }
  else
    match s.trackOf q.loc.ch q.loc.l with
    | none => s
    | some (i, t) =>
      match o with
      | .skipped | .bad => s.setTrack i none
      | .cleanFirst | .cleanVerify => s.setTrack i (some { t with watch := true, start := s.tempo })
      | .again g =>
        match g with
        | some g => if g = t.grp then s.setTrack i none else s.setTrack i (some { t with watch := false, count := 1, grp := g, start := s.tempo })
        | none => s.setTrack i (some { t with watch := true, start := s.tempo })

/-- Start the read of the other copy of a line (R313, R314): on the paired channel, or by MIRROR_RD across tiles. The line is held. -/
def State.startRepair (s : State) (q : QE) (mir mtile : Nat) : State :=
  let g := q.grp
  let s := s.mapQE q.tag (fun q => { q with held := true, stage := .wait, again := 2, mir := mir, mtile := mtile, grp := g })
  if mir = 1 then
    s.addQEAt { mkQE false .repairRd (s.placeOf (q.loc.ch ^^^ 1) q.loc.l) q.eff with link := q.tag, age := q.age, promo := q.promo }
  else
    s.sendAwait 0x0D mtile (q.loc.ch + q.loc.l * 4) [] q.tag

/-- The other copy of a line can be read: its channel serves, or the peer tile is not lost (R313, R319). -/
def State.copyUp (s : State) (c mir : Nat) : Bool := decide (mir = 1) && s.chUp (c ^^^ 1) || decide (mir = 2) && !s.repair.peerLost

/-- Both scrub reads of a line failed (R285): repaired from the other copy where the line is mirrored and that copy is left, else poisoned with a
class D record (log entry 99). Its row becomes failing (R305). -/
def State.scrubBad (s : State) (q : QE) (mis : Bool) : State :=
  let home := { q.loc with row := (s.locOf q.loc.ch q.loc.l).row }
  let mirrored : Option MapEntry := match s.entryAt q.loc.ch q.loc.l with
    | some m => if s.copyUp q.loc.ch m.mirror then some m else none
    | none => none
  let s := match mirrored with
    | some m => s.startRepair q m.mirror (if m.mirror = 2 then m.mtile else 0)
    | none =>
      let p := atLoc q.loc 0xF
      let s := s.raise 0x16 (if mis then { p with aux := p.aux + 2 ^ 15 } else p)
      let s := (s.bump Reg.ECCS_CNT2_SUE).set1 Reg.ECCS_EVT_SCRUB_UE
      let s := s.addQEAt { mkQE true .poisonWr q.loc q.eff with pay := .poison, age := q.age }
      (s.dropQE q.tag).scrubDone q .bad
  s.rowFails home.rowId 0x3FF

/-- A scrub read or verify read has been decoded (R282). -/
def State.scrubResult (s : State) (q : QE) (c : Class) (er : Option Nat) : State :=
  let s := s.dropQE q.tag
  match c with
  | .line _ _ stored fixed =>
    if fixed.isEmpty then s.scrubDone q (if q.src == .scrub then .cleanFirst else .cleanVerify)
    else
      let g := reportGroup fixed er
      if q.src == .scrubVerify && q.again = 0 then
        match g with
        | some g' =>
          let s := if q.grp = g' + 1 then s.charge q.loc g' else s
          s.scrubDone q (.again (some g'))
        | none => s.scrubDone q (.again none)
      else
        let s := s.bump Reg.ECCS_CNT2_SFIX
        s.addQEAt { mkQE true .scrubWrite q.loc q.eff with
                    pay := .stored stored, age := q.age, link := q.link, grp := match g with | some g' => g' + 1 | none => 0 }
  | _ =>
    if q.again = 0 then s.addQEAt { q with stage := .wait, again := 1, judged := false, e := 0 }
    else
      let mis := c == .misaddressed
      ({ s with qes := s.qes ++ [q] }).scrubBad q mis

/-! ## Read repair (R313, R314) -/

/-- The count and event of a demand read answered UE (R277, R294). -/
def State.countUe (s : State) (mis : Bool) : State :=
  if mis then (s.bump Reg.ECCS_CNT1_ADDR).set1 Reg.ECCS_EVT_ADDR else (s.bump Reg.ECCS_CNT0_UE).set1 Reg.ECCS_EVT_UE

/-- Write the repaired line back, at the order place of the read it repairs. -/
def State.repairWrite (s : State) (orig : QE) (x : Loc) (p : WPay) (verify : Bool) : State :=
  s.addQEAt { mkQE true (if verify then .repairWr else .poisonWr) x orig.eff with pay := p, age := orig.age, link := 1 }

/-- The secondary copy of a line has been read (R313): `c2` is its decode against the same L, none when it could not be read at all
(R155, R315). -/
def State.repairResult (s : State) (orig : QE) (c2 : Option Class) : State :=
  let other : Option Loc := if orig.mir = 1 then some (s.placeOf (orig.loc.ch ^^^ 1) orig.loc.l) else none
  let demand := orig.src == .host
  let s := s.dropQE orig.tag
  let answer (s : State) (st : Status) (d : LineData) : State :=
    if demand then ({ s with qes := s.qes ++ [orig] }).finishRead orig st d else s.scrubDone orig .bad
  match c2 with
  | some (.line k data stored fixed) =>
    if k = .poison then
      ((answer (if demand then s.bump Reg.ECCS_CNT1_POISON else s) .poison zeroLine).repairWrite orig orig.loc .poison false).countRepair orig.loc.ch
    else
      let plain := if k = .fill then zeroLine else s.cipher false orig.key orig.host data
      let s := ((s.bump Reg.RPMR_CNT0_RREP).set1 Reg.RPMR_EVT_RREP).raise 0x1B (atLoc orig.loc 0xF)
      let s := if orig.key = keyGone ∧ k = .normal then answer s .keyfault zeroLine
        else answer (if demand then s.bump Reg.ECCS_CNT0_CORR else s) .okFixed plain
      let s := s.repairWrite orig orig.loc (.stored stored) true
      let s := match other with
        | some y => if fixed.isEmpty then s else s.repairWrite orig y (.stored stored) false
        | none => s
      s.countRepair orig.loc.ch
  | _ =>
    let s := (if demand then s.countUe (orig.grp == 1) else s).raise (if demand then 0x1C else 0x1D) (atLoc orig.loc 0xF)
    let s := (s.bump Reg.RPMR_CNT1_RRFAIL).set1 Reg.RPMR_EVT_RR_FAIL
    let s := answer s .ue zeroLine
    let s := s.repairWrite orig orig.loc .poison false
    let s := match other with
      | some y => s.repairWrite orig y .poison false
      | none => s
    s.countRepair orig.loc.ch

/-! ## Demand reads (R277) -/

/-- The count, event and record of a demand read answered UE (R277). -/
def State.countBad (s : State) (q : QE) (mis : Bool) : State :=
  (s.countUe mis).raise (if mis then 0x15 else 0x14) (atLoc q.loc 0xF)

/-- A demand read classified uncorrectable or misaddressed, its parity window over: read repair where the line is mirrored, else UE
(R277, R313). -/
def State.demandBad (s : State) (q : QE) (mis : Bool) : State :=
  if s.flag Reg.RPMR_CFG_RR_EN && s.copyUp q.loc.ch q.mir then s.startRepair { q with grp := if mis then 1 else 0 } q.mir q.mtile
  else
    (s.countBad q mis).finishRead q .ue zeroLine

/-- A demand read's line has been decoded (R277). A key that is gone fails only a read that needs it (R398, log entry 64). -/
def State.demandRead (s : State) (sc : Nat) (q : QE) (c : Class) (er : Option Nat) : State :=
  match c with
  | .line k data _ fixed =>
    let s := match reportGroup fixed er with
      | some g => s.report q.loc g
      | none => s
    match k with
    | .poison => (s.bump Reg.ECCS_CNT1_POISON).finishRead q .poison zeroLine
    | k =>
      let plain := if k = .fill then zeroLine else s.cipher false q.key q.host data
      if q.key = keyGone ∧ k = .normal then s.finishRead q .keyfault zeroLine
      else if fixed.isEmpty then s.finishRead q .ok plain
      else ((s.bump Reg.ECCS_CNT0_CORR).set1 Reg.ECCS_EVT_CORR).finishRead q .okFixed plain
  | c =>
    s.setSub sc { s.sub sc with parWait := (s.sub sc).parWait ++ [(q.tag, c == .misaddressed)] }

end Sys2Proof.Machine
end

