-- ==== Sys2Proof/Machine/Queue.lean ====
section
/-! DEFINITION. From the grant to the queues: the checks of R42, key and lock checks, holding, forwarding, queue insertion, line
locks (R86, R91-R98, R106, R119-R122, R170, R391-R392, R450-R451). -/

namespace Sys2Proof.Machine

open Sys2Proof

/-! ## Line locks (R91-R96) -/

/-- The lock entry that holds a line, with its number. -/
def State.lockOn (s : State) (a : HLine) : Option (Nat × Lock) :=
  (s.locks.filterMap (fun e => e.2.map (fun l => (e.1, l)))).find? (fun p => p.2.line == a)

/-- The entries that have waited behind a lock, in grant order: other ports' requests granted since, the owner's own RDLs, and what waits behind
one of those; but not the write of the WRU that releases it (R92, R93). -/
def State.behindLock (s : State) (l : Lock) (wru : Nat) : List QE :=
  let later := s.qes.filter (fun q => q.host == l.line && decide (l.age < q.age) && q.src == .host && q.rid != wru)
  sortBy (fun (a b : QE) => decide (a.age < b.age)) (later.filter (fun q => q.port != l.port || q.needLock ||
    later.any (fun o => o.needLock && decide (o.age < q.age) && o.port == q.port)))

/-- R92: a lock ends, by request `wru` or by none. The requests that waited behind it take effect from now on, in their grant order. -/
def State.unlock (s : State) (i wru : Nat) : State :=
  match tget none s.locks i with
  | none => s
  | some l =>
    let waits := (s.behindLock l wru).map (·.tag)
    let s : State := { s with locks := tput none i none s.locks }
    waits.foldl (fun s t =>
      let a := s.age
      { s with age := a + 1, qes := s.qes.map (fun q => if q.tag = t ∨ (q.link = t ∧ (q.src == .second || q.src == .dup) = true) then
          { q with age := a } else q) }) s

/-- Locks are taken in grant order by RDLs that wait for one, while one of the 16 is free (R91-R93). -/
def State.tryLocks (s : State) : State :=
  (sortBy (fun (a b : QE) => decide (a.age < b.age)) (s.qes.filter (·.needLock))).foldl (fun s q =>
    match s.lockOn q.host, (List.range 16).find? (fun i => (tget none s.locks i).isNone) with
    | none, some i =>
      let s : State := { s with locks := tput none i (some ⟨q.port, q.host, s.tempo, q.age, s.fld Reg.GLOB_LOCKCTL_TMO⟩) s.locks }
      s.mapQE q.tag (fun q => { q with needLock := false })
    | _, _ => s) s

/-- Answer the writes that were locked out and are so no more (R23, R92). -/
def State.answerFreed (s : State) : State :=
  (s.reqs.filter (fun r => (r.op == .wr || r.op == .wru) && r.stage == .queued)).foldl (fun s r => s.tryAnswer r.rid) s

/-- A lock ends and those behind it go on. -/
def State.release' (s : State) (i : Nat) (wru : Nat := 0) : State := (s.unlock i wru).tryLocks.answerFreed

/-- The limit of R94, by the TMO in force when the lock was taken (R522). -/
def Lock.limit (l : Lock) : Tempo := l.acq + ns (1000 * l.tmo)

/-- R95: a lock is broken. -/
def State.breakLock (s : State) (i : Nat) (ev : FRef) (src : Nat) : State :=
  match tget none s.locks i with
  | none => s
  | some l => ((s.set1 ev).raise src (portPlace l.port l.line)).release' i

/-- R94: every lock whose time is over is broken. -/
def State.expireLocks (s : State) : State :=
  (List.range 16).foldl (fun s i => match tget none s.locks i with
    | some l => if reached s.tempo l.limit then s.breakLock i Reg.GLOB_LOCKEVT_TMO_BRK 0x03 else s
    | none => s) s

/-! ## Checks at the decoder (R42) -/

/-- The opcode is one R34 lists. -/
def listedOp (o : Op) : Bool := match o with | .other _ => false | _ => true

/-- R33-R36: the request is illegal by itself. -/
def reqIllegal (r : Req) : Bool :=
  r.dup || !listedOp r.op || decide (r.flit.cls = 3) ||
  (r.op != .flush && (decide (r.flit.len = 3) || (decide (r.flit.len ≠ 0) && r.op != .rd && r.op != .wr) ||
    decide (r.flit.addr.toNat % r.lines ≠ 0)))

/-- A WRP whose mask groups are each all set or all clear (R62). -/
def maskWhole (m : BitVec 64) : Bool := (List.range 16).all (fun i => bits m.toNat (4 * i + 3) (4 * i) = 0 || bits m.toNat (4 * i + 3) (4 * i) = 15)

/-- The deadline a request is presented under (R79, R83, R101). -/
def State.shownDl (s : State) (r : Req) : Tempo := if r.clamped then s.tempo else if r.promo then r.dl else r.eff

/-- A request answered early gives its path line-slot back; the line-slot after it is dead where it was decided for it because it is a multi-line
request (R76). A single-line request's status never comes after that decision (DESIGN CHOICE, log entry 89). -/
def State.early (s : State) (r : Req) (st : Status) (mis : Bool := false) : State :=
  let d : Option Dead := match r.org with
    | .port p => if 1 < r.lines then some ⟨p, some (r.promo, s.shownDl r)⟩ else s.arbDead
    | .ring _ _ => s.arbDead
  { s.answer r.rid st mis with arbDead := d }

/-! ## Where a line is served -/

/-- Reads of mirrored lines leave channel `c` for its partner while it has failed or its PLL is being relocked (R316). -/
def State.redirects (s : State) (c : Nat) : Bool := s.repair.failing.contains c || decide ((s.phy c).relock ≠ 0)

/-- R313: the line is served from its secondary copy since a repair's read-back failed. -/
def State.isAway (s : State) (c l : Nat) : Bool := s.repair.away.contains (c, l)

/-- R450: the line is below the watermark of every channel of this tile that holds it. -/
def State.filled (s : State) (m : MapEntry) (c l : Nat) : Bool :=
  let below (c : Nat) : Bool := decide (l < s.fld (Reg.GLOB_FILLWM_WM c))
  if m.mirror = 1 then
    (!s.chUp c || below c) && (!s.chUp (c ^^^ 1) || below (c ^^^ 1))
  else !s.chUp c || below c

/-- Every line of a request may be served. -/
def State.reqFilled (s : State) (r : Req) : Bool :=
  (List.range r.lines).all (fun i => match s.lookup (r.line i) with
    | .here _ m c l => s.filled m c l
    | _ => true)

/-- The layouts into which a line of entry `e` has been migrated and is not committed yet: the migration under way, below its watermark, and those
completed (R126). -/
def State.newLayouts (s : State) (e : Nat) (a : HLine) : List MapEntry :=
  (match s.mig with
   | some g => if g.src = e ∧ a.toNat < g.next.toNat then [s.entry g.dst] else []
   | none => []) ++ (s.migDone.filter (fun p => p.src == e)).map (fun p => entryOf (fun i => nth 0 p.new i))

/-- The places beside its primary at which a write of line `a` is also stored: the mirror copy within the tile, and copies in other
tiles (R111, R126, R147): local channel and line with whether it is a mirror copy, and remote tile, channel and line. -/
def State.copies' (s : State) (e : Nat) (m : MapEntry) (c l : Nat) (a : HLine) : List (Nat × Nat × Bool) × List (Nat × Nat × Nat) :=
  let near : List (Nat × Nat × Bool) := if m.mirror = 1 && s.chUp (c ^^^ 1) then [(c ^^^ 1, l, true)] else []
  let far : List (Nat × Nat × Nat) := if m.mirror = 2 && !s.repair.peerLost then [(m.mtile, c, l)] else []
  (s.newLayouts e a).foldl (fun acc d =>
    let (t, cb) := d.target (a.toNat * 64)
    let (tile, ch) := d.slot t
    let l' := cb / 64
    let home := decide (tile = s.tileNo)
    let one : List (Nat × Nat) := if d.mirror = 1 then [(ch, l'), (ch ^^^ 1, l')] else [(ch, l')]
    (acc.1 ++ (if home then one.map (fun p => (p.1, p.2, false)) else []),
     acc.2 ++ (if home then [] else one.map (fun p => (tile, p.1, p.2))) ++ (if d.mirror = 2 then [(d.mtile, ch, l')] else []))) (near, far)

/-! ## Queue insertion (R86, R170, R186) -/

/-- The entries a line of an opcode takes: reads, writes (R170). -/
def entriesOf (op : Op) : Nat × Nat :=
  match op with
  | .rd | .rdl => (1, 0)
  | .wr | .wru => (0, 1)
  | .wrp | .afadd | .aswp | .acas | .aor | .aand => (1, 1)
  | .ulk | .flush | .other _ => (0, 0)

/-- A line of a request is placed in the queues (R86, R170, R317-R319). -/
def State.insertLine (s : State) (r : Req) (i : Nat) : State :=
  let a := r.line i
  match s.lookup a with
  | .here e m c l =>
    let lost := !s.chUp c && (decide (m.mirror = 0) || (decide (m.mirror = 1) && !s.chUp (c ^^^ 1)))
    if lost then
      if r.op == .rd || r.op == .rdl then s.respond r i .ue false zeroLine
      else (s.answerData r.rid .ue zeroLine).freeLines (fun w => w.rid == some r.rid)
    else
      let two := decide (m.mirror = 1) && s.chUp c && s.chUp (c ^^^ 1)
      let cw := if decide (m.mirror = 1) && !s.chUp c then c ^^^ 1 else c
      let cr := if two && (s.redirects c || s.isAway c l) then c ^^^ 1 else cw
      let mir := if m.mirror = 1 then (if two then 1 else 0) else m.mirror
      let (adm, s) := s.rtAdmit r.op r.flit.cls (s.placeOf cr l)
      let s := if adm then s.mapReq r.rid (fun r => { r with admitted := r.admitted ++ [i] }) else s
      let base (wr : Bool) (ch : Nat) : QE :=
        { mkQE wr .host (s.placeOf ch l) r.eff with
          rid := r.rid
          port := r.org.portNo
          idx := i
          host := a
          key := if r.gone then keyGone else r.flit.keyid.toNat
          promo := r.promo
          clamped := r.clamped
          adm := adm
          nt := r.flit.nt
          mir := if !wr && ch != c then 0 else mir
          mtile := m.mtile }
      let n := entriesOf r.op
      let s := if n.1 = 1 then s.addQE { base false cr with needLock := r.op == .rdl } else s
      let s := if n.2 = 1 then
          let (near, far) := s.copies' e m cw l a
          let tag := s.nextTag
          let age := s.age
          let full := r.op == .wr || r.op == .wru
          let pay : WPay := if full then (if r.gone then .poison else .buffer) else .none
          let s := if full && r.gone then s.lostKey r.org.portNo a else s
          let s := s.addQE { base true cw with pay := pay, far := far }
          (if cw = c then near else near.filter (fun p => !p.2.2)).foldl (fun s p =>
            s.addQEAt { base true cw with
                        loc := s.placeOf p.1 p.2.1, src := if p.2.2 then .second else .dup, pay := pay, link := tag, age := age, mir := 0 }) s
        else s
      s.tryLocks
  | _ => s

/-- Place the next line of a request; a write whose lines are all placed may be answered (R23). -/
def State.insertNext (s : State) (rid : Nat) : State :=
  match s.req? rid with
  | none => s
  | some r =>
    let s := s.insertLine r r.moved
    (s.mapReq rid (fun r => { r with moved := r.moved + 1 })).tryAnswer rid

/-- Place every line still to be placed. -/
def State.insertAll (s : State) (rid : Nat) : State :=
  match s.req? rid with
  | none => s
  | some r => (List.range (r.lines - r.moved)).foldl (fun s _ => s.insertNext rid) s

/-! ## Decode of a request (R106) -/

/-- R91, R94, R96: the lock check of a WRU or ULK. -/
def State.lockStep (s : State) (r : Req) : Option Nat × State :=
  let s := s.expireLocks
  match s.lockOn (r.line 0) with
  | some (i, l) => if l.port = r.org.portNo then (some i, s) else (none, s)
  | none => (none, s)

/-- After the checks: LOCKLOST for a lock operation without its lock, the release of a lock, or the queues. `all` places all lines at
once. -/
def State.enterQueues (s : State) (r : Req) (all : Bool) : State :=
  let go (s : State) : State :=
    let s := s.mapReq r.rid (fun r => { r with stage := .queued })
    if all then s.insertAll r.rid else s.insertNext r.rid
  match r.op with
  | .wru =>
    match s.lockStep r with
    | (some i, s) => (go s).release' i r.rid
    | (none, s) => (s.set1 Reg.GLOB_LOCKEVT_LOST).early r .locklost
  | .ulk =>
    match s.lockStep r with
    | (some i, s) => (s.release' i).answer r.rid .ok
    | (none, s) => (s.set1 Reg.GLOB_LOCKEVT_LOST).early r .locklost
  | _ => go s

/-- The write-data lines of a forwarded request that are in the buffer go out as FWD_WD (R146). -/
def State.forwardData (s : State) (rid dst mseq : Nat) (only : Option Nat) : State :=
  ((s.wbuf.filter (fun w => w.rid == some rid)).filter (fun w => match only with | some i => w.idx == i | none => true)).foldl (fun s w =>
    s.send 0x09 dst (mseq + w.idx * 2 ^ 12) (flitsOf 4 w.data.toNat)) s

/-- R32: the request flit as its 223 bits. -/
def opCode (o : Op) : Nat :=
  match o with
  | .rd => 0x00 | .wr => 0x01 | .wrp => 0x02 | .rdl => 0x03 | .wru => 0x04 | .ulk => 0x05 | .afadd => 0x08 | .aswp => 0x09
  | .acas => 0x0A | .aor => 0x0B | .aand => 0x0C | .flush => 0x10
  | .other c => c.toNat

def flitBits (o : Op) (f : RqFlit) : Nat :=
  opCode o + f.addr.toNat * 2 ^ 5 + f.len.toNat * 2 ^ 51 + f.tag.toNat * 2 ^ 53 + f.keyid.toNat * 2 ^ 65 + f.cls.toNat * 2 ^ 73 +
  f.budget.toNat * 2 ^ 75 + b2n f.walk * 2 ^ 89 + b2n f.nt * 2 ^ 90 + b2n f.nec * 2 ^ 91 + f.wsel.toNat * 2 ^ 92 +
  f.mask.toNat * 2 ^ 95 + f.operand.toNat * 2 ^ 159

/-- R146: forward a request to the tile that now owns its line. -/
def State.forward (s : State) (r : Req) (e ver dst : Nat) : State :=
  let s := s.bump Reg.AMAP_MISCNT_FWD
  let m := s.ring.mseq
  let s := s.sendAwait 0x08 dst (r.dl.toNat + b2n r.promo * 2 ^ 40 + ver * 2 ^ 41 + e * 2 ^ 49) (flitsOf 2 (flitBits r.op r.flit)) r.rid
  let s := s.mapReq r.rid (fun r => { r with stage := .forwarded, moved := r.lines })
  if carriesData r.op && !s.ring.deferred.any (fun a => a.mseq == m) then s.forwardData r.rid dst m none else s

/-- HOLDMAX with its rules (R458). -/
def State.holdMax (s : State) : Nat := min 128 (max 1 (s.fld Reg.GLOB_FILL_HOLDMAX))

/-- Requests held above a watermark (R451). -/
def State.heldReqs (s : State) : List Req := s.reqs.filter (fun r => r.stage == .heldFill)

/-- The checks that follow the map lookup at the serving tile: KEYFAULT, the fill hold, LOCKLOST, then the queues (R42, R392, R450). -/
def State.serveHere (s : State) (r : Req) (all : Bool) : State :=
  if s.slotBad r.flit.keyid.toNat then s.countKeyfault.early r .keyfault
  else if s.reqFilled r && !s.heldReqs.any (fun h => h.rid != r.rid && h.meets r) then s.enterQueues r all
  else if s.holdMax ≤ s.heldReqs.length then
    ((s.bump Reg.GLOB_FILLST_NRDY).set1 Reg.GLOB_EVT_HOLD_FULL).early r .notready
  else s.mapReq r.rid (fun r => { r with stage := .heldFill })

/-- A DECODE answer; one with misroute to a port of this tile counts (R121, R122, R130). -/
def State.answerDecode (s : State) (r : Req) (mis : Bool) : State :=
  let s := match r.org with
    | .port _ => if mis then s.bump Reg.AMAP_MISCNT_MIS else s
    | .ring _ _ => s
  s.early r .decode mis

/-- The switch that holds a line's new arrivals at the decoder (R119). -/
def State.switchHolds (s : State) (a : HLine) : Bool :=
  match s.ring.switch, s.entryFor a with
  | some w, some e => w.changed.contains e
  | some w, none => w.changed.any (fun e => (entryOf (fun i => nth 0 w.words (12 * e + i))).covers a)
  | none, _ => false

/-- R106 steps 3 to 5 for a request of a port of this tile (R121). -/
def State.decodeReq (s : State) (r : Req) (all : Bool) : State :=
  if s.switchHolds (r.line 0) then s.mapReq r.rid (fun r => { r with stage := .heldMap })
  else
    let k := r.flit.keyid.toNat
    let bad := match r.org with
      | .port p => (decide (k ≠ 0) && !s.build.crypt) || s.maskBad p k r.flit.nec
      | .ring _ _ => false
    match s.lookup (r.line 0) with
    | .decode mis => s.answerDecode r mis
    | .forward e ver t => if bad then s.countKeyfault.early r .keyfault else s.forward r e ver t
    | .here _ _ _ _ => if bad then s.countKeyfault.early r .keyfault else s.serveHere r all

/-- Held requests whose lines are filled go on, in arrival order, none before an earlier held one of its lines (R450). -/
def State.releaseFill (s : State) : State :=
  s.heldReqs.foldl (fun s r =>
    if s.reqFilled r && !s.heldReqs.any (fun h => decide (h.rid < r.rid) && h.meets r) then s.enterQueues r true else s) s

/-! ## The proxy of a failed channel (R319) -/

/-- Reads and writes of a failed channel's lines mirrored across tiles go to the peer's copy, each once no earlier access of its line
stands before it; on a channel that serves, the reads of lines served from there (R313). -/
def State.proxy (s : State) (sc : Nat) : State :=
  let c := sc / 2
  (sortBy (fun (a b : QE) => decide (a.age < b.age)) (s.qes.filter (fun q => q.loc.sc == sc && q.mir == 2 && q.src == .host &&
      (!s.chUp c || (!q.wr && (s.redirects c || s.isAway c q.loc.l)))))).foldl (fun s q =>
    if !s.isCand q || s.repair.peerLost then s
    else if q.wr then
      let s := s.checkPop q 0
      let q := (s.qe? q.tag).getD q
      let far := if q.far.isEmpty then [(q.mtile, c, q.loc.l)] else q.far
      let bs := far.map (fun f => (f, s.storedAt q f.2.2))
      let s := s.mapQE q.tag (fun o => { o with stage := .issued, done := true, acks := o.acks + far.length, far := [] })
      let s := bs.foldl (fun s (f : (Nat × Nat × Nat) × Burst) =>
        s.sendAwait 0x0B f.1.1 (f.1.2.1 + f.1.2.2 * 4) (flitsOf 5 f.2.toNat) q.tag) s
      s.freeDrained q.rid q.idx
    else
      (s.mapQE q.tag (fun o => { o with stage := .issued })).sendAwait 0x0D q.mtile (c + q.loc.l * 4) [] q.tag) s

end Sys2Proof.Machine
end

