-- ==== Sys2Proof/Machine/Record.lean ====
section
/-! DEFINITION. The shutdown test record: seals, statuses, completion, judgement (R470-R476), and the capacities retired SRAM leaves (R478). -/

namespace Sys2Proof.Machine

open Sys2Proof

/-! ## Capacities (R478) -/

/-- Entries of each buffer and queue after retirement: 32 fewer for each retired half-bank. -/
def State.wbCap (s : State) : Nat := 256 - 32 * s.fld Reg.BIST_SRAM_WB
def State.rbCap (s : State) : Nat := 512 - 32 * s.fld Reg.BIST_SRAM_RB
def State.rqCap (s : State) : Nat := 384 - 32 * s.fld Reg.BIST_SRAM_RQ
def State.wqCap (s : State) : Nat := 256 - 32 * s.fld Reg.BIST_SRAM_WQ

/-! ## The record (R472-R475) -/

/-- The release ID. -/
def releaseId : Nat := 0x0401

/-- R472: the seal of a slice. -/
def sliceSeal (slice sig stamp : Nat) : Nat :=
  let c := crc32 (slice :: (bytesLE 4 sig ++ bytesLE 4 stamp ++ bytesLE 2 releaseId))
  if c = 0 then 1 else c

/-- Word `i` of the record in the making. -/
def State.recWord (s : State) (i : Nat) : Word := tget 0 s.bist.record i
def State.setRec (s : State) (i v : Nat) : State :=
  { s with bist := { s.bist with record := tput 0 i (BitVec.ofNat 32 v) s.bist.record } }

/-- A record begins with its run stamp, when the first slice begins. -/
def State.startRecord (s : State) (startup : Bool) : State :=
  let s : State := { s with bist := { s.bist with record := [], startup := startup, run := true } }
  let s := s.setRec 0 (releaseId * 2 ^ 16 + 0x0100)
  let s := s.setRec 13 (b2n (!startup) * 2 ^ 31 + b2n (s.bist.drainInc && !startup) * 2 ^ 30)
  s.setRec 14 (s.tempo.toNat / 2 ^ 8)

/-- A slice's status is recorded; a slice that reached its final step has its signature, seal and completion bit (R470). -/
def State.noteSlice (s : State) (k status : Nat) (final : Option Nat) : State :=
  let s := s.setRec 13 ((s.recWord 13).toNat + status * 2 ^ (4 * k))
  match final with
  | none => s.set1 Reg.BIST_EVT_INCOMPLETE
  | some sig =>
    let s := ((s.setRec (2 * k + 1) sig).setRec (2 * k + 2) (sliceSeal k sig (s.recWord 14).toNat)).setRec 0 ((s.recWord 0).toNat + 2 ^ k)
    if status = 1 then s else s.set1 Reg.BIST_EVT_SLICE_FAIL

/-- R475: the CRC over words 0 to 14. -/
def recordCrc (w : Nat → Word) : Nat := crc32 ((List.range 15).flatMap (fun i => bytesLE 4 (w i).toNat))

/-- The record is complete: its CRC is added and the host can read it. -/
def State.finishRecord (s : State) : State :=
  let s := s.setRec 15 (recordCrc s.recWord)
  let s := (List.range 16).foldl (fun s i => s.setFld (Reg.BIST_REC_REC i) (s.recWord i).toNat) s
  let s := s.setFlds [(Reg.BIST_STAT_PHASE, if s.bist.startup then 7 else 5), (Reg.BIST_STAT_SLICE, 0xF), (Reg.BIST_EVT_DONE, 1)]
  { s with bist := { s.bist with slice := none, run := false } }

/-- R474: a class F fault outside the slice, or scan enable: the slice in progress is INCOMPLETE, later ones NOTRUN, the record is completed. -/
def State.haltSlices (s : State) : State :=
  if !s.bist.run then s
  else
    let s := match s.bist.slice with
      | some k => s.noteSlice k 5 none
      | none => s
    s.finishRecord

/-! ## Judgement (R476) -/

/-- The expected signature of a slice, as BIST_EXPs reads (R482). -/
def State.expSig (s : State) (k : Nat) : Nat := (Config.bistExp s.build.ports s.build.channels s.build.crypt s.build.ring k).toNat

/-- A record is presented: some word is not zero. -/
def State.presented (s : State) : Bool := (List.range 16).any (fun i => decide (s.fld (Reg.BIST_REC_REC i) ≠ 0))

/-- The record presented is valid. -/
def State.recordValid (s : State) : Bool :=
  let w (i : Nat) : Word := s.word (Reg.BIST_REC_REC i).key
  decide ((w 15).toNat = recordCrc w) && decide ((w 0).toNat / 2 ^ 16 = releaseId) && decide ((w 0).toNat / 2 ^ 8 % 256 = 1) &&
  (w 13).toNat.testBit 31 && decide ((w 0).toNat % 64 = 63) &&
  (List.range 6).all (fun k =>
    let sig := (w (2 * k + 1)).toNat
    decide ((w 13).toNat / 2 ^ (4 * k) % 16 = 1) && decide (sig = s.expSig k) && decide ((w (2 * k + 2)).toNat = sliceSeal k sig (w 14).toNat))

end Sys2Proof.Machine
end

