-- ==== Sys2Proof/Machine/Arbiter.lean ====
section
/-! DEFINITION. What the ingress arbiter compares: the request a port presents, its key, the port that takes the next line-slot, and the dead
line-slots (R54, R76-R84, R170, R252). -/

namespace Sys2Proof.Machine

open Sys2Proof

/-! ## What a port presents (R54, R77, R170, R252) -/

/-- Response-buffer entries a request needs before its grant (R54). -/
def Req.need (r : Req) : Nat := if r.op == .rd then r.lines else 1

/-- The port's reservation of `n` more entries can be made: within its cap, from its own 16 first and then from the shared pool (R54, R478). -/
def State.canReserve (s : State) (p n : Nat) : Bool :=
  let used := s.rspUsed p
  let more := (used + n - 16) - (used - 16)
  decide (used + n ≤ s.fld (Reg.HPT_RSPCAP_CAP p)) && decide (s.sharedUsed + more ≤ s.rbCap - 16 * s.build.ports)

/-- Read or write entries of a channel. -/
def State.entriesOn (s : State) (c : Nat) (wr : Bool) : Nat := (s.qes.filter (fun q => q.wr == wr && q.loc.ch == c)).length

/-- The channels of this tile on which a line's write takes an entry. -/
def State.writeChans (s : State) (m : MapEntry) (c : Nat) : List Nat := if m.mirror = 1 ∧ s.chUp (c ^^^ 1) = true then [c, c ^^^ 1] else [c]

/-- R170: the lines of a request still to be moved find room in the queues. A request that takes no entry always does. -/
def State.hasRoom (s : State) (r : Req) : Bool :=
  match s.lookup (r.line 0) with
  | .here _ m c _ =>
    let n := r.lines - r.moved
    let e := entriesOf r.op
    let ws := if e.2 = 0 then [] else s.writeChans m c
    (decide (e.1 = 0) || (decide (s.entriesOn c false + n ≤ s.fld Reg.SCHD_QCAP_RD) && decide ((s.qes.filter (fun q => !q.wr)).length + n ≤ s.rqCap))) &&
    ws.all (fun c => decide (s.entriesOn c true + n ≤ s.fld Reg.SCHD_QCAP_WR)) &&
    (ws.isEmpty || decide ((s.qes.filter (·.wr)).length + n * ws.length ≤ s.wqCap))
  | _ => true

/-- A request of a port that still has a line-slot to take. -/
def Req.presentable (r : Req) (p : Nat) : Bool :=
  r.org == .port p && (r.stage == .ingress || (r.stage == .queued && decide (r.moved < r.lines)))

/-- The request goes to the port's aperture. -/
def State.toAperture (s : State) (r : Req) : Bool :=
  match r.org with
  | .port p => r.op != .flush && s.inAperture p (r.line 0)
  | .ring _ _ => false

/-- A register write through the aperture waits for its write data. -/
def State.awaitsData (s : State) (r : Req) : Bool :=
  s.toAperture r && r.op == .wrp && maskWhole r.flit.mask && !reqIllegal r && !r.flit.walk && !s.wbuf.any (fun w => w.rid == some r.rid)

/-- An earlier request of the same port to one of its lines, or to the aperture beside it, has line-slots to take. -/
def State.behindOwn (s : State) (p : Nat) (r : Req) : Bool :=
  s.reqs.any (fun o => o.presentable p && decide (o.rid < r.rid) &&
    ((o.op != .flush && r.op != .flush && o.meets r) || (s.toAperture o && s.toAperture r)))

/-- R77: the request may be presented. -/
def State.eligible (s : State) (p : Nat) (r : Req) : Bool :=
  r.presentable p && !s.behindOwn p r && !s.awaitsData r && s.hasRoom r && (r.stage != .ingress || s.canReserve p r.need)

/-- R252: too many requests of the port wait for throttled banks. -/
def State.portWaits (s : State) (p : Nat) : Bool :=
  decide (max 1 (s.fld Reg.REFD_THR_PWAIT) ≤ (((s.qes.filter (fun q => q.port == p && s.throttleWait q)).map (·.rid)).dedup).length)

/-- The key a request is presented under (R79, R83, R101). -/
structure PortKey where
  promo : Bool
  dl : Tempo
  port : Nat
  deriving DecidableEq, Repr

def State.portKey (s : State) (p : Nat) (r : Req) : PortKey := ⟨r.promo, s.shownDl r, p⟩

/-- Strictly earlier (R78, R80, R83): promoted before not, then the deadline; among promoted requests the lower port number decides a tie. So where
a waiting port's panic rises beside a promoted holder of an equal original deadline, R83's port number decides and not row 2 of R84's table (DESIGN
CHOICE, log entry 88). -/
def PortKey.before (a b : PortKey) : Bool :=
  if a.promo != b.promo then a.promo
  else earlier a.dl b.dl || (a.promo && !earlier b.dl a.dl && decide (a.port < b.port))

/-- The request a port presents: the earliest deadline, then the order of arrival (R77). -/
def State.presents (s : State) (p : Nat) : Option Req :=
  if s.portWaits p || (s.port p).rst then none
  else best (fun a b => earlier (s.portKey p a).dl (s.portKey p b).dl) (s.reqs.filter (fun r => s.eligible p r))

/-! ## The decision (R80-R82) -/

/-- The requests the ports present. -/
def State.offers (s : State) : List (Nat × Req) :=
  ((List.range 8).filter s.portBuilt).filterMap (fun p => (s.presents p).map (fun r => (p, r)))

/-- The port that takes the line-slot and its request; the holder loses it only to a strictly earlier key. -/
def State.arbPick (s : State) : Option (Nat × Req) :=
  let first := best (fun (a b : Nat × Req) => (s.portKey a.1 a.2).before (s.portKey b.1 b.2)) s.offers
  match s.arbHolder with
  | none => first
  | some h =>
    match s.offers.find? (fun o => o.1 == h), first with
    | some mine, some o => if (s.portKey o.1 o.2).before (s.portKey mine.1 mine.2) then some o else some mine
    | _, _ => first

/-- R76, R82: the next line-slot is dead. One left by a withdrawal is; one left by an early answer is where no request's key comes before the one
its request was presented under, for only then was it decided for that request. -/
def State.deadStands (s : State) (d : Dead) : Bool :=
  match d.key with
  | none => true
  | some (promo, dl) => !s.offers.any (fun o => (s.portKey o.1 o.2).before ⟨promo, dl, d.port⟩)

/-- R82: the request to which the holder's next line-slot goes is withdrawn; that line-slot is dead. -/
def State.deadSlot (s : State) (gone : Req → Bool) : State :=
  match s.arbHolder, s.arbPick with
  | some h, some (p, r) => if h = p ∧ gone r = true then { s with arbDead := some ⟨p, none⟩ } else s
  | _, _ => s

end Sys2Proof.Machine
end

