-- ==== Sys2Proof/Machine/FaultCol.lean ====
section
/-! DEFINITION. The fault collector: sources and classes, capture windows, the first-fault register, the log queue, Check Timers,
HALT, and the outputs it drives (R483-R513). -/

namespace Sys2Proof.Machine

open Sys2Proof

/-! ## Sources (R483, R484) -/

/-- A row of R484: number, class (0 C, 1 D, 2 U, 3 F), whether it can escalate, page and bit of its force bit. Pages 0x8 and 0x18 stand
for all HPTn and all CHNn pages. -/
structure SrcRow where
  no : Nat
  cls : Nat
  esc : Bool
  page : Nat
  bit : Nat
  deriving DecidableEq, Repr

/-- The table of R484. -/
def srcTable : List SrcRow :=
  [ ⟨0x00, 2, true, 0x00, 0⟩, ⟨0x01, 1, false, 0x00, 1⟩, ⟨0x02, 2, true, 0x00, 2⟩, ⟨0x03, 0, false, 0x00, 3⟩, ⟨0x04, 2, true, 0x08, 0⟩,
    ⟨0x08, 0, false, 0x10, 0⟩, ⟨0x0C, 2, true, 0x12, 0⟩, ⟨0x0D, 2, true, 0x12, 1⟩, ⟨0x0E, 0, false, 0x12, 2⟩, ⟨0x0F, 0, false, 0x12, 3⟩,
    ⟨0x10, 2, true, 0x12, 4⟩, ⟨0x11, 0, false, 0x12, 5⟩, ⟨0x14, 2, true, 0x14, 0⟩, ⟨0x15, 2, true, 0x14, 1⟩, ⟨0x16, 1, false, 0x14, 2⟩,
    ⟨0x17, 0, false, 0x14, 3⟩, ⟨0x18, 0, false, 0x15, 0⟩, ⟨0x19, 1, false, 0x15, 1⟩, ⟨0x1A, 0, false, 0x15, 2⟩, ⟨0x1B, 0, false, 0x15, 3⟩,
    ⟨0x1C, 2, true, 0x15, 4⟩, ⟨0x1D, 1, false, 0x15, 5⟩, ⟨0x1E, 0, false, 0x15, 6⟩, ⟨0x1F, 2, true, 0x15, 7⟩, ⟨0x20, 2, true, 0x15, 8⟩ ] ++
  [ ⟨0x22, 1, false, 0x07, 0⟩, ⟨0x24, 2, true, 0x03, 0⟩, ⟨0x25, 3, false, 0x03, 1⟩, ⟨0x28, 2, false, 0x16, 0⟩, ⟨0x29, 3, false, 0x16, 1⟩,
    ⟨0x2C, 2, true, 0x02, 0⟩, ⟨0x2D, 2, true, 0x02, 1⟩, ⟨0x2E, 3, false, 0x02, 2⟩, ⟨0x2F, 0, false, 0x02, 3⟩, ⟨0x30, 3, false, 0x02, 4⟩,
    ⟨0x31, 1, false, 0x06, 0⟩, ⟨0x32, 3, false, 0x06, 1⟩, ⟨0x34, 3, false, 0x05, 0⟩, ⟨0x35, 2, false, 0x05, 1⟩, ⟨0x36, 2, false, 0x05, 2⟩,
    ⟨0x38, 2, false, 0x01, 0⟩, ⟨0x39, 3, false, 0x01, 1⟩, ⟨0x3A, 3, false, 0x18, 0⟩ ]

def srcRow (no : Nat) : Option SrcRow := srcTable.find? (fun r => r.no == no)

/-- The class of a report: F when it is an escalation (R492). -/
def Report.cls (r : Report) : Nat := if r.esc then 3 else match srcRow r.src with | some x => x.cls | none => 0

/-- A source's status bit. -/
def State.stsBit (s : State) (no : Nat) : Bool := s.fbit (Reg.FLTC_STS_STS (no / 32)) (no % 32)

/-- The source is enabled to escalate (R491). -/
def State.escOn (s : State) (no : Nat) : Bool :=
  (match srcRow no with | some x => x.esc && decide (x.cls = 2) | none => false) &&
  s.fbit (if no < 32 then Reg.FLTC_ESC0_ESC else Reg.FLTC_ESC1_ESC) (no % 32)

/-- R499: the level of FLT_OUT. -/
def State.fltOut (s : State) : Bool := srcTable.any (fun r => decide (r.cls ≠ 0) && s.stsBit r.no)

/-- R490: the FLT word of a page; HPTn pages count as page 0x8, CHNn pages as 0x18. -/
def State.fltWord (s : State) (page : Nat) : Word :=
  let p := if 0x8 ≤ page ∧ page ≤ 0xF then 0x8 else if 0x18 ≤ page ∧ page ≤ 0x1B then 0x18 else page
  BitVec.ofNat 32 (srcTable.foldl (fun w r => if r.page = p ∧ s.stsBit r.no = true then w ||| 2 ^ r.cls else w) 0)

/-! ## Records and the log queue (R502-R505) -/

/-- R503. -/
def recordOf (r : Report) : FaultRec :=
  { w0 := BitVec.ofNat 32 (r.cls * 2 ^ 30 + b2n r.forced * 2 ^ 29 + b2n r.mult * 2 ^ 28 + b2n r.esc * 2 ^ 27 + r.src * 2 ^ 16 +
      (r.loc % 256) * 2 ^ 8 + r.stamp.toNat / 2 ^ 32)
    w1 := BitVec.ofNat 32 r.stamp.toNat
    w2 := BitVec.ofNat 32 ((r.aux % 2 ^ 16) * 2 ^ 16 + b2n r.akind * 2 ^ 15 + (r.addr / 2 ^ 32) % 2 ^ 14)
    w3 := BitVec.ofNat 32 r.addr }

/-- The live level of the log queue and its latches (R46, R502). -/
def State.logLevel (s : State) : State :=
  s.level s.fault.log.length Reg.FLTC_LOGWM_HI Reg.FLTC_LOGWM_LO Reg.FLTC_LOGSTAT_LVL Reg.FLTC_EVT_LOG_HI Reg.FLTC_EVT_LOG_LO

/-- R488 step 3, R505: push a record; a full queue drops it. -/
def State.logPush (s : State) (r : FaultRec) : State :=
  if 64 ≤ s.fault.log.length then (s.bump Reg.FLTC_LOGSTAT_OVF).set1 Reg.FLTC_EVT_LOG_OVF
  else { s with fault := { s.fault with log := s.fault.log ++ [r] } }.logLevel

/-- R502, R504: pop the oldest record; `upset` gives the bits of its two stored words that have flipped. -/
def State.logPop (s : State) (upset : BitVec 128) : State :=
  match s.fault.log with
  | [] => s.set1 Reg.FLTC_LOGSTAT_UNDER
  | r :: rest =>
    let c := secded 2 upset.toNat
    let bad (i : Nat) : Nat := if (secded 1 ((upset.toNat >>> (64 * i)) % 2 ^ 64)).2 = 0 then 0 else (upset.toNat >>> (64 * i)) % 2 ^ 64
    let x (w : Word) (i j : Nat) : Nat := (w ^^^ BitVec.ofNat 32 (bad i >>> (32 * j))).toNat
    let s : State := { s with fault := { s.fault with log := rest } }
    let s := s.setFlds [(Reg.FLTC_LOGPOP_W0, x r.w0 0 0), (Reg.FLTC_LOGW_W 1, x r.w1 0 1), (Reg.FLTC_LOGW_W 2, x r.w2 1 0),
      (Reg.FLTC_LOGW_W 3, x r.w3 1 1)]
    let s := (s.bump Reg.FLTC_LOGECC_CE c.1).bump Reg.FLTC_LOGECC_UE c.2
    let s := if c.2 = 0 then s else (s.set1 Reg.FLTC_EVT_LOG_UE).raise 0x38 nowhere
    s.logLevel

/-! ## Check Timers (R491-R493) -/

/-- CHK microseconds after a stamp. -/
def State.chkDeadline (s : State) (t : Tempo) : Tempo := t + ns (1000 * s.fld Reg.FLTC_CFG_CHK)

/-- The running timer with the earliest deadline (R511). -/
def State.firstTimer (s : State) : Option ChkTimer := best (fun a b => earlier a.dl b.dl) s.fault.timers

/-- Stop the timers of the sources that satisfy `c`. -/
def State.stopTimers (s : State) (c : Nat → Bool) : State :=
  { s with fault := { s.fault with timers := s.fault.timers.filter (fun t => !c t.src) } }

/-- R492: the earliest timer's deadline is reached: a class F record of its source, stamped with the deadline. -/
def State.chkExpire (s : State) : State :=
  match s.firstTimer with
  | none => s
  | some t =>
    let s := s.advanceTo t.dl
    let s : State := { s with fault := { s.fault with
      timers := s.fault.timers.erase t
      reports := s.fault.reports ++ [⟨t.dl, t.src, 0, 0, false, 0, false, false, true⟩] } }
    s.set1 Reg.FLTC_EVT_ESC

/-! ## HALT (R494-R496) -/

/-- R495: the channel's command path is intact. -/
def State.intact (s : State) (c : Nat) (phyFatal : Option Nat) : Bool :=
  s.chUp c && (s.phy c).pll == .locked && phyFatal != some c

/-- Every line of a request not yet ready at its port is answered with a status; a request with no line ready takes one flit (R42). A forwarded
request some of whose lines have been answered takes one FWD_RSP for each still owed (R146): for the lines not moved yet and those with a read in
`left`, the queue entries of before. -/
def State.answerRest (s : State) (left : List QE) (r : Req) (st : Status) : State :=
  let made := match r.org with
    | .port p => ((s.port p).ready.filter (fun f => f.rid == r.rid)).map (·.idx)
    | .ring _ _ => if r.op == .rd && r.stage == .queued then (List.range r.moved).filter (fun i => !left.any (fun q => !q.wr && q.rid == r.rid && q.idx == i))
      else []
  if r.stage == .answered then s
  else if r.nextIdx = 0 ∧ made = [] then s.answer r.rid st
  else
    let s := ((List.range r.lines).filter (fun i => decide (r.nextIdx ≤ i) && !made.contains i)).foldl (fun s i => s.respond r i st false zeroLine) s
    s.mapReq r.rid (fun r => { r with stage := .answered })

/-- What every stop of service ends: scrub, En Passant, fill, migration, recoveries (R321, R466, R494). -/
def State.stopBackground (s : State) : State :=
  let s := (List.range 4).foldl (fun s c => (s.epDrop c).setScrub c { s.scrubOf c with running := false, busy := false }) s
  let s : State := { s with
    mig := none
    qes := s.qes.filter (fun q => q.src == .host || q.ofWrite)
    startup := { s.startup with filling := false }
    repair := { s.repair with failing := [], asked := [] } }
  (s.dropCopies (fun _ => true) true).rmGoEnd

/-- Entry to HALT: writes not issued are never performed, every unanswered request is answered HALTED, locks are freed without a record,
DRAM goes to self-refresh where the command path is intact (R89, R494, R495). -/
def State.enterHalt (s : State) (phyFatal : Option Nat) (v1 v2 : Bool) : State :=
  if s.mode = .halt then s
  else
    let s := (s.deadSlot (fun _ => true)).setMode .halt
    let s : State := { s with
      memReady := false
      power := { s.power with sleep := .awake, vote := none, idle := none, latched := none, coreOn := true, crypOn := true }
      fault := { s.fault with timers := [] }
      locks := [] }
    let s := s.stopBackground
    let s := if s.flag Reg.CRYP_CFG_HALT_CLR && s.build.crypt then s.clearKeys 3 v1 v2 else s
    let gone := s.qes
    let s : State := { s with qes := [] }
    let s := s.reqs.foldl (fun s r => s.answerRest gone r .halted) s
    let s := s.freeLines (fun w => gone.any (fun q => q.ofWrite && w.rid == some q.rid) && !s.reqs.any (fun r => w.rid == some r.rid))
    let s := (List.range 4).foldl (fun s c => if s.chanBuilt c then s.stopChannel c (s.intact c phyFatal) else s) s
    s.haltSlices.takeAllHeld

/-! ## Capture (R486-R489) -/

/-- The window a stamp falls in (R486). -/
def windowOf (t : Tempo) : Nat := t.toNat / 8

/-- R487: order of one window's reports. -/
def reportFirst (a b : Report) : Bool := if a.cls ≠ b.cls then decide (b.cls < a.cls) else decide (a.src < b.src)

/-- Reports of one source in one window make one record, with MULT set. -/
def mergeReports (l : List Report) : List Report :=
  l.foldl (fun acc r => if acc.any (fun x => x.src == r.src && x.esc == r.esc) then
      mapIf (fun x => x.src == r.src && x.esc == r.esc) (fun x => { x with mult := true }) acc else acc ++ [r]) []

/-- R489. -/
def State.firstFault (s : State) (r : Report) : State :=
  if r.cls = 0 ∧ s.flag Reg.FLTC_CFG_FF_C = false then s
  else if s.flag Reg.FLTC_FFCTL_VLD then s.setBit (Reg.FLTC_SEEN_SEEN (r.src / 32)) (r.src % 32) true
  else
    let x := recordOf r
    s.setFlds [(Reg.FLTC_FF_FF 0, x.w0.toNat), (Reg.FLTC_FF_FF 1, x.w1.toNat), (Reg.FLTC_FF_FF 2, x.w2.toNat), (Reg.FLTC_FF_FF 3, x.w3.toNat),
      (Reg.FLTC_FFCTL_VLD, 1)]

/-- The class counter and event of R488 step 4. -/
def State.countClass (s : State) (c : Nat) : State :=
  match c with
  | 0 => (s.bump Reg.FLTC_CNT0_C).set1 Reg.FLTC_EVT_CAP_C
  | 1 => (s.bump Reg.FLTC_CNT0_D).set1 Reg.FLTC_EVT_CAP_D
  | 2 => (s.bump Reg.FLTC_CNT1_U).set1 Reg.FLTC_EVT_CAP_U
  | _ => (s.bump Reg.FLTC_CNT1_F).set1 Reg.FLTC_EVT_CAP_F

/-- R488: handle one report. -/
def State.handle (s : State) (v1 v2 : Bool) (r : Report) : State :=
  let was := s.stsBit r.src
  let s := s.setBit (Reg.FLTC_STS_STS (r.src / 32)) (r.src % 32) true
  let s := (s.firstFault r).logPush (recordOf r)
  let s := s.countClass r.cls
  let s := if 2 ≤ r.cls then s.broadcast 0x11 (r.cls + r.src * 4 + r.stamp.toNat * 2 ^ 10) [] else s
  if r.cls = 3 then s.enterHalt (if r.src = 0x3A then some (r.loc / 64) else none) v1 v2
  else if r.cls = 2 ∧ was = false ∧ s.escOn r.src = true ∧ s.mode ≠ .halt then
    { s with fault := { s.fault with timers := s.fault.timers ++ [⟨r.src, s.chkDeadline r.stamp⟩] } }
  else s

/-- CAPTURE_WINDOW_CLOSE: Tempo reaches the close of the earliest window that holds a report; its reports are handled in order. -/
def State.closeWindow (s : State) (v1 v2 : Bool) : State :=
  match s.fault.reports with
  | [] => s
  | r0 :: _ =>
    let w := windowOf ((best (fun (a b : Report) => earlier a.stamp b.stamp) s.fault.reports).getD r0).stamp
    let now := s.fault.reports.filter (fun r => windowOf r.stamp = w)
    let s : State := { s with fault := { s.fault with reports := s.fault.reports.filter (fun r => windowOf r.stamp ≠ w) } }
    let s := s.advanceTo (ns (8 * (w + 1) + 40))
    (sortBy reportFirst (mergeReports now)).foldl (fun s r => s.handle v1 v2 r) s

/-- FAULT_REPORT: a source's report, stamped now, reaches the collector; an unlisted number is never produced (R484). -/
def State.reportFault (s : State) (src loc aux : Nat) (akind : Bool) (addr : Nat) : State :=
  match srcRow src with
  | none => s
  | some _ => s.raise src ⟨loc % 256, aux % 2 ^ 16, akind, addr % 2 ^ 46⟩

/-! ## Software's part (R491, R489, R501) -/

/-- R488, R496: a W1C of the status bits `w` of register j: class F sources keep theirs; the Check Timers stop; a cleared voltage-request
fault lets the loop send again (R410). -/
def State.clearStatus (s : State) (j : Nat) (w : Word) : State :=
  let cl (no : Nat) : Bool := decide (no / 32 = j) && w.getLsbD (no % 32) && s.stsBit no &&
    (match srcRow no with | some x => decide (x.cls ≠ 3) | none => false)
  let bits := (List.range 32).foldl (fun m i => if cl (32 * j + i) then m ||| 2 ^ i else m) 0
  let s' := (s.stopTimers cl).setFld (Reg.FLTC_STS_STS j) (s.fld (Reg.FLTC_STS_STS j) ^^^ bits)
  if cl 0x2C then { s' with power := { s'.power with vstop := false } } else s'

/-- Writing 1 to FLTC_FFCTL.VLD (R489). -/
def State.clearFirst (s : State) : State :=
  s.setFlds [(Reg.FLTC_FF_FF 0, 0), (Reg.FLTC_FF_FF 1, 0), (Reg.FLTC_FF_FF 2, 0), (Reg.FLTC_FF_FF 3, 0), (Reg.FLTC_FFCTL_VLD, 0),
    (Reg.FLTC_SEEN_SEEN 0, 0), (Reg.FLTC_SEEN_SEEN 1, 0)]

/-- R501: force bits written 1 on a page inject reports of their sources, all with one stamp. -/
def State.force (s : State) (page : Nat) (w : Word) : State :=
  let hpt := decide (0x8 ≤ page) && decide (page ≤ 0xF)
  let chn := decide (0x18 ≤ page) && decide (page ≤ 0x1B)
  let p := if hpt then 0x8 else if chn then 0x18 else page
  let loc := if hpt then page - 0x8 else if chn then (page - 0x18) * 64 else 0
  let rows := srcTable.filter (fun r => decide (r.page = p) && w.getLsbD r.bit && (decide (r.cls ≠ 3) || s.flag Reg.FLTC_CFG_FORCE_F))
  { s with fault := { s.fault with reports := s.fault.reports ++ rows.map (fun r => ⟨s.tempo, r.no, loc, 0, false, 0, true, false, false⟩) } }

end Sys2Proof.Machine
end

