-- ==== Sys2Proof/Machine/Maint.lean ====
section
/-! DEFINITION. Maintenance by time and by firmware: refresh increments and temperature, mode register commands, ZQ calibration, the
admission bucket, and the scrubbers' schedule (R186, R220-R223, R239-R244, R281-R290). -/

namespace Sys2Proof.Machine

open Sys2Proof

/-- The lattices of a channel run: its PLL is locked and the channel serves (R203, R317). -/
def State.latticeOn (s : State) (c : Nat) : Bool := (s.phy c).pll == .locked && s.chUp c

/-- DRAM initialization has ended on a channel that still serves: refresh and calibration run (R223, R345). -/
def State.dramOn (s : State) (c : Nat) : Bool :=
  s.latticeOn c && ((s.phy c).phase == .training || (s.phy c).phase == .passed)

/-- The rank is fitted and awake. -/
def State.rankAwake (s : State) (sc rk : Nat) : Bool := (s.ranks (sc / 2)).contains rk && !(s.sub sc).asleep.contains rk

/-- DRAM initialization has ended on a channel that serves, whether or not its PLL is locked: Tempo's intervals run (R239, R244). -/
def State.dramUp (s : State) (c : Nat) : Bool := s.chUp c && ((s.phy c).phase == .training || (s.phy c).phase == .passed)

/-! ## Refresh groups (R239) -/

/-- Groups of one rank of a channel (R237). -/
def State.groupsPer (s : State) (c : Nat) : Nat := if s.allBank c then 1 else 4

/-- G, the groups of the channels present when GO was acted on. -/
def State.groupCount (s : State) : Nat := s.startup.present.foldl (fun n c => n + 4 * s.groupsPer c) 0

/-- The number of a group: by subchannel, rank, bank index. -/
def State.groupNo (s : State) (sc rk j : Nat) : Nat :=
  (s.startup.present.filter (· < sc / 2)).foldl (fun n c => n + 4 * s.groupsPer c) 0 + (2 * (sc % 2) + rk) * s.groupsPer (sc / 2) + j

/-- A group's increments begin: debt 0, the first increment at its offset within the interval that starts at `t0` (R239, R243). -/
def State.startGroup (s : State) (sc rk j : Nat) (t0 : Tempo) : State :=
  let i := s.trefi (2 * (sc / 2) + rk)
  let off := s.groupNo sc rk j * i / max 1 s.groupCount
  s.setGroup (groupKey sc rk j) ⟨0, false, t0, t0 + ns off - ns i, true⟩

/-- The same for every group of a rank. -/
def State.startRankGroups (s : State) (sc rk : Nat) (t0 : Tempo) : State :=
  (List.range (s.groupsPer (sc / 2))).foldl (fun s j => s.startGroup sc rk j t0) s

/-- REFRESH_INCREMENT: Tempo reaches a group's next increment (R239, R240, R242). -/
def State.refreshIncrement (s : State) (sc rk j : Nat) : State :=
  let k := groupKey sc rk j
  let g := s.group k
  if !g.running || !s.dramUp (sc / 2) || !s.rankAwake sc rk || decide (s.groupsPer (sc / 2) ≤ j) then s
  else
    let due := g.prevInc + ns (s.trefi (2 * (sc / 2) + rk))
    let s := s.advanceTo due
    let p : Int := s.refP'
    if p ≤ g.debt then
      let s := s.setGroup k { g with debt := p + 1, prevInc := due }
      (s.set1 Reg.REFD_EVT_REF_LATE).raise 0x0C (atBank (sc / 2) (sc % 2) rk 0xF j)
    else
      s.setGroup k { g with debt := g.debt + 1, prevInc := due, forcedAt := if g.debt + 1 = p then due else g.forcedAt }

/-! ## Mode register commands (R220-R222) -/

/-- The mode registers JESD79-5 defines as read-only (PRESUMED, log entry 42). -/
def mrReadOnly (ma : Nat) : Bool := [1, 16, 17, 18, 19, 20, 22, 54, 55, 56, 57, 65, 66, 67, 68, 69].contains ma

/-- The mode registers the tile programs itself (R222). -/
def mrOwn (ma : Nat) : Bool := [0, 2, 6, 8, 13].contains ma

/-- Place a maintenance proposal (R222, R244). -/
def State.addMaint (s : State) (sc : Nat) (m : Maint) : State :=
  let s := s.setSub sc { s.sub sc with maint := (s.sub sc).maint ++ [{ m with tag := s.nextTag }] }
  { s with nextTag := s.nextTag + 1 }

/-- R222: what keeps a command of TIMG_MRCMD from being issued. -/
def State.mrAborts (s : State) (mrw : Bool) (c sck rk ma : Nat) : Bool :=
  !s.chUp c || s.mode == .bringup || s.mode == .sleep || s.mode == .halt || !s.rankAwake (2 * c + sck) rk || (mrw && (mrOwn ma || mrReadOnly ma))

/-- TIMG_MRCMD.GO is written 1 with this word: ignored while a command is in progress (R222). -/
def State.mrCommand (s : State) (w : Word) : State :=
  let f (r : FRef) : Nat := r.get w
  if s.flag Reg.TIMG_MRCMD_GO then s
  else
    let s := s.setWord Reg.TIMG_MRCMD_GO.key w
    if f Reg.TIMG_MRCMD_GO = 0 then s
    else
      let c := f Reg.TIMG_MRCMD_CH
      let sck := f Reg.TIMG_MRCMD_SC
      let rk := f Reg.TIMG_MRCMD_RK
      let ma := f Reg.TIMG_MRCMD_MA
      let mrw := f Reg.TIMG_MRCMD_OP != 0
      if s.mrAborts mrw c sck rk ma then (s.clr Reg.TIMG_MRCMD_GO).set1 Reg.TIMG_EVT_MR_ABORT
      else s.addMaint (2 * c + sck) ⟨0, if mrw then .mrw else .mrr, rk, 0, 0, false, s.tempo + ns 10000, ma, f Reg.TIMG_MRCMD_WDATA, 0, false⟩

/-- An MRR's bytes reach TIMG_MRDAT0 to 2 (R235): one per device, five on x8 modules. -/
def State.mrData (s : State) (c : Nat) (b : Burst) : State :=
  let n := if s.flag (Reg.CHN_CFG_X8 c) then 5 else 10
  let v := b.toNat % 2 ^ (8 * n)
  let s := s.setFlds [(Reg.TIMG_MRDAT0_DEV3_0, v % 2 ^ 32), (Reg.TIMG_MRDAT1_DEV7_4, (v / 2 ^ 32) % 2 ^ 32), (Reg.TIMG_MRDAT2_DEV9_8, v / 2 ^ 64)]
  (s.clr Reg.TIMG_MRCMD_GO).set1 Reg.TIMG_EVT_MR_DONE

/-! ## Refresh temperature (R244) -/

/-- The poll of mode register 4: every awake rank of both subchannels is to be read. -/
def State.mr4Poll (s : State) : State :=
  if !s.flag Reg.REFD_RCTL_TEMP_EN then s
  else
    let s := s.periodic tmrMr4 16000000
    (List.range 8).foldl (fun s sc => (s.ranks (sc / 2)).foldl (fun s rk =>
      if s.dramUp (sc / 2) && s.rankAwake sc rk && s.mode != .halt then
        s.addMaint sc ⟨0, .mrr, rk, 0, 0, false, s.tempo + ns 1000000, 4, 0, 1, false⟩
      else s) s) s

/-- The REFD_TEMP code of a device's mode register 4 byte (PRESUMED encoding of JESD79-5, log entry 43). -/
def mr4Code (byte : Nat) : Nat :=
  match byte % 8 with
  | 0 => 1
  | 1 | 2 => 0
  | 3 | 4 => 2
  | _ => 3

/-- How demanding a code is. -/
def demand (code : Nat) : Nat := match code with | 1 => 0 | 0 => 1 | 2 => 2 | _ => 3

/-- The more demanding of two codes. -/
def moreDemanding (a b : Nat) : Nat := if demand a < demand b then b else a

/-- The most demanding report among the devices of one subchannel's rank. -/
def State.mr4Report (s : State) (c : Nat) (b : Burst) : Nat :=
  (List.range (if s.flag (Reg.CHN_CFG_X8 c) then 5 else 10)).foldl (fun m d => moreDemanding m (mr4Code ((b.toNat >>> (8 * d)) % 256))) 1

/-- The length class of a code's interval: codes 0b10 and 0b11 give the same interval. -/
def lengthOf (code : Nat) : Nat := 2 - min 2 (demand code)

/-- A rank's report of a poll, both subchannels' devices taken together, comes into force: a shorter interval at once, a longer one after two
reads that agree. -/
def State.mr4Apply (s : State) (c rk code : Nat) : State :=
  let i := 2 * c + rk
  let x := tget (⟨0, 0, none⟩ : RankTemp) s.rankTemps i
  let old := x.code
  let take := decide (lengthOf code ≤ lengthOf old) || decide (x.lastRead = code)
  let new := if take then code else old
  let s : State := { s with rankTemps := tput ⟨0, 0, none⟩ i ⟨new, code, none⟩ s.rankTemps }
  let s := if lengthOf new ≠ lengthOf old then s.set1 Reg.REFD_EVT_TEMP_CHG else s
  if code = 3 then (s.set1 Reg.REFD_EVT_OVERTEMP).raise 0x0D (atBank c 0 rk 0xF 0) else s

/-- A poll's read of one subchannel's rank has returned. -/
def State.mr4Return (s : State) (sc rk : Nat) (b : Burst) : State :=
  let c := sc / 2
  let i := 2 * c + rk
  let r := s.mr4Report c b
  let x := tget (⟨0, 0, none⟩ : RankTemp) s.rankTemps i
  match x.half with
  | some h => s.mr4Apply c rk (moreDemanding h r)
  | none => { s with rankTemps := tput ⟨0, 0, none⟩ i { x with half := some r } s.rankTemps }

/-! ## ZQ calibration (R223) -/

/-- A sequence command of a kind stands in a lattice for a rank, or is accepted and not yet issued. -/
def Sub.hasSeq (u : Sub) (c : Cmd) (rk : Nat) : Bool :=
  u.seqs.any (fun q => q.cmd == some c && q.rk == rk) || u.accepted.any (fun i => i.cmd == c && i.rk == rk)

/-- A rank of a subchannel is being calibrated. -/
def Sub.calibrating (u : Sub) (rk : Nat) : Bool := u.zqLatch.contains rk || u.hasSeq .zqs rk || u.hasSeq .zql rk

/-- ZQ interval in nanoseconds. -/
def State.zqInt (s : State) : Nat := 1000000 * s.fld Reg.TIMG_ZQ_ZQ_INT

/-- ZQCAL_START_DUE: a rank's interval ends and its ZQCal Start is placed. In the lattice it waits while the channel's other rank calibrates. -/
def State.zqStartDue (s : State) (sc rk : Nat) : State :=
  let u := s.sub sc
  if !s.dramUp (sc / 2) || !s.rankAwake sc rk || u.calibrating rk then s
  else
    let s := s.advanceTo (tget 0 u.zqStart rk + ns s.zqInt)
    s.setSub sc { u with seqs := u.seqs ++ [seqStep (some .zqs) rk 0 (some 0) 1] }

/-- ZQCAL_LATCH_DUE: tZQCAL after an issued Start the Latch is placed. -/
def State.zqLatchDue (s : State) (sc rk : Nat) : State :=
  let u := s.sub sc
  if !u.zqLatch.contains rk || u.hasSeq .zql rk then s
  else
    let s := s.advanceTo (tget 0 u.zqStart rk + ns (s.fld Reg.TIMG_ZQ_ZQCAL))
    s.setSub sc { u with seqs := u.seqs ++ [seqStep (some .zql) rk 0 (some 0) 1] }

/-! ## The admission bucket (R186) -/

/-- RT_BUCKET_REFILL: a microsecond ends; the bucket holds what it has gained by then. -/
def State.refill (s : State) (sc : Nat) : State := (s.periodic (tmrBucket sc) 1000).accrue sc

/-! ## Patrol scrub (R281-R284) -/

/-- Nanoseconds of a pass of PERIOD hours, at least one hour (R281). -/
def State.scrubPeriod (s : State) : Nat := 3600000000000 * max 1 (s.fld Reg.ECCS_SCRB_PERIOD)

/-- SERVICE or DEGRADED. -/
def State.inService (s : State) : Bool := s.mode == .service || s.mode == .degraded

/-- The tile may begin work of its own: it serves, and no SLEEP vote is under way (R417). -/
def State.ownWork (s : State) : Bool := s.inService && s.power.vote.isNone

/-- A scrubber begins a pass that is due at `t`; the channel's lines are served from their primary copies again (R313). -/
def State.beginPass (s : State) (c t : Nat) : State :=
  let s : State := { s with repair := { s.repair with away := s.repair.away.filter (fun x => x.1 != c) } }
  (s.setScrub c ⟨true, t, s.scrubPeriod, false, 0⟩).setFld (Reg.ECCS_SCRPOS_POS c) 0

/-- SCRUB_PASS_START: the next pass starts at the later of the previous pass's end and its scheduled end (R284). -/
def State.scrubPass (s : State) (c : Nat) : State :=
  let x := s.scrubOf c
  if !s.flag Reg.ECCS_SCRB_EN || !s.ownWork || !s.chUp c || x.running then s
  else
    let s := s.advanceLong (x.start + x.period)
    s.beginPass c s.longTime

/-- A pass ends: counted, and late when more than PERIOD / 16 after its scheduled end (R284). -/
def State.endPass (s : State) (c : Nat) : State :=
  let x := s.scrubOf c
  let s := s.setScrub c { x with running := false }
  let f : FRef := if c = 0 then Reg.ECCS_SCRPASS_PASS0 else if c = 1 then Reg.ECCS_SCRPASS_PASS1 else if c = 2 then Reg.ECCS_SCRPASS_PASS2
    else Reg.ECCS_SCRPASS_PASS3
  let s := s.bump f
  if x.start + x.period + x.period / 16 < s.longTime then s.set1 Reg.ECCS_EVT_SCRUB_LATE else s

/-- Move on to the next line of a pass. -/
def State.nextScrub (s : State) (c l : Nat) : State :=
  if (s.chDec c).capacity ≤ l + 1 then (s.setFld (Reg.ECCS_SCRPOS_POS c) 0).endPass c else s.setFld (Reg.ECCS_SCRPOS_POS c) (l + 1)

/-- When line `l` of a channel's pass may be visited: when it is due, and, behind schedule, no sooner after the last line than CATCH lines to a
line's interval (R284). -/
def State.scrubDue (s : State) (c l : Nat) : Nat :=
  let x := s.scrubOf c
  let n := max 1 (s.chDec c).capacity
  max (x.start + l * x.period / n) (x.last + x.period / (n * max 1 (s.fld Reg.ECCS_SCRB_CATCH)))

/-- SCRUB_LINE_DUE: line i of the pass falls due and is visited (R282, R284); on a rank under an En Passant mark the scrubber yields (R381). A
line above the watermark, and a line the hazard unit reports busy, count as covered. -/
def State.scrubLine (s : State) (c : Nat) : State :=
  let x := s.scrubOf c
  let l := s.fld (Reg.ECCS_SCRPOS_POS c)
  if !s.flag Reg.ECCS_SCRB_EN || !s.ownWork || !s.chUp c || !x.running || x.busy then s
  else
    let s := s.advanceLong (s.scrubDue c l)
    let y := s.placeOf c l
    let marked := match s.erase? (ersIdx y.sc y.rk) with | some e => e.src == 1 | none => false
    let s' := (s.setScrub c { x with last := s.longTime }).nextScrub c l
    if marked then s
    else if s.fld (Reg.GLOB_FILLWM_WM c) ≤ l ∨ s.scrubSkips y = true then s'
    else
      let s' := s'.setScrub c { s'.scrubOf c with busy := true }
      s'.addQE (mkQE false .scrub y (s'.tempo + ns 10000))

/-- TRACKER_WINDOW_EXPIRY: Tempo passes the end of a tracker entry's window; the entry is freed (R286). -/
def State.trackExpire (s : State) (i : Nat) : State :=
  match s.track? i with
  | none => s
  | some t => (s.advanceTo (t.start + ns (1000000 * s.fld Reg.ECCS_RPT_WIN + 1))).setTrack i none

/-- DEVICE_COUNT_DECAY: DECAY hours have passed; every non-zero count falls by 1 (R288). -/
def State.decay (s : State) : State :=
  let d := s.fld Reg.ECCS_DEVCFG_DECAY
  if d = 0 then s
  else
    let at' := s.repair.decayAt + 3600000000000 * d
    let s := s.advanceLong at'
    { s with repair := { s.repair with
        decayAt := at'
        devCnt := (s.repair.devCnt.map (fun e => (e.1, e.2 - 1))).filter (fun e => e.2 != 0) } }

end Sys2Proof.Machine
end

