-- ==== Sys2Proof/Machine/Ring.lean ====
section
/-! DEFINITION. The tile ring: discovery, refresh tokens, links, lost messages, forwarding and mirror traffic at the receiving tile, fault
notes (R136-R155, R121-R122, R315, R319). -/

namespace Sys2Proof.Machine

open Sys2Proof

/-! ## Discovery (R141-R143) -/

/-- The anchor starts an attempt: DISC with count 0 to its CW neighbour. -/
def State.startDisc (s : State) : State :=
  let s := s.sendOn true 0x01 0 false 0 []
  { s with ring := { s.ring with discRun := true, discStart := s.tempo, discLoop := s.tempo, discWait := false, discCw := none } }

/-- An attempt fails; the anchor repeats it. -/
def State.discFails (s : State) (ev : FRef) : State := { s with ring := { s.ring with discWait := true } }.set1 ev

/-- R149, R156: the tokens the anchor puts on the ring. -/
def State.tokenCount (s : State) : Nat := min 8 (max 1 (s.fld Reg.RING_CTL_TOKENS))

/-- The CW neighbour. -/
def State.cwNext (s : State) : Nat := (s.tileNo + 1) % max 1 (s.fld Reg.RING_STAT_TILES)

/-- Send a token to the CW neighbour; the anchor notes when. With the last one, unforced REFab leave the windows (R245). -/
def State.sendToken (s : State) (num : Nat) : State :=
  let s := s.sendOn true 0x10 s.cwNext false num []
  let s : State := { s with ring := { s.ring with
      tokens := s.ring.tokens.filter (fun t => t.1 != num)
      tokUsed := if s.ring.tokens.length ≤ 1 then [] else s.ring.tokUsed
      tokOut := if s.ring.anchor then s.ring.tokOut.filter (fun t => t.1 != num) ++ [(num, s.tempo)] else s.ring.tokOut } }
  s.withdrawRefab

/-- Numbering is complete: RING_STAT, and the links work (log entry 44). -/
def State.numbered (s : State) (total : Nat) : State :=
  s.setFlds [(Reg.RING_STAT_NUMBERED, 1), (Reg.RING_STAT_TILES, total), (Reg.RING_STAT_CWI_UP, 1), (Reg.RING_STAT_CWO_UP, 1),
    (Reg.RING_STAT_CCWI_UP, 1), (Reg.RING_STAT_CCWO_UP, 1), (Reg.RING_EVT_DISC_DONE, 1)]

/-- A DISC comes back to the anchor that sent it. -/
def State.discBack (s : State) (cw : Bool) (count : Nat) : State :=
  if !s.ring.discRun || s.ring.discWait then s
  else if 32 ≤ count then s.discFails Reg.RING_EVT_OVERSIZE
  else if cw then
    let s := s.sendOn false 0x01 0 false 0 []
    { s with ring := { s.ring with discCw := some count, discLoop := s.tempo } }
  else if s.ring.discCw = some count then
    let s : State := { s with ring := { s.ring with discRun := false, discCw := none, tokens := [], tokOut := [], tokUsed := [] } }
    let s := ((s.numbered (count + 1)).setFld Reg.RING_STAT_TILE_NO 0).broadcast 0x02 (count + 1) []
    (List.range s.tokenCount).foldl (fun s i => s.sendToken i) s
  else s.discFails Reg.RING_EVT_DISC_FAIL

/-- DISC at a tile (R141-R143). `foreign` tells an anchor that the message is another anchor's (log entry 45). -/
def State.ringDisc (s : State) (cw : Bool) (foreign : Bool) (count : Nat) : State :=
  if s.ring.anchor then
    if foreign then { s with ring := { s.ring with discStop := true, discRun := false } }.set1 Reg.RING_EVT_MULTI_ANCHOR
    else s.discBack cw count
  else
    let n := count + 1
    let s :=
      if !cw then s
      else if s.flag Reg.RING_STAT_NUMBERED then
        if n ≠ s.fld Reg.RING_STAT_TILE_NO then (s.set1 Reg.RING_EVT_RENUMBER).raise 0x25 (atTile n 0) else s
      else if n < 32 then s.setFld Reg.RING_STAT_TILE_NO n
      else s
    s.sendOn cw 0x01 0 false (min n 63) []

/-- DISC_DONE. -/
def State.ringDiscDone (s : State) (total : Nat) : State :=
  if s.ring.anchor then s else s.numbered (total % 64)

/-- DISC_REQ at the anchor; elsewhere it passes by. -/
def State.ringDiscReq (s : State) : State :=
  if s.ring.anchor && !s.ring.discStop && !(s.ring.discRun && !s.ring.discWait) then s.startDisc else s

/-- DISC_REPEAT_TIMER: the first attempt, and the repeat 1 ms after the start of one that failed (R142). -/
def State.discRepeat (s : State) : State :=
  if !s.ring.anchor || s.ring.discStop then s
  else if s.ring.discRun then
    if s.ring.discWait then (s.advanceTo (s.ring.discStart + ns 1000000)).startDisc else s
  else if s.flag Reg.RING_STAT_NUMBERED then s
  else s.startDisc

/-- DISC_LOOP_TIMEOUT: a loop has not returned within 100 µs. -/
def State.discTimeout (s : State) : State :=
  if s.ring.anchor && s.ring.discRun && !s.ring.discWait then
    (s.advanceTo (s.ring.discLoop + ns 100000)).discFails Reg.RING_EVT_DISC_FAIL
  else s

/-! ## Refresh tokens (R149, R150, R245) -/

/-- A REFab that waits for a token could start if the tile held one. -/
def State.refabWaiting (s : State) : Bool :=
  let s' : State := { s with ring := { s.ring with tokens := (0, 0) :: s.ring.tokens } }
  (List.range 8).any (fun sc => s.allBank (sc / 2) && s.dramOn (sc / 2) && s.flag Reg.REFD_RCTL_TOKEN_EN &&
    (s.ranks (sc / 2)).any (fun rk => !s.forced sc rk 0 && (!(s'.refCand sc rk 0).isEmpty || (s.group (groupKey sc rk 0)).proposed)))

/-- Held tokens go on when no REFab waits any more. -/
def State.passTokens (s : State) : State :=
  if s.ring.tokens.isEmpty || s.refabWaiting then s
  else s.ring.tokens.foldl (fun s t => s.sendToken t.1) s

/-- TOK_HOLD of R149. -/
def State.tokHold (s : State) : Nat := 16 * s.fld Reg.RING_CTL_TOK_HOLD

/-- REF_TOKEN arrives. The anchor removes the duplicate of a token it has issued again: a token whose number it holds, or the second to come back
under that number since (R150, log entry 93). -/
def State.ringToken (s : State) (num : Nat) : State :=
  if s.ring.tokens.any (fun t => t.1 == num) then
    if s.ring.anchor then { s with ring := { s.ring with tokDup := s.ring.tokDup.filter (· != num), tokBack := s.ring.tokBack.filter (· != num) } }
    else (s.sendToken num).sendToken num
  else if s.ring.anchor && s.ring.tokBack.contains num then
    { s with ring := { s.ring with tokBack := s.ring.tokBack.filter (· != num) } }
  else
    let again := s.ring.tokDup.contains num
    let s : State := if s.ring.anchor && again then
        { s with ring := { s.ring with tokDup := s.ring.tokDup.filter (· != num), tokBack := s.ring.tokBack ++ [num] } }
      else s
    let s : State := { s with ring := { s.ring with
      tokens := s.ring.tokens ++ [(num, s.tempo)], tokOut := s.ring.tokOut.filter (fun t => t.1 != num) } }
    if s.mode == .sleep || s.mode == .endgame then s.sendToken num else s.passTokens

/-- TOKEN_HOLD_EXPIRY. -/
def State.tokenExpire (s : State) (num : Nat) : State :=
  match s.ring.tokens.find? (fun t => t.1 == num) with
  | none => s
  | some t => (s.advanceTo (t.2 + ns s.tokHold)).sendToken num

/-- TOKEN_RETURN_TIMEOUT at the anchor. -/
def State.tokenLate (s : State) (num : Nat) : State :=
  match s.ring.tokOut.find? (fun t => t.1 == num) with
  | none => s
  | some t =>
    if s.ring.anchor then
      let s := (s.advanceTo (t.2 + ns (32 * s.tokHold + 1000))).set1 Reg.RING_EVT_TOK_REGEN
      { s with ring := { s.ring with tokDup := s.ring.tokDup.filter (· != num) ++ [num], tokBack := s.ring.tokBack.filter (· != num) } }.sendToken num
    else s

/-! ## Links (R137, R154) -/

/-- Messages held back for a destination leave once those sent there before have been resolved. -/
def State.releaseRoutes (s : State) : State :=
  let clear := s.ring.routeHold.filter (fun d => !s.ring.awaits.any (fun a => a.dst == d))
  let s : State := { s with ring := { s.ring with routeHold := s.ring.routeHold.filter (fun d => !clear.contains d) } }
  let (go, stay) := s.ring.deferred.partition (fun a => clear.contains a.dst)
  let s : State := { s with ring := { s.ring with deferred := stay } }
  go.foldl (fun s a =>
    let s := s.emitRing (s.routeCw a.dst) a.msg
    let s : State := { s with ring := { s.ring with awaits := s.ring.awaits ++ [{ a with sent := s.tempo }] } }
    if a.type = 0x08 then s.forwardData a.forWhat a.dst a.mseq none else s) s

/-- A link's failure becomes known: routes are recomputed, and destinations whose route changes hold new requests. -/
def State.noteBroken (s : State) (cw : Bool) (tile : Nat) : State :=
  if s.ring.broken.contains (cw, tile) then s
  else
    let was := (List.range 32).map s.routeCw
    let s : State := { s with ring := { s.ring with broken := s.ring.broken ++ [(cw, tile)] } }
    let held := (List.range 32).filter (fun d => nth true was d != s.routeCw d && s.ring.awaits.any (fun a => a.dst == d))
    let s : State := { s with ring := { s.ring with routeHold := (s.ring.routeHold ++ held).dedup } }
    let n := max 1 (s.fld Reg.RING_STAT_TILES)
    let s := if cw ∧ (tile + 1) % n = s.tileNo then s.clr Reg.RING_STAT_CWI_UP else s
    let s := if !cw ∧ (s.tileNo + 1) % n = tile then s.clr Reg.RING_STAT_CCWI_UP else s
    s.set1 Reg.RING_EVT_LINK_DOWN

/-- R154: this tile declares its output on a ring broken. Tokens in flight on it are the anchor's to issue again. -/
def State.breakLink (s : State) (cw : Bool) : State :=
  if s.ring.broken.contains (cw, s.tileNo) then s
  else
    let s := s.clr (if cw then Reg.RING_STAT_CWO_UP else Reg.RING_STAT_CCWO_UP)
    let s := s.noteBroken cw s.tileNo
    if s.ring.broken.contains (!cw, s.tileNo) then s
    else s.sendOn (!cw) 0x12 0 true (b2n (!cw) + s.tileNo * 2) []

/-- LINK_DOWN; of this tile's own nothing new is learnt when it comes back. -/
def State.ringLinkDown (s : State) (ccw : Bool) (tile : Nat) : State := (s.noteBroken (!ccw) tile).releaseRoutes

/-- What this tile sent last on a ring. -/
def State.lastOn (s : State) (cw : Bool) : Option (RingMsg × Tempo) := if cw then s.ring.lastCw else s.ring.lastCcw

/-- LINK_ACK_TIMEOUT: the acknowledge has not risen LINK_TMO microseconds after the request of the last message sent there (R154). -/
def State.ackTimeout (s : State) (cw : Bool) : State :=
  let s := match s.lastOn cw with
    | some x => s.advanceTo (x.2 + ns (1000 * s.fld Reg.RING_CTL_LINK_TMO))
    | none => s
  s.breakLink cw

/-- RING_FLIT_ERROR: the receiver refused a flit; it is sent again, and after eight in a row the link is broken (R137). The flit is the last that
was sent on that ring (log entry 92). -/
def State.flitError (s : State) (cw : Bool) : State :=
  let n := (if cw then s.ring.errCw else s.ring.errCcw) + 1
  if 8 ≤ n then
    { s with ring := { s.ring with errCw := if cw then 0 else s.ring.errCw, errCcw := if cw then s.ring.errCcw else 0 } }.breakLink cw
  else
    let s : State := { s with ring := { s.ring with errCw := if cw then n else s.ring.errCw, errCcw := if cw then s.ring.errCcw else n } }
    let s := s.bump Reg.RING_CNT0_RETRY
    match (s.lastOn cw).bind (fun x => (ringFlits x.1).getLast?) with
    | some d => s.emit (.ringFlit cw d)
    | none => s

/-- The message types of R140. -/
def knownType (t : Nat) : Bool := decide (1 ≤ t) && decide (t ≤ 0x12) && decide (t ≠ 0x0F)

/-- RING_UNKNOWN_TYPE. -/
def State.unknownType (s : State) (t : Nat) : State := if knownType t then s else s.bump Reg.RING_CNT0_RETRY

/-- RING_DEFLECT: a unicast message of this tile's comes back undelivered and goes round again (R139). -/
def State.deflect (s : State) (cw : Bool) (m : RingMsg) : State :=
  if m.src = s.tileNo ∧ m.bc = false then (s.bump Reg.RING_CNT1_DEFLECT).emitRing cw m else s

/-! ## Answers and losses (R155) -/

def State.dropAwait (s : State) (mseq : Nat) : State :=
  { s with ring := { s.ring with awaits := s.ring.awaits.filter (fun a => a.mseq != mseq) } }.releaseRoutes

def State.awaitOf (s : State) (type mseq : Nat) : Option Await := s.ring.awaits.find? (fun a => a.type == type && a.mseq == mseq)

/-- The channels of this tile that hold shares mirrored across tiles. -/
def State.crossChannels (s : State) : List Nat :=
  (List.range 4).filter (fun c => (s.sharesOf c).any (fun m => decide (m.mirror = 2)))

/-- The peer tile is lost: the primary becomes SOLE and its writes count with their own copy alone (R155, R316, R319). -/
def State.losePeer (s : State) : State :=
  let cs := s.crossChannels.filter (fun c => decide (s.chState c = 0))
  let s : State := { s with repair := { s.repair with peerLost := true, peerWait := false } }
  let s := cs.foldl (fun s c => (((s.setChState c 1).raise 0x1E (atChan c)).set1 Reg.RPMR_EVT_CASTLED).degrade 1) s
  let mine (a : Await) : Bool := a.type == 0x0B && s.qes.any (fun q => q.tag == a.forWhat && q.mir == 2)
  let s : State := { s with ring := { s.ring with awaits := s.ring.awaits.filter (fun a => !mine a), deferred := s.ring.deferred.filter (fun a => !mine a) } }
  (s.mapQEs (fun q => q.mir == 2 && q.src == .host) (fun q => { q with acks := 0, far := [] })).sweep

/-- The second timeout of a MIRROR_WR: Castling where it may be performed, else it awaits firmware (R317). -/
def State.peerFails (s : State) : State :=
  if s.repair.peerLost then s
  else if s.flag Reg.RPMR_CFG_AUTO_CASTLE || s.crossChannels.any (fun c => s.repair.asked.contains c) then s.losePeer
  else
    let s : State := { s with repair := { s.repair with peerWait := true } }
    s.crossChannels.foldl (fun s c => s.raise 0x1F (atChan c)) s

/-- A migration line is done when nothing of its copy is left (R125). -/
def State.migStep (s : State) : State :=
  match s.mig with
  | none => s
  | some m =>
    if s.qes.any (fun q => q.src == .migRd || q.src == .migWr) || s.ring.awaits.any (fun a => a.type == 0x0B && a.forWhat == 0) ||
      s.ring.deferred.any (fun a => a.type == 0x0B && a.forWhat == 0) then s
    else
      let base := (s.entry m.src).base * 2 ^ 14
      { s with mig := some { m with busy := false } }.setFld Reg.AMAP_MIGWM_WM ((m.next.toNat - base) / 2 ^ 14)

/-- MIRROR_ACK: a copy in another tile has been issued (R87, R147, R312). -/
def State.ringMirrorAck (s : State) (mseq : Nat) : State :=
  match s.awaitOf 0x0B mseq with
  | none => s
  | some a =>
    let s := s.dropAwait mseq
    if a.forWhat = 0 then s.migStep
    else (s.mapQE a.forWhat (fun q => { q with acks := q.acks - 1 })).sweep

/-- What a MIRROR_RD was sent for gets its result: a proxied read, or a read repair (R313, R315, R319). -/
def State.mirrorResult (s : State) (tag : Nat) (b : Option Burst) : State :=
  match s.qe? tag with
  | none => s
  | some q =>
    let c := b.map (fun b => classify b q.loc.l none)
    if q.again = 2 then s.repairResult q c
    else match c with
    | some (.line k data stored fixed) =>
      s.demandRead q.loc.sc q (.line k data stored fixed) none
    | c => (s.countBad q (c == some .misaddressed)).finishRead q .ue zeroLine

/-- MIRROR_DATA. -/
def State.ringMirrorData (s : State) (mseq : Nat) (b : Burst) : State :=
  match s.awaitOf 0x0D mseq with
  | none => s
  | some a => (s.dropAwait mseq).mirrorResult a.forWhat (some b)

/-- Send a message a second time under its number (R155). -/
def State.resend (s : State) (a : Await) : State :=
  let s := s.emitRing (a.msg.bc || s.routeCw a.dst) a.msg
  { s with ring := { s.ring with awaits := s.ring.awaits.map (fun x => if x.mseq = a.mseq then { x with again := true, sent := s.tempo } else x) } }

/-- A forwarded request is lost: UE to the host, with a class U record (R155). -/
def State.fwdLost (s : State) (rid tile : Nat) : State :=
  match s.req? rid with
  | none => s
  | some r =>
    let s := (s.set1 Reg.RING_EVT_FWD_LOST).raise 0x24 (atTile tile (r.line 0))
    let s := s.answerRest [] r .ue
    s.freeLines (fun w => w.rid == some rid && carriesData r.op)

/-- The messages that end an offer or a retaining period await their own return (R155). -/
def State.announce (s : State) (type id : Nat) : State :=
  let m := s.ring.mseq
  let a : RingMsg := ⟨type, 0, s.tileNo, true, 0, m, 0, id, []⟩
  let s := s.sendOn true type 0 true id []
  { s with ring := { s.ring with awaits := s.ring.awaits ++ [⟨m, type, s.tileNo, id, s.tempo, false, a⟩] } }

/-- This tile's offer is aborted: the map it offered is dropped everywhere (R151, R155). -/
def State.abortOffer (s : State) (id : Nat) : State :=
  { s with ring := { s.ring with offer := none }, copies := tput none 7 none s.copies }.announce 0x06 id

/-- RSP_TMO_EXPIRY: RSP_TMO has passed without an answer to a message. -/
def State.rspTimeout (s : State) (mseq : Nat) : State :=
  match s.ring.awaits.find? (fun a => a.mseq == mseq) with
  | none => s
  | some a =>
    let s := s.advanceTo (a.sent + ns (1000 * s.fld Reg.RING_CTL_RSP_TMO))
    match a.type with
    | 0x08 => (s.dropAwait mseq).fwdLost a.forWhat a.dst
    | 0x0B =>
      if a.again then
        let s := s.dropAwait mseq
        if a.forWhat = 0 then s.migStep else s.peerFails
      else (s.resend a).set1 Reg.RING_EVT_MIR_RESEND
    | 0x0D =>
      if a.again then (s.dropAwait mseq).mirrorResult a.forWhat none
      else (s.resend a).set1 Reg.RING_EVT_MIR_RESEND
    | _ =>
      if a.again then
        let s := s.dropAwait mseq
        if a.type = 0x04 then
          match s.ring.offer with
          | some o => if o.mine then s.abortOffer o.id else s
          | none => s
        else s
      else s.resend a

/-! ## Forwarding at the serving tile (R122, R146) -/

/-- The answer the mode gives to a forwarded request before anything else (R42, R468). -/
def State.fwdStatus (s : State) : Option Status :=
  match s.mode with
  | .halt => some .halted
  | .endgame => some .offline
  | .bringup => some .notready
  | _ => none

/-- R122: a forwarded request is served where this tile's own entry is at its version and names this tile. -/
def State.serveForwarded (s : State) (r : Req) : State :=
  match s.lookup (r.line 0) with
  | .here e m _ _ => if r.covers = [e, m.ver] then s.serveHere r true else s.answer r.rid .decode true
  | _ => s.answer r.rid .decode true

/-- FWD_REQ arrives: served where this tile's own entry is at that version and names it, else DECODE with misroute 1. -/
def State.ringFwdReq (s : State) (src mseq : Nat) (dl : Tempo) (promo : Bool) (ver ent : Nat) (op : Op) (f : RqFlit) : State :=
  let rid := s.nextRid
  let n := if op == .rd then lineCount op f else 1
  let r : Req := ⟨rid, .ring src mseq, op, f, s.tempo, s.tempo, dl, dl, false, promo, .ingress, false, 0, 0, n, 0, [ent, ver], [], false, false⟩
  let s : State := { s with nextRid := rid + 1, reqs := s.reqs ++ [r] }
  match s.fwdStatus with
  | some st => s.answer rid st
  | none =>
    if s.switchHolds (r.line 0) then s.mapReq rid (fun r => { r with stage := .heldMap })
    else s.serveForwarded r

/-- FWD_WD arrives: the line waits for its request's drain (R146). A line whose request has ended is dropped. -/
def State.ringFwdWd (s : State) (src mseq idx : Nat) (data : LineData) : State :=
  match s.reqs.find? (fun r => r.org == .ring src mseq && carriesData r.op) with
  | some r =>
    if s.wbuf.any (fun w => w.rid == some r.rid && w.idx == idx) ∨ r.lines ≤ idx then s
    else ((s.pushLine ⟨none, some r.rid, r.flit.tag, idx, data, 0⟩).levels).tryAnswer r.rid
  | none =>
    match s.qes.find? (fun q => q.wr && q.port == 16 + src && q.idx == idx && q.pay == .buffer && !s.wbuf.any (fun w => w.rid == some q.rid && w.idx == idx)) with
    | some q => (s.pushLine ⟨none, some q.rid, 0, idx, data, 0⟩).levels
    | none => s

/-- A status that ends a whole request with one flit (R42). -/
def Status.whole (x : Status) : Bool :=
  match x with
  | .decode | .notready | .offline | .halted | .keyfault | .walkdev | .locklost | .illegal => true
  | _ => false

/-- The status of a code (R41); codes beyond the table do not occur. -/
def statusOf (c : Nat) : Status :=
  match c with
  | 0 => .ok | 1 => .okFixed | 2 => .poison | 3 => .ue | 4 => .decode | 5 => .notready | 6 => .offline | 7 => .halted
  | 8 => .keyfault | 9 => .walkdev | 10 => .locklost | _ => .illegal

/-- FWD_RSP arrives: an ordinary response under the original tag (R122, R146). -/
def State.ringFwdRsp (s : State) (mseq : Nat) (st : Status) (mis : Bool) (idx : Nat) (data : LineData) : State :=
  match s.awaitOf 0x08 mseq with
  | none => s
  | some a =>
    match s.req? a.forWhat with
    | none => s.dropAwait mseq
    | some r =>
      if st.whole && decide (r.rsv = r.owed) then
        let s := s.dropAwait mseq
        let s := if st == .decode && mis then s.bump Reg.AMAP_MISCNT_MIS else s
        (s.answer r.rid st mis).freeLines (fun w => w.rid == some r.rid && carriesData r.op && !st.discards)
      else
        let d := if st.code ≤ 1 then data else zeroLine
        let s := s.respond r idx st mis d
        if r.rsv ≤ 1 then
          let s := (s.dropAwait mseq).mapReq r.rid (fun r => { r with stage := .answered })
          s.freeLines (fun w => w.rid == some r.rid && carriesData r.op)
        else s

/-! ## Mirror traffic at the peer (R147) -/

/-- MIRROR_WR: the encoded line is written at the same place and acknowledged once issued. -/
def State.ringMirrorWr (s : State) (src mseq ch l : Nat) (b : Burst) : State :=
  if !s.chUp ch || s.mode == .endgame || s.mode == .halt then s
  else s.addQE { mkQE true (.mirrorWr src mseq) (s.placeOf ch l) s.tempo with pay := .stored b }

/-- MIRROR_RD: the stored copy is fetched unchanged. -/
def State.ringMirrorRd (s : State) (src mseq ch l : Nat) : State :=
  if !s.chUp ch || s.mode == .endgame || s.mode == .halt then s
  else s.addQE (mkQE false (.mirrorRd src mseq) (s.placeOf ch l) s.tempo)

/-! ## Fault notes (R152, R159) -/

/-- FAULT_NOTE from another tile; this tile's own is removed when it comes back (R139). -/
def State.ringNote (s : State) (src cls srcNo : Nat) (t : Tempo) : State :=
  if src = s.tileNo then s
  else s.setFlds [(Reg.RING_NOTE_TILE, src), (Reg.RING_NOTE_SRC, srcNo), (Reg.RING_NOTE_CLASS, cls), (Reg.RING_NOTET_TEMPO, t.toNat / 256),
    (Reg.RING_EVT_NOTE, 1)]

end Sys2Proof.Machine
end

