-- ==== Sys2Proof/Machine/MapAgree.lean ====
section
/-! DEFINITION. Changing the map: the offer, its checks, the commit and the switch at the decoder, retiring, and range migration (R116-R128,
R151). -/

namespace Sys2Proof.Machine

open Sys2Proof

/-! ## Offered words -/

/-- Key of word `i` of entry block `e`, and of its retained version (R134). -/
def blockKey (e i : Nat) : Nat := regKey 7 (0x100 + 0x40 * e + 4 * i)
def retainKey (e i : Nat) : Nat := regKey 7 (0x500 + 0x40 * e + 4 * i)

/-- The 16 entry blocks of 12 words that a source of words spells. -/
def blockWords (get : Nat → Word) : List Word := (List.range 16).flatMap (fun e => (List.range 12).map (fun i => get (blockKey e i)))

/-- Entry `e` of offered words. -/
def offered (ws : List Word) (e : Nat) : MapEntry := entryOf (fun i => nth 0 ws (12 * e + i))

/-- An entry without its version. -/
def MapEntry.plain (m : MapEntry) : MapEntry := { m with ver := 0 }

/-- The entries that offered words change. -/
def State.changedBy (s : State) (ws : List Word) : List Nat :=
  (List.range 16).filter (fun e => (offered ws e).plain != (s.entry e).plain)

/-! ## Checks (R116) -/

/-- An entry still retained, or in an unfinished migration. -/
def State.entryBusy (s : State) (e : Nat) : Bool :=
  s.retained.contains e || (match s.mig with | some m => m.src == e || m.dst == e | none => false)

/-- A range has completed migration from one layout into another. -/
def State.migrated (s : State) (old new : MapEntry) : Bool :=
  s.migDone.any (fun p => (entryOf (fun i => nth 0 p.old i)).layout == old.layout && (entryOf (fun i => nth 0 p.new i)).layout == new.layout)

/-- The failing checks of a map offered to this tile, by AMAP_EVT bit, with the channel decodes that go with it. An entry mirrored across tiles
needs this tile's channel filled (R453). -/
def State.mapFails (s : State) (ws : List Word) (dec : Nat → ChDec) : List Nat :=
  let bad (c : Nat) : Bool := decide (3 ≤ s.chState c) || (s.phy c).phase == .dropped
  let ch := s.changedBy ws
  let wm (c : Nat) : Nat := s.fld (Reg.GLOB_FILLWM_WM c)
  let move := (List.range 16).any (fun i => (s.entry i).vld && (List.range 16).any (fun j =>
    (offered ws j).vld && (ch.contains i || ch.contains j) && moves s.tileNo wm (s.entry i) (offered ws j) &&
    !s.migrated (s.entry i) (offered ws j)))
  let early := (List.range 16).any (fun e =>
    let m := offered ws e
    m.vld && decide (m.mirror = 2) && m.used.any (fun t =>
      (decide (t.1 = s.tileNo) || decide (m.mtile = s.tileNo)) && !s.fbit Reg.GLOB_FILLST_DONE t.2))
  mapCheck s.build.ring s.tileNo bad (offered ws) dec ++ (if early then [3] else []) ++ (if move then [5] else []) ++ (if ch.any s.entryBusy then [6] else [])

/-- Set AMAP_EVT bit `b`. -/
def State.amapEvt (s : State) (b : Nat) : State := s.setFld ⟨7, 0x014, b, b⟩ 1

/-! ## The switch (R118, R119) -/

/-- A commit is received: arrivals for the changed entries are held at the decoder from now on. -/
def State.beginSwitch (s : State) (ws : List Word) : State :=
  { s with ring := { s.ring with switch := some ⟨s.changedBy ws, ws, s.tempo, s.age⟩ } }

/-- A queue entry of an older request to a changed entry that has not issued yet. -/
def State.oldPending (s : State) (w : Switch) (q : QE) : Bool :=
  (q.src == .host || q.src == .second || q.src == .dup) && decide (q.age < w.upTo) && (q.wr || q.stage != .issued) &&
  w.changed.any (fun e => (s.entry e).covers q.host)

/-- Every older request to a changed entry has been issued, those held above a fill watermark after their decode included (R119, R450). -/
def State.mapDrained (s : State) (w : Switch) : Bool :=
  !s.qes.any (s.oldPending w) &&
  !s.reqs.any (fun r => ((r.stage == .queued && decide (r.moved < r.lines)) || r.stage == .heldFill) &&
    w.changed.any (fun e => (s.entry e).covers (r.line 0)))

/-- The new words of one entry: its version advances where a valid entry changes, which is kept as a retained version with the ring. A migration of
the entry is used up by the change (R124). -/
def State.switchEntry (s : State) (ws : List Word) (e : Nat) : State :=
  let old := s.entry e
  let new := offered ws e
  let ver := if old.vld then (old.ver + 1) % 256 else if new.vld then 0 else old.ver
  let s : State := { s with migDone := s.migDone.filter (fun p => p.src != e && p.dst != e) }
  let s := if old.vld && s.build.ring then
      let s := (List.range 12).foldl (fun s i => s.setWord (retainKey e i) (s.word (blockKey e i))) s
      { s with retained := s.retained.filter (· != e) ++ [e] }
    else s
  (List.range 12).foldl (fun s i =>
    let w := nth 0 ws (12 * e + i)
    s.setWord (blockKey e i) (if i = 2 then BitVec.ofNat 32 (w.toNat / 256 * 256 + ver) else w)) s

/-- The offsets of the AMAP page that a COMMIT applies beside the entries: MAPCTL, CHDECn, CHSELn. -/
def amapOwn : List Nat := [0x040, 0x050, 0x054, 0x058, 0x05C, 0x060, 0x064, 0x068, 0x06C]

/-- The value a committed word of those takes (R129). -/
def State.amapOwnWord (s : State) (off : Nat) (w : Word) : Word :=
  if off = 0x040 then
    (let v := Reg.AMAP_MAPCTL_RET_TMO.get w
     if v = 0 ∨ 10000 < v then s.word (regKey 7 off) else w)
  else w

/-- The offering tile's own copy of MAPCTL and the channel decodes takes effect with the map. -/
def State.applyOwn (s : State) : State :=
  match tget none s.copies 7 with
  | none => s
  | some c =>
    let s := amapOwn.foldl (fun s off => s.setWord (regKey 7 off) (s.amapOwnWord off (tget (s.word (regKey 7 off)) c.words (regKey 7 off)))) s
    { s with copies := tput none 7 none s.copies }

/-- Requests held at the decoder for a changed entry are decoded again, in arrival order. -/
def State.decodeHeld (s : State) (c : Req → Bool) : State :=
  (s.reqs.filter c).foldl (fun s r =>
    match r.org with
    | .port _ => s.decodeReq r true
    | .ring _ _ => s.serveForwarded r) s

/-- MAP_SWITCH: the older requests have issued; the decoder switches and releases the held requests in arrival order. -/
def State.mapSwitch (s : State) : State :=
  match s.ring.switch with
  | none => s
  | some w =>
    if !s.mapDrained w then s
    else
      let ids := (s.reqs.filter (fun r => r.stage == .heldMap)).map (·.rid)
      let s := w.changed.foldl (fun s e => s.switchEntry w.words e) s
      let s := s.applyOwn
      let s := s.setFld Reg.AMAP_CMTSTAT_HOLD (min 0xFFFF ((s.tempo - w.since).toNat / 1000))
      let s := s.set1 Reg.AMAP_EVT_COMMITTED
      let s : State := { s with ring := { s.ring with switch := none } }
      s.decodeHeld (fun r => ids.contains r.rid)

/-! ## Agreement on the ring (R117, R151) -/

/-- The payload of an offer: 16 blocks of three flits. -/
def offerFlits (ws : List Word) : List (BitVec 128) :=
  flitsOf 48 (ws.foldr (fun w acc => acc * 2 ^ 32 + w.toNat) 0)

/-- A COMMIT of the AMAP page has passed this tile's checks: the map is offered, or without the ring applied (R117). -/
def State.offerMap (s : State) (ws : List Word) : State :=
  if !s.build.ring then s.beginSwitch ws
  else
    let id := s.ring.offerId
    let m := s.ring.mseq
    let a : RingMsg := ⟨0x04, 0, s.tileNo, true, 48, m, 0, id, offerFlits ws⟩
    let s := s.sendOn true 0x04 0 true id (offerFlits ws)
    { s with ring := { s.ring with
        offer := some ⟨id, s.tileNo, ws, true, s.tempo, false⟩
        offerId := (id + 1) % 256
        awaits := s.ring.awaits ++ [⟨m, 0x04, s.tileNo, id, s.tempo, false, a⟩] } }

/-- A broadcast of this tile's comes back: it awaits nothing more. -/
def State.ownReturned (s : State) (type id : Nat) : State :=
  { s with ring := { s.ring with awaits := s.ring.awaits.filter (fun a => !(a.type == type && a.forWhat == id)) } }

/-- The reason this tile refuses an offer with, if it does (R116, R142, R151, R468). -/
def State.offerRefusal (s : State) (src id : Nat) (ws : List Word) : Option Nat :=
  if !s.flag Reg.RING_STAT_NUMBERED then some 8
  else if s.ring.offer.any (fun o => o.src != src || o.id != id) then some 8
  else if s.mode == .endgame && (List.range 16).any (fun e => (offered ws e).vld && (offered ws e).used.any (fun t => decide (t.1 = s.tileNo))) then some 3
  else (s.mapFails ws s.chDec).head?

/-- MAP_OFFER of another tile: checked unless it is already refused, and passed on (R151). -/
def State.ringOffer (s : State) (src mseq id : Nat) (refused : Bool) (refuser reason : Nat) (ws : List Word) : State :=
  let no := if refused then none else s.offerRefusal src id ws
  let s : State := if refused || no.isSome || s.ring.applied.contains (src, id) then s
    else { s with ring := { s.ring with offer := some ⟨id, src, ws, false, s.tempo, false⟩ } }
  let arg := match no with
    | some r => id + 2 ^ 8 + s.tileNo * 2 ^ 9 + r * 2 ^ 14
    | none => id + b2n refused * 2 ^ 8 + refuser * 2 ^ 9 + reason * 2 ^ 14
  s.emitRing true ⟨0x04, 0, src, true, 48, mseq, 0, arg, offerFlits ws⟩

/-- A commit of an offer this tile holds: it is applied once (R119, R123, R151). -/
def State.takeCommit (s : State) (o : Offer) : State :=
  let s : State := { s with ring := { s.ring with
    offer := none
    applied := (s.ring.applied ++ [(o.src, o.id)]).drop (s.ring.applied.length - 63)
    offeredLast := o.mine
    retire := if o.mine then some s.tempo else none } }
  s.beginSwitch o.words

/-- MAP_OFFER_RETURN: the offering tile broadcasts MAP_COMMIT where no tile refused, MAP_ABORT otherwise. -/
def State.offerReturn (s : State) (id : Nat) (refused : Bool) : State :=
  match s.ring.offer with
  | none => s
  | some o =>
    if !o.mine || o.id != id then s
    else
      let s := s.ownReturned 0x04 id
      if refused then
        (s.abortOffer id).amapEvt 8
      else (s.announce 0x05 id).takeCommit o

/-- MAP_OFFER_TIMEOUT: an offer has not returned within 1 ms. -/
def State.offerTimeout (s : State) : State :=
  match s.ring.offer with
  | none => s
  | some o =>
    if o.mine then
      ((s.advanceTo (o.sent + ns 1000000)).ownReturned 0x04 o.id).abortOffer o.id
    else s

/-- MAP_COMMIT arrives; the source's own broadcast is removed. -/
def State.ringCommit (s : State) (src id : Nat) : State :=
  if src = s.tileNo then s.ownReturned 0x05 id
  else match s.ring.offer with
  | some o => if o.src = src ∧ o.id = id ∧ s.ring.applied.contains (src, id) = false then s.takeCommit o else s
  | none => s

/-- MAP_ABORT arrives: the offered map is dropped. -/
def State.ringAbort (s : State) (src id : Nat) : State :=
  if src = s.tileNo then s.ownReturned 0x06 id
  else match s.ring.offer with
  | some o => if o.src = src ∧ o.id = id then { s with ring := { s.ring with offer := none } } else s
  | none => s

/-- Every retained version is discarded (R123). -/
def State.discardRetained (s : State) : State :=
  let s := s.retained.foldl (fun s e => (List.range 12).foldl (fun s i => s.setWord (retainKey e i) 0) s) s
  { s with retained := [] }.set1 Reg.AMAP_EVT_RETIRED

/-- MAP_RETIRE arrives. -/
def State.ringRetire (s : State) (src id : Nat) : State :=
  if src = s.tileNo then s.ownReturned 0x07 id
  else if s.ring.applied.contains (src + 64, id) then s
  else { s with ring := { s.ring with applied := (s.ring.applied ++ [(src + 64, id)]).drop (s.ring.applied.length - 63) } }.discardRetained

/-- MAP_RETIRE is sent by the tile that offered the latest commit (R123, R130). -/
def State.sendRetire (s : State) : State :=
  if s.build.ring && s.ring.offeredLast && s.ring.retire.isSome then
    let s : State := { s with ring := { s.ring with retire := none } }
    (s.announce 0x07 ((s.ring.offerId + 255) % 256)).discardRetained
  else s

/-- RET_TMO_EXPIRY. -/
def State.retireTimeout (s : State) : State :=
  match s.ring.retire with
  | some t => (s.advanceTo (t + ns (1000000 * s.fld Reg.AMAP_MAPCTL_RET_TMO))).sendRetire
  | none => s

/-! ## Migration (R125-R128) -/

/-- Line address after the last of an entry. -/
def MapEntry.endLine (m : MapEntry) : Nat := (m.limit + 1) * 2 ^ 14

/-- The next host line from `a` on that a tile holds under an entry. -/
def nextOwn (m : MapEntry) (own : Nat) : Nat → Nat → Option Nat
  | 0, _ => none
  | fuel + 1, a =>
    if m.endLine ≤ a then none
    else if (m.slot (m.target (a * 64)).1).1 = own then some a
    else
      let off := a * 64 - m.base * 2 ^ 20
      nextOwn m own fuel ((m.base * 2 ^ 20 + ((off >>> m.g) + 1) * 2 ^ m.g) / 64)

/-- AMAP_MIGCTL is written. While a migration runs GO stays 1, and the migration keeps the entries it began with; RATE, DST and SRC take their new
values (R133, log entry 15). -/
def State.migWrite (s : State) (w : Word) : State :=
  if s.mig.isSome then (s.setWord Reg.AMAP_MIGCTL_GO.key w).set1 Reg.AMAP_MIGCTL_GO
  else
    let s := s.setWord Reg.AMAP_MIGCTL_GO.key w
    if Reg.AMAP_MIGCTL_GO.get w = 0 then s
    else
      let src := Reg.AMAP_MIGCTL_SRC.get w
      let s := (s.clr Reg.AMAP_MIGSTAT_DONE).clr Reg.AMAP_MIGWM_WM
      { s with
        mig := some ⟨src, Reg.AMAP_MIGCTL_DST.get w, BitVec.ofNat 46 ((s.entry src).base * 2 ^ 14), false, 0, 0⟩
        migDone := s.migDone.filter (fun p => p.src != src) }

/-- A line is written under the destination's layout: by this tile's own write, through the ring, and in both copies of a mirrored
destination. `f` gives the stored burst for a channel-local line address. -/
def State.migPut (s : State) (g : Migration) (f : Nat → Burst) : State :=
  let d := s.entry g.dst
  let (tc, cb) := d.resolve (g.cur.toNat * 64)
  let l := cb / 64
  let places := (tc.1, tc.2) :: (if d.mirror = 1 then [(tc.1, tc.2 ^^^ 1)] else if d.mirror = 2 then [(d.mtile, tc.2)] else [])
  places.foldl (fun s p =>
    if p.1 = s.tileNo then
      (if s.chUp p.2 then s.addQEAt { mkQE true .migWr (s.placeOf p.2 l) (s.tempo + ns (2 ^ 30)) with pay := .stored (f l), host := g.cur, age := g.age }
       else s)
    else s.sendAwait 0x0B p.1 (p.2 + l * 4) (flitsOf 5 (f l).toNat) 0) s

/-- MIGRATION_COPY_LINE: the next line of this tile's share is read, or written as a fill line where it was never filled; after the last
the share is done. -/
def State.migCopy (s : State) : State :=
  match s.mig with
  | none => s
  | some g =>
    let m := s.entry g.src
    if g.busy then s
    else match (if m.vld then nextOwn m s.tileNo 80 g.next.toNat else none) with
    | none =>
      let blocks (e : Nat) : List Word := (List.range 12).map (fun i => s.word (blockKey e i))
      let s : State := { s with mig := none, migDone := s.migDone ++ [⟨g.src, g.dst, blocks g.src, blocks g.dst⟩] }
      s.setFlds [(Reg.AMAP_MIGSTAT_DONE, 1), (Reg.AMAP_MIGCTL_GO, 0), (Reg.AMAP_MIGWM_WM, m.limit + 1 - m.base), (Reg.AMAP_EVT_MIG_DONE, 1)]
    | some a =>
      let (tc, cb) := m.resolve (a * 64)
      let l := cb / 64
      let c := if m.mirror = 1 ∧ s.chUp tc.2 = false then tc.2 ^^^ 1 else tc.2
      let g : Migration := { g with next := BitVec.ofNat 46 (a + 1), busy := true, cur := BitVec.ofNat 46 a, age := s.age }
      let s : State := { s with mig := some g }
      if s.fld (Reg.GLOB_FILLWM_WM c) ≤ l then
        { s with age := s.age + 1 }.migPut g fillBurst
      else s.addQE { mkQE false .migRd (s.placeOf c l) (s.tempo + ns (2 ^ 30)) with host := g.cur }

/-- A migration's read has been decoded (R127). -/
def State.migReturn (s : State) (q : QE) (c : Class) : State :=
  let s := s.dropQE q.tag
  match s.mig with
  | none => s
  | some g =>
    match c with
    | .line k data _ _ => (s.migPut g (encodeLine k data)).migStep
    | _ =>
      let p := atLoc q.loc 0xF
      let s := ((s.raise 0x22 (if c == .misaddressed then { p with aux := p.aux + 2 ^ 15 } else p)).bump Reg.AMAP_MIGSTAT_UE).set1 Reg.AMAP_EVT_MIG_UE
      (s.migPut g poisonBurst).migStep

/-- AMAP_MAPSTAT.AGREE (R130). -/
def State.agree (s : State) : Nat := if s.ring.offer.isSome then 1 else if s.retained.isEmpty then 0 else 2

end Sys2Proof.Machine
end

