-- ==== Sys2Proof/Machine/Phy.lean ====
section
/-! DEFINITION. The PHYs: PLLs and relocking, impedance calibration, and the bring-up training steps (R337-R353). -/

namespace Sys2Proof.Machine

open Sys2Proof

/-! ## PLL -/

/-- A lattice's tick counter and every timing counter are cleared (R203). -/
def Sub.restart (u : Sub) : Sub :=
  { u with
    tick := 0
    bkAct := []
    bkCol := []
    bkPre := []
    rkActg := []
    rkRdg := []
    rkWrg := []
    rkWtrg := []
    rkFaw := []
    rkBusy := []
    rkMr := []
    lastRd := none
    lastWr := none
    used := []
    recent := []
    zqDone := [] }

/-- A PLL is enabled: attempt one or two. -/
def State.pllStart (s : State) (c : Nat) (st : PllSt) : State :=
  (s.setPhy c { s.phy c with pll := st, pllAt := s.tempo }).clr (Reg.CHN_PLL_LOCK c)

/-- A PLL that is enabled locks: CHNn_PLL; in BRINGUP and at a wake both tick counters are cleared (R203, R406). From now on CK is valid (R226). -/
def State.pllLocks (s : State) (c : Nat) : State :=
  let x := s.phy c
  let s := s.setPhy c { x with pll := .locked }
  let s := s.setFlds [(Reg.CHN_PLL_LOCK c, 1), (Reg.CHN_PLL_LOCKT c, min 0xFF ((s.tempo - x.pllAt).toNat / 100))]
  [2 * c, 2 * c + 1].foldl (fun s sc =>
    let u := if s.mode = .bringup ∨ s.mode = .sleep then (s.sub sc).restart else s.sub sc
    s.setSub sc { u with ckFrom := 4 * u.tick }) s

/-- 20 µs after enable (R337). -/
def State.pllDeadline (s : State) (c : Nat) : Tempo := (s.phy c).pllAt + ns 20000

/-! ## Channels that do not come up (R351, R455) -/

/-- Write channel `c`'s place in TRAIN_STAT. -/
def State.setTrainStat (s : State) (c v : Nat) : State :=
  let w := s.fld Reg.TRAIN_STAT_STATE
  s.setFld Reg.TRAIN_STAT_STATE (w - ((w >>> (4 * c)) % 16) * 2 ^ (4 * c) + v * 2 ^ (4 * c))

/-- Write channel `c`'s place in TRAIN_DUR. -/
def State.setTrainDur (s : State) (c v : Nat) : State :=
  let w := s.fld Reg.TRAIN_DUR_DUR
  s.setFld Reg.TRAIN_DUR_DUR (w - ((w >>> (8 * c)) % 256) * 2 ^ (8 * c) + v * 2 ^ (8 * c))

/-- TRAIN_FAIL keeps the first failure (R356). -/
def State.trainFail (s : State) (sc rk step grp reason : Nat) : State :=
  if s.flag Reg.TRAIN_FAIL_VLD then s
  else s.setFlds [(Reg.TRAIN_FAIL_VLD, 1), (Reg.TRAIN_FAIL_CH, sc / 2), (Reg.TRAIN_FAIL_SC, sc % 2), (Reg.TRAIN_FAIL_RK, rk),
    (Reg.TRAIN_FAIL_STEP, step), (Reg.TRAIN_FAIL_GROUP, grp), (Reg.TRAIN_FAIL_REASON, reason)]

/-- No present channel is left: a fatal fault (R351). -/
def State.allFailed (s : State) : State :=
  if s.startup.present.all (fun c => (s.phy c).phase == .dropped) then
    let s := (s.raise 0x29 nowhere).set1 Reg.TRAIN_EVT_ALL_FAIL
    if s.startup.present.isEmpty then s else s.set1 Reg.TRAIN_EVT_DONE
  else s

/-- A channel fails training: reset held, CK stopped, FAILED, a class U record (R351). -/
def State.dropChannel (s : State) (c : Nat) : State :=
  let x := s.phy c
  let s := if x.phase = .training then s.setTrainDur c (min 0xFF ((s.tempo - x.tStart).toNat / 200000)) else s
  let s := s.setPhy c { x with phase := .dropped, resetN := false, pll := .off }
  let s := (s.emit (.channelReset c false)).setChState c 2
  let s := if x.pll = .locked then s.emit (.ckStop c (4 * max (s.sub (2 * c)).tick (s.sub (2 * c + 1)).tick)) else s
  let s := (s.setFlds [(Reg.CHN_PLL_LOCK c, 0), (Reg.CHN_TEMP_VALID c, 0), (Reg.TRAIN_EVT_CH_FAIL, 1)]).setTrainStat c 0xA
  (s.raise 0x28 (atChan c)).allFailed

/-- A failure before step 1 (R445, R455). -/
def State.bringFail (s : State) (c reason : Nat) : State := (s.trainFail (2 * c) 0 0 0xF reason).dropChannel c

/-! ## Impedance (R340) -/

/-- The codes of a calibration; one at either end of its range is an error. -/
def State.zqCodes (s : State) (c pu pd : Nat) : State :=
  let bad := decide (pu % 64 = 0) || decide (pu % 64 = 63) || decide (pd % 64 = 0) || decide (pd % 64 = 63)
  let s := s.setFlds [(Reg.CHN_ZQ_PU c, pu), (Reg.CHN_ZQ_PD c, pd), (Reg.CHN_ZQ_DONE c, 1), (Reg.CHN_ZQ_ERR c, b2n bad)]
  if bad then s.set1 (Reg.CHN_EVT_ZQ_ERR c) else s

/-- An idle gap is open: in the 4 CK of the present tick no data window lies on the subchannel's lanes (R366). -/
def State.gapOpen (s : State) (sc : Nat) : Bool :=
  let u := s.sub sc
  [0, 1].all (fun rk => [0, 1, 2, 3].all (fun j => !windowOpen s.timg u rk (4 * u.tick + j)))

/-- Codes that wait are applied in a gap in which no data window is open on the channel. -/
def State.zqApply (s : State) (c : Nat) : State :=
  match (s.phy c).zqNew with
  | none => s
  | some (pu, pd) =>
    if s.gapOpen (2 * c) && s.gapOpen (2 * c + 1) then (s.setPhy c { s.phy c with zqNew := none }).zqCodes c pu pd else s

/-- PHY_ZQ_RECAL: the PHY recalibrates every ZQ_INT milliseconds. -/
def State.phyRecal (s : State) (c pu pd : Nat) : State :=
  if s.latticeOn c && s.flag (Reg.CHN_ZQ_DONE c) then
    let s := s.periodic (tmrPhyZq c) s.zqInt
    (s.setPhy c { s.phy c with zqNew := some (pu, pd) }).zqApply c
  else s

/-! ## Training steps (R346-R350) -/

/-- The strobe pairs that a channel's module uses (R333). -/
def State.pairs (s : State) (c : Nat) : List Nat := if s.flag (Reg.CHN_CFG_X8 c) then [0, 2, 4, 6, 8] else List.range 10

/-- The groups a strobe pair serves. -/
def State.pairGroups (s : State) (c p : Nat) : List Nat := if s.flag (Reg.CHN_CFG_X8 c) then [p, p + 1] else [p]

/-- A failure found by an attempt: the group, or 0xF, and the reason of R356. -/
abbrev Miss := Nat × Nat

/-- Why a sweep of a group fails: no passing point, or a window below the minimum. -/
def sweepMiss (g minw : Nat) (f : Option EyeFit) : List Miss :=
  match f with
  | none => [(g, 3)]
  | some e => if e.win < minw then [(g, 1)] else []

/-- The least window with its zero rule (R354). -/
def State.minw (s : State) (f : FRef) : Nat := max 1 (s.fld f)

/-- The lanes of a group. -/
def groupLanes (g : Nat) : List Nat := (List.range 4).map (fun i => 4 * g + i)

/-- The misses of an attempt at a step on a rank; groups recorded for erasure are not judged. -/
def State.misses (s : State) (sc step : Nat) (skip : List Nat) (x : TrainRes) : List Miss :=
  let c := sc / 2
  let gs := (List.range 10).filter (fun g => !skip.contains g)
  let rd := gs.flatMap (fun g => sweepMiss g (s.minw Reg.TRAIN_CRIT_MINW_RD) (eyeFit x.runs (groupLanes g)))
  let wr := gs.flatMap (fun g => sweepMiss g (s.minw Reg.TRAIN_CRIT_MINW_WR) (eyeFit x.wruns (groupLanes g)))
  let ca := s.minw Reg.TRAIN_CRIT_MINW_CA
  if !x.answered then [(0xF, 4)]
  else match step with
  | 1 => sweepMiss 0xF ca (eyeFit x.runs [0]) ++ sweepMiss 0xF ca (eyeFit x.runs [1, 2, 3, 4, 5, 6, 7])
  | 2 => (s.pairs c).filterMap (fun p => if x.strobes.any (fun r => r.pair == p && decide (r.coarse ≤ 7)) then none else some (p, 2))
  | 3 => (s.pairs c).filterMap (fun p => match x.strobes.find? (fun r => r.pair == p && decide (r.coarse ≤ 15)) with
      | none => some (p, 2)
      | some r => if r.width < 64 then some (p, 1) else none)
  | 4 => rd
  | 5 => wr
  | 6 => rd ++ wr
  | _ => []

/-- R349: the widest window, then the code nearer the middle of the range, then the lower. -/
def vrefBetter (a b : CodeWin) : Bool :=
  let m (x : CodeWin) : Nat := (2 * (x.code : Int) - 127).natAbs
  decide (b.win < a.win) || (decide (a.win = b.win) && (decide (m a < m b) || (decide (m a = m b) && decide (a.code < b.code))))

/-- R349: the code chosen from every fourth code, then from the three either side of it. -/
def vrefPick (l : List CodeWin) (dflt : Nat) : Nat :=
  match best vrefBetter (l.filter (fun x => x.code % 4 == 0)) with
  | none => dflt
  | some b => ((best vrefBetter (l.filter (fun x => decide (x.code ≤ b.code + 3) && decide (b.code ≤ x.code + 3)))).getD b).code

/-- The windows of one code over both groups of an x8 device: the narrower counts (R349). -/
def narrower (l : List CodeWin) (gs : List Nat) : List CodeWin :=
  match gs with
  | [] => []
  | g :: _ => (l.filter (fun x => x.grp == g)).filterMap (fun x =>
      if gs.all (fun h => l.any (fun y => y.grp == h && y.code == x.code)) then
        some { x with win := (l.filter (fun y => gs.contains y.grp && y.code == x.code)).foldl (fun m y => min m y.win) x.win }
      else none)

/-- R350: the widest, on a tie the lower; a candidate of 1 or more only if 4 steps wider than candidate 0. -/
def dfePick (l : List CodeWin) : Nat :=
  let base := match l.find? (fun x => x.code == 0) with | some x => x.win | none => 0
  match best (fun (a b : CodeWin) => decide (b.win < a.win) || (decide (a.win = b.win) && decide (a.code < b.code))) (l.filter (fun x => decide (x.code ≤ 7))) with
  | some b => if b.code ≠ 0 ∧ base + 4 ≤ b.win then b.code else 0
  | none => 0

/-- Change the trims of a lane group in the ranks listed. -/
def State.mapTrim (s : State) (sc : Nat) (rks : List Nat) (g : Nat) (f : Trim → Trim) : State :=
  rks.foldl (fun s rk => s.setTrim (laneKey sc rk g) (f (s.trim (laneKey sc rk g)))) s

/-- The read and write sweeps of a group come into force, with their windows. -/
def State.useSweep (s : State) (sc : Nat) (rks : List Nat) (g : Nat) (wr : Bool) (l : List LaneRun) : State :=
  match eyeFit l (groupLanes g) with
  | none => s
  | some e =>
    let s := s.mapTrim sc rks g (fun t => if wr then { t with wrDly := e.dly, wdsk := e.dsk } else { t with rdDly := e.dly, rdsk := e.dsk })
    rks.foldl (fun s rk =>
      let k := laneKey sc rk g
      s.setEye k (if wr then { s.eye k with wrW := e.win.toNat } else { s.eye k with rdW := e.win.toNat })) s

/-- The ranks that share what an attempt finds: on an MRDIMM steps 2 to 7 train one host-side path for both (R344). -/
def State.trainRanks (s : State) (step rk : Nat) : List Nat := if s.mrdimm && decide (2 ≤ step) then [0, 1] else [rk]

/-- The DRAM's own settings that a step finds go to the devices by MRW: VrefDQ after step 6, the DFE candidate after step 7 (R341). -/
def State.trainModes (s : State) (sc step : Nat) (rks gs : List Nat) : State :=
  rks.foldl (fun s rk => gs.foldl (fun s g =>
    let t := s.trim (laneKey sc rk g)
    if step = 6 then s.emit (.modeVref sc rk g t.dvref) else if step = 7 then s.emit (.modeDfe sc rk g t.dfe) else s) s) s

/-- The results of an attempt that passed, but for the groups recorded for erasure. A CA result holds for the subchannel: that of the rank trained
last (log entry 18). Step 7 leaves a group as it was where its write window would come out narrower (R346). -/
def State.useResult (s : State) (sc step rk : Nat) (skip : List Nat) (x : TrainRes) : State :=
  let c := sc / 2
  let rks := s.trainRanks step rk
  let gs := (List.range 10).filter (fun g => !skip.contains g)
  let sweep (s : State) (wr : Bool) : State := gs.foldl (fun s g => s.useSweep sc rks g wr (if wr then x.wruns else x.runs)) s
  match step with
  | 1 =>
    match eyeFit x.runs [0], eyeFit x.runs [1, 2, 3, 4, 5, 6, 7] with
    | some cs, some ca =>
      let s := s.setCaTrim (2 * sc + rk) ⟨ca.dly, cs.dly, x.vrefCa % 128, x.vrefCs % 128, ca.win.toNat⟩
      s.setCaTrim (2 * sc + (1 - rk)) { s.caTrim (2 * sc + (1 - rk)) with caDly := ca.dly, vrefCa := x.vrefCa % 128, caW := ca.win.toNat }
    | _, _ => s
  | 2 | 3 => x.strobes.foldl (fun s r => (s.pairGroups c r.pair).foldl (fun s g => s.mapTrim sc rks g (fun t =>
      if step = 2 then { t with wlC := r.coarse, wlF := clampDly r.fine } else { t with gateC := r.coarse, gateF := clampDly r.fine })) s) s
  | 4 => sweep s false
  | 5 => sweep s true
  | 6 =>
    let s := gs.foldl (fun s g => s.mapTrim sc rks g (fun t => { t with hvref := vrefPick (x.vrefs.filter (fun r => r.grp == g)) t.hvref })) s
    let s := (s.pairs c).foldl (fun s p => (s.pairGroups c p).foldl (fun s g => s.mapTrim sc rks g (fun t =>
      { t with dvref := vrefPick (narrower x.dvrefs (s.pairGroups c p)) t.dvref })) s) s
    (sweep (sweep s false) true).trainModes sc 6 rks gs
  | _ =>
    let wider (g : Nat) : Bool := match eyeFit x.wruns (groupLanes g) with | some e => decide ((s.eye (laneKey sc rk g)).wrW ≤ e.win.toNat) | none => false
    let gs := gs.filter wider
    let s := gs.foldl (fun s g => (s.mapTrim sc rks g (fun t => { t with dfe := dfePick (x.dfe.filter (fun r => r.grp == g)) })).useSweep sc rks g true x.wruns) s
    s.trainModes sc 7 rks gs

/-- R351: the trims of a group recorded for erasure: delays and deskews 0, Vref at the JESD79-5 default, 75 % (PRESUMED, log entry 46). -/
def State.eraseTrims (s : State) (sc : Nat) (rks : List Nat) (g : Nat) : State :=
  s.mapTrim sc rks g (fun t => { t with wrDly := 0, rdDly := 0, rdsk := [0, 0, 0, 0], wdsk := [0, 0, 0, 0], hvref := 80, dvref := 45 })

/-- R350: step 7 runs at this rate. -/
def State.dfeRuns (s : State) : Bool :=
  s.flag Reg.TRAIN_CTL_DFE_EN && decide (64 ≤ (if s.mrdimm then s.fld Reg.TIMG_MODE_RATE / 2 else s.fld Reg.TIMG_MODE_RATE))

/-- R353: the trained values fill the whole book; the point nearest θ0, the colder on a tie, is measured. -/
def State.storeBook (s : State) (c : Nat) : State :=
  let th := (s.phy c).th0
  let near := ((best (fun (a b : Nat) => decide ((th - pointTh a).natAbs < (th - pointTh b).natAbs)) (List.range 5))).getD 0
  let s := [2 * c, 2 * c + 1].foldl (fun s sc => [0, 1].foldl (fun s rk => (List.range 10).foldl (fun s g => (List.range 5).foldl (fun s i =>
    let m := decide (i = near)
    s.setBookEnt (bookKey sc rk g i) ⟨s.trim (laneKey sc rk g), m, if m then th else 0, m, if m then th else 0⟩) s) s) s) s
  s.setPhy c { s.phy c with bookNew := false, thDone := th, thL := th }

/-- Both subchannels of a channel are through step 7: it has passed (R353, R355). -/
def State.channelTrained (s : State) (c : Nat) : State :=
  if (s.train (2 * c)).step = 8 ∧ (s.train (2 * c + 1)).step = 8 then
    let er := !(s.train (2 * c)).erase.isEmpty || !(s.train (2 * c + 1)).erase.isEmpty
    let s := (s.setTrainStat c (if er then 9 else 8)).setTrainDur c (min 0xFF ((s.tempo - (s.phy c).tStart).toNat / 200000))
    (s.setPhy c { s.phy c with phase := .passed }).storeBook c
  else s

/-- The step that follows. -/
def State.stepAfter (s : State) (step : Nat) : Nat := if step = 6 ∧ s.dfeRuns = false then 8 else step + 1

/-- An attempt passed, or its failing group was recorded: rank 1 next, or the next step. -/
def State.trainOn (s : State) (sc : Nat) : State :=
  let c := sc / 2
  let x := s.train sc
  let s := if x.step = 4 then s.setPhy c { s.phy c with th0 := (s.phy c).samples.headD 0 } else s
  if x.rk = 0 ∧ (s.ranks c).contains 1 = true ∧ (s.trainRanks x.step 0).length = 1 then s.setTrain sc { x with rk := 1, tries := 0 }
  else
    let s := s.setTrain sc { x with step := s.stepAfter x.step, rk := 0, tries := 0 }
    let slow := min (s.train (2 * c)).step (s.train (2 * c + 1)).step
    (if slow = 8 then s else s.setTrainStat c slow).channelTrained c

/-- TRAIN_STEP_DONE: the attempt in progress on a subchannel ends (R346, R351). -/
def State.trainStep (s : State) (sc : Nat) (x : TrainRes) : State :=
  let c := sc / 2
  let t := s.train sc
  if (s.phy c).phase ≠ .training ∨ t.step = 0 ∨ 7 < t.step then s
  else
    let rks := s.trainRanks t.step t.rk
    let skip := (t.erase.filter (fun e => rks.contains e.1)).map (·.2)
    let bad := s.misses sc t.step skip x
    let groups := (bad.map (·.1)).dedup
    let (g, why) := nth (0xF, 3) bad 0
    if bad.isEmpty then (s.useResult sc t.step t.rk skip x).trainOn sc
    else if t.tries < s.fld Reg.TRAIN_CTL_RETRY then
      (s.setTrain sc { t with tries := t.tries + 1 }).set1 Reg.TRAIN_EVT_RETRY
    else
      let s := s.trainFail sc t.rk t.step g why
      if decide (4 ≤ t.step) && decide (t.step ≤ 6) && decide (why ≠ 4) && decide (groups.length = 1) && s.flag Reg.TRAIN_CTL_ERS_OK && t.erase.isEmpty then
        let s := (s.useResult sc t.step t.rk (g :: skip) x).eraseTrims sc rks g
        let s := s.setTrain sc { s.train sc with erase := rks.map (fun rk => (rk, g)) }
        (s.set1 Reg.TRAIN_EVT_GRP_ERASE).trainOn sc
      else s.dropChannel c

/-- Training starts on a channel (R345). -/
def State.startTraining (s : State) (c : Nat) : State :=
  let s := s.setPhy c { s.phy c with phase := .training, tStart := s.tempo }
  let s := [2 * c, 2 * c + 1].foldl (fun s sc => s.setTrain sc ⟨1, 0, 0, []⟩) s
  s.setTrainStat c 1

/-! ## What the DRAM-side pins are doing (R334) -/

/-- The pins of a channel, as R334 groups them. -/
inductive PadPin where
  | ck | ca | csN | dq | resetN | alertN
  deriving DecidableEq, Repr

/-- What a pin is doing. -/
inductive PadState where
  /-- not driven -/
  | floats
  /-- held by the AON retention drivers -/
  | heldHigh | heldLow
  /-- CK_t low, CK_c high -/
  | ckParked
  | running | drivenLow | driven
  /-- driven in write windows only -/
  | windows
  /-- an input nobody looks at, or one that is watched -/
  | ignored | sampled
  deriving DecidableEq, Repr

/-- The channel is out of use, or the tile sleeps: the last column of R334. -/
def State.padsIdle (s : State) (c : Nat) : Bool :=
  decide (2 ≤ s.chState c) || (s.phy c).phase == .dropped || ((s.phy c).phase == .passed && (s.phy c).pll == .off) || (s.mode == .sleep && s.power.sleep == .asleep)

/-- R334: the state of a pin of channel `c`. -/
def State.pad (s : State) (c : Nat) (p : PadPin) : PadState :=
  let x := s.phy c
  let early := x.phase == .powered || x.phase == .released
  let off := x.phase == .idle
  match p with
  | .ck => if s.padsIdle c || off then .floats else if x.pll == .locked then .running else .ckParked
  | .ca => if s.padsIdle c || off then .floats else if early then .drivenLow else .driven
  | .csN => if s.padsIdle c || off || early then .heldHigh else .driven
  | .dq => if s.padsIdle c || off || early then .floats else .windows
  | .resetN => if x.resetN then .heldHigh else .heldLow
  | .alertN =>
    if !s.padsIdle c && (x.phase == .passed || (x.phase == .training && decide (2 ≤ (s.train (2 * c)).step) && decide (2 ≤ (s.train (2 * c + 1)).step)))
    then .sampled else .ignored

/-! ## Loss of lock in service (R338, R339) -/

/-- A discarded command never issued: the recorded row is what it was before. -/
def Sub.undo (u : Sub) (i : Issue) : Sub :=
  match i.cmd with
  | .act | .pre | .rda | .wra => { u with rowOf := tput 0 (bankKey i.rk i.bk) i.was u.rowOf }
  | _ => u

/-- The lattices of a channel lose their accepted commands; what was served by them, and reads whose data has not come back and writes with an open
alert window, are proposed again. -/
def State.discardAccepted (s : State) (c : Nat) : State :=
  [2 * c, 2 * c + 1].foldl (fun s sc =>
    let u := s.sub sc
    let tags := u.accepted.map (·.tag) ++ u.reading.map (·.tag) ++ u.alertWin.map (·.tag)
    let u' := (u.accepted.reverse).foldl (fun u i => u.undo i) u
    let s := s.setSub sc { u' with
      accepted := []
      reading := []
      alertWin := []
      verdicts := u.verdicts.filter (fun v => !u.accepted.any (fun i => i.tag == v.tag))
      maint := u.maint.map (fun m => if tags.contains m.tag then { m with placed := false } else m) }
    let s := s.mapQEs (fun q => q.loc.sc == sc && tags.contains q.tag && !q.done) (fun q => { q with stage := .wait, e := 0 })
    (List.range 64).foldl (fun s i =>
      let b := 64 * sc + i
      let o := tget 0 (s.sub sc).rowOf i
      let out := (s.sub sc).window.any (fun p => p.rk == i / 32 && p.bk == i % 32)
      s.setEng b { s.eng b with row := if o = 0 then none else some (o - 1), outstanding := out && (s.eng b).outstanding }) s) s

/-- PLL_LOSS_OF_LOCK in service: the channel is held and the first relock attempt begins. -/
def State.pllLost (s : State) (c : Nat) : State :=
  let x := s.phy c
  if x.pll ≠ .locked ∨ x.phase ≠ .passed ∨ s.chUp c = false ∨ s.inService = false then s
  else
    let s := ((s.bump (Reg.CHN_PLL_LOSS c)).set1 (Reg.CHN_EVT_LOCK_LOST c)).holdChannel c
    let s := (s.discardAccepted c).redirectReads c false
    let s := s.epAbortCh c
    (s.setPhy c { s.phy c with relock := 1 }).pllStart c .first

/-- A relock: the book's trims for the present temperature, then the check (R338). -/
def State.relocked (s : State) (c : Nat) : State :=
  let s := s.setPhy c { s.phy c with relock := 3 }
  [2 * c, 2 * c + 1].foldl (fun s sc => ([0, 1].foldl (fun s rk => s.pendRank sc rk) s).applyPend sc) s

/-- The channel's retraining has failed (R316, R339). -/
def State.relockFails (s : State) (c : Nat) (intact : Bool) : State :=
  let s := s.setPhy c { s.phy c with relock := 0 }
  ((s.set1 (Reg.CHN_EVT_RELOCK_FAIL c)).chanFails c intact).releaseFill

/-- RELOCK_CHECK_DONE: every gate found, and every lane group of every rank passing at every point within 8 steps of its delay; `runs` gives the
passing steps around it by lane key within the channel. -/
def State.relockCheck (s : State) (c : Nat) (gates : Bool) (runs : List LaneRun) : State :=
  if (s.phy c).relock ≠ 3 then s
  else
    let keys := [0, 1].flatMap (fun k => (s.ranks c).flatMap (fun rk => (List.range 10).map (fun g => laneKey k rk g)))
    let ok := gates && keys.all (fun k => runs.any (fun r => r.lane == k && decide (r.first ≤ -8) && decide (8 ≤ r.last)))
    if ok then
      let s := ((s.bump (Reg.CHN_PLL_RELOCK c)).set1 (Reg.CHN_EVT_RELOCK c)).releaseChannel c
      (s.setPhy c { s.phy c with relock := 0 }).epResume c
    else s.relockFails c true

end Sys2Proof.Machine
end

