-- ==== Sys2Proof/Machine/LiveCal.lean ====
section
/-! DEFINITION. Live calibration: temperature samples, idle gaps, En Passant passes and their runs (R342, R362-R381). -/

namespace Sys2Proof.Machine

open Sys2Proof

/-! ## Temperature (R342, R365) -/

/-- A number as `n` bits of two's complement. -/
def twos (n : Nat) (v : Int) : Nat := (v % (2 ^ n : Nat)).toNat

/-- The channel's sensor is powered: its PHY is, and the tile does not sleep. -/
def State.sensorOn (s : State) (c : Nat) : Bool :=
  s.chUp c && (s.phy c).phase != .idle && (s.phy c).phase != .dropped && s.mode != .sleep

/-- TEMP_SAMPLE: the sensor's reading, in units of 0.25 °C; trims are recomputed when θf has moved by 0.5 °C or the book has changed. -/
def State.tempSample (s : State) (c : Nat) (t : Int) : State :=
  if !s.sensorOn c then s
  else
    let s := s.periodic (tmrTemp c) 1000000
    let v := clampTo (-220) 500 t
    let s := s.setFlds [(Reg.CHN_TEMP_VALID c, 1), (Reg.CHN_TEMP_T c, twos 11 v)]
    let s := s.setPhy c { s.phy c with samples := (v :: (s.phy c).samples).take 16 }
    let x := s.phy c
    if x.phase = .passed ∧ s.inService = true ∧ (2 ≤ (s.thF c - x.thDone).natAbs ∨ x.bookNew = true) then s.recompute c else s

/-! ## Idle gaps (R366, R367) -/

/-- Trims of some rank of a subchannel wait for a gap; since when the oldest does. -/
def State.pendSince (s : State) (sc : Nat) : Option Tempo :=
  match tget none s.pendTrims (2 * sc), tget none s.pendTrims (2 * sc + 1) with
  | some a, some b => some (if earlier b.since a.since then b.since else a.since)
  | some a, none => some a.since
  | none, some b => some b.since
  | none, none => none

/-- GAPWAIT with its zero rule (R382). -/
def State.gapWait (s : State) : Nat := 1000 * max 1 (s.fld Reg.BOOK_LCTL_GAPWAIT)

/-- GAP_INSERT: no idle gap has come within GAPWAIT; the lattice makes one, unless an admitted line's proposal stands in the window: it holds new
column commands until a gap is open. -/
def State.gapInsert (s : State) (sc : Nat) : State :=
  match s.pendSince sc with
  | none => s
  | some t =>
    let s := s.advanceTo (t + ns s.gapWait)
    let u := s.sub sc
    if u.gapHold || u.window.any (fun p => p.tier == 1) then s
    else (s.bump Reg.BOOK_CNT2_GAPINS).setSub sc { u with gapHold := true }

/-- An inserted gap: once it is open the trims are applied and the hold is lowered. -/
def State.gapEnd (s : State) (sc : Nat) : State :=
  if (s.sub sc).gapHold && s.gapOpen sc then (s.applyPend sc).setSub sc { (s.applyPend sc).sub sc with gapHold := false } else s

/-! ## Passes (R369) -/

/-- The ranks that take runs: rank 0 alone on an MRDIMM (R362). -/
def State.epRanks (s : State) (c : Nat) : List Nat := if s.mrdimm then [0] else s.ranks c

/-- θf has drifted from θL by DRIFT or more. -/
def State.drifted (s : State) (c : Nat) : Bool :=
  decide (s.fld Reg.BOOK_LCTL_DRIFT ≠ 0) && decide (s.fld Reg.BOOK_LCTL_DRIFT ≤ (s.thF c - (s.phy c).thL).natAbs) &&
  !(s.phy c).samples.isEmpty

/-- EP_PASS_START: PERIOD after the start of the last pass, or on drift. -/
def State.epPass (s : State) (c : Nat) : State :=
  if !s.flag Reg.BOOK_LCTL_EP_EN || !s.ownWork || !s.chUp c || (s.phy c).phase != .passed || (s.ep c).running then s
  else
    let s := if s.drifted c then s.set1 Reg.BOOK_EVT_DRIFT_PASS
      else s.advanceLong ((s.ep c).start + 1000000000 * s.fld Reg.BOOK_LCTL_PERIOD)
    let todo := (List.range 10).flatMap (fun g => (g, false) :: (if s.flag Reg.BOOK_LCTL_WR_EN then [(g, true)] else []))
    let s := s.setEp c ⟨true, s.longTime, 0, []⟩
    let s := [2 * c, 2 * c + 1].foldl (fun s sc => (s.epRanks c).foldl (fun s rk =>
      s.setEpRank sc rk (some ⟨todo, false, 0, 0, 0, 0, 0, 0, 0⟩)) s) s
    s.epResume c

/-! ## Runs (R370, R374, R376-R378) -/

/-- Both sweeps pass, and agree within two steps in the delay and in every lane's own centre. -/
def trusted (minw : Nat) (a b : Option EyeFit) : Option EyeFit :=
  match a, b with
  | some a, some b =>
    if (minw : Int) ≤ a.win ∧ (minw : Int) ≤ b.win ∧ (a.dly - b.dly).natAbs ≤ 2 ∧
        (List.zipWith (fun (x y : Int) => decide ((x - y).natAbs ≤ 2)) a.cents b.cents).all (fun t => t) = true then some a else none
  | _, _ => none

/-- A trusted result is stored in the book and applied at the next gap (R368, R376). -/
def State.epStore (s : State) (sc rk g : Nat) (wr : Bool) (th : Int) (e : EyeFit) : State :=
  let c := sc / 2
  let s := (s.epStores rk).foldl (fun s rk => s.storeRun sc rk g wr th e.dly e.dsk) s
  let s := s.setPhy c { s.phy c with thL := th, bookNew := true }
  if s.flag Reg.BOOK_LCTL_INTERP_EN then s.recompute c
  else
    (s.epStores rk).foldl (fun s rk => s.pendGroup sc rk g (fun t =>
      if wr then { t with wrDly := e.dly, wdsk := e.dsk } else { t with rdDly := e.dly, rdsk := e.dsk })) s

/-- A group's third untrusted run in a row: a permanent mark (R377). -/
def State.epErase (s : State) (sc rk g : Nat) (wr : Bool) : State :=
  let i := ersIdx sc rk
  let s := s.set1 Reg.BOOK_EVT_EP_ERASE
  match s.erase? i with
  | some e => if e.src = 1 ∧ e.grp = g ∧ wr = false then s.markErased i g else s.eraseRequest i g
  | none => s.eraseRequest i g

/-- EP_RUN_DONE: both sweeps of a rank's run in progress end; `a` and `b` hold the lane runs they found, lanes 0 to 3 of the group. -/
def State.epRunDone (s : State) (sc rk : Nat) (a b : List LaneRun) : State :=
  match s.epRank? sc rk with
  | none => s
  | some r =>
    match r.begun, r.todo with
    | true, (g, wr) :: _ =>
      let minw := s.minw (if wr then Reg.TRAIN_CRIT_MINW_WR else Reg.TRAIN_CRIT_MINW_RD)
      match trusted minw (eyeFit a [0, 1, 2, 3]) (eyeFit b [0, 1, 2, 3]) with
      | some e =>
        let s := (s.bump Reg.BOOK_CNT0_RUNS).epUnmark sc rk
        (s.epStore sc rk g wr r.th e).epNext sc rk false
      | none =>
        let s := (s.bump Reg.BOOK_CNT0_DISAGREE).set1 Reg.BOOK_EVT_DISAGREE
        if r.bad + 1 < 3 then
          (s.dropTrain sc rk).startRun sc rk { r with bad := r.bad + 1 }
        else
          let s := s.setEpRank sc rk (some { r with begun := false })
          ((s.epErase sc rk g wr).epNext sc rk wr).releaseFill
    | _, _ => s

/-- EP_RUN_TIMEOUT: a run not complete within RUNTMO is abandoned (R378). -/
def State.epTimeout (s : State) (sc rk : Nat) : State :=
  match s.epRank? sc rk with
  | none => s
  | some r =>
    if !r.begun then s
    else
      let s := s.advanceTo (r.t0 + ns (1000000 * max 1 (Reg.BOOK_PROBE_RUNTMO.get r.probe)))
      let s := (s.bump Reg.BOOK_CNT2_SKIP).set1 Reg.BOOK_EVT_SKIP
      (s.epUnmark sc rk).epNext sc rk true

/-! ## Probe reads (R372) -/

/-- A line of a bank's row that a probe may read: mapped and below the watermark. -/
def State.probeLine (s : State) (sc rk bk row : Nat) : Option Loc :=
  let c := sc / 2
  let l := (s.chDec c).lineOf (sc % 2) rk bk row 0
  if s.fld (Reg.GLOB_FILLWM_WM c) ≤ l ∨ (s.entryAt c l).isNone = true then none
  else some { s.locOf c l with row := row }

/-- The bank has no host candidate. -/
def State.bankQuiet (s : State) (b : Nat) : Bool := !s.qes.any (fun q => q.src == .host && q.loc.eng == b && s.isCand q)

/-- The line a probe read of a rank reads: in an open row of a quiet bank, else in the row last closed of the least recently used one. -/
def State.probePick (s : State) (sc rk : Nat) : Option Loc :=
  let banks := (List.range 32).filter (fun k => s.bankQuiet (engOf sc rk k))
  let openRow (k : Nat) : Option Loc := match (s.eng (engOf sc rk k)).row with | some r => s.probeLine sc rk k r | none => none
  match banks.findSome? openRow with
  | some x => some x
  | none =>
    match best (fun a b => decide ((s.eng (engOf sc rk a)).usedAt < (s.eng (engOf sc rk b)).usedAt)) banks with
    | some k => s.probeLine sc rk k (s.eng (engOf sc rk k)).lastRow
    | none => none

/-- EP_PROBE_WAIT_EXPIRY: a point has gathered no sample for PWAIT; probe reads are injected, PRATE of them. -/
def State.probe (s : State) (sc rk : Nat) : State :=
  match s.epRank? sc rk with
  | none => s
  | some r =>
    match r.begun, r.todo with
    | true, (_, false) :: _ =>
      let s := s.advanceTo (r.sample + ns (1000 * max 1 (Reg.BOOK_PROBE_PWAIT.get r.probe)))
      let s := s.setEpRank sc rk (some { r with sample := s.tempo })
      if s.qes.any (fun q => q.adm && q.loc.sc == sc && q.loc.rk == rk && s.isCand q) then s
      else (List.range (max 1 (Reg.BOOK_PROBE_PRATE.get r.probe))).foldl (fun s _ =>
        match s.probePick sc rk with
        | none => s
        | some x => (s.bump Reg.BOOK_CNT1_PROBES).addQE (mkQE false .probe x (s.tempo + ns 10000))) s
    | _, _ => s

/-- A read of a rank under an En Passant mark decoded with no error outside the group is a sample (R371). -/
def State.epSample (s : State) (sc rk : Nat) (fixed : List Nat) : State :=
  match s.epRank? sc rk, s.erase? (ersIdx sc rk) with
  | some r, some e =>
    if e.src = 1 ∧ fixed.all (fun p => groupOfPos p == e.grp) = true then s.setEpRank sc rk (some { r with sample := s.tempo }) else s
  | _, _ => s

/-! ## The training row (R373-R375) -/

/-- The points of a run's sweeps A and B over an applied delay: from SPAN below it to SPAN above, every STRIDE steps, within ±192 (R370). The
refinement points that follow depend on what the lanes of the coarse ones gave (log entry 96). -/
def EpRank.points (r : EpRank) (applied : Int) : List Int :=
  let span : Nat := min 192 (max 8 (Reg.BOOK_EPCTL_SPAN.get r.epctl))
  let stride : Nat := min 8 (max 1 (Reg.BOOK_EPCTL_STRIDE.get r.epctl))
  let one := ((List.range (2 * span / stride + 1)).map (fun i => applied - span + ((i * stride : Nat) : Int))).filter (fun x => decide (-192 ≤ x) && decide (x ≤ 192))
  one ++ one

/-- A run in progress that uses the training row: a write run, or a read run of a rank whose slot holds a permanent mark. -/
def State.trainsOnRow (s : State) (sc rk : Nat) (wr : Bool) : Bool :=
  wr || (match s.erase? (ersIdx sc rk) with | some e => e.src == 0 | none => false)

/-- The sweep points of a rank's run in progress that uses the training row: its group, whether it is a write run, and the points. -/
def State.trainRun (s : State) (sc rk : Nat) : Option (Nat × Bool × List Int) :=
  match s.epRank? sc rk with
  | none => none
  | some r =>
    match r.begun, r.todo with
    | true, (g, wr) :: _ =>
      let t := s.trim (laneKey sc rk g)
      if s.trainsOnRow sc rk wr then some (g, wr, r.points (if wr then t.wrDly else t.rdDly)) else none
    | _, _ => none

/-- The trims the windows of training-row accesses of a rank use: the applied set, but for the write delay of the group of a write run, which is the
sweep point (R375). -/
def State.probeTrim (s : State) (sc rk g : Nat) : Trim :=
  let t := s.trim (laneKey sc rk g)
  match s.epRank? sc rk, s.trainRun sc rk with
  | some r, some (h, true, pts) => if h = g then { t with wrDly := nth t.wrDly pts r.pt } else t
  | _, _ => t

/-- The place of column `j` of a bank's training row (R115). -/
def State.trainLoc (s : State) (sc rk bk j : Nat) : Loc :=
  let d := s.chDec (sc / 2)
  ⟨sc / 2, sc % 2, rk, bk, d.trainRow, j, d.lineOf (sc % 2) rk bk d.trainRow j⟩

/-- The next sweep point of a rank's run writes its pattern to the training row of a bank without a host candidate and reads it back, outside a drain
(R373-R375). -/
def State.trainPoint (s : State) (sc rk : Nat) : State :=
  match s.epRank? sc rk, s.trainRun sc rk with
  | some r, some (_, _, pts) =>
    if (s.sub sc).drain != .read || decide (pts.length ≤ r.pt) || s.qes.any (fun q => q.src == .train && q.loc.sc == sc && q.loc.rk == rk) then s
    else match (List.range 32).find? (fun k => s.bankQuiet (engOf sc rk k)) with
    | none => s
    | some k =>
      let cols := List.range (max 1 (Reg.BOOK_PROBE_WLINES.get r.probe))
      let seed := s.nextTag
      let dl := s.tempo + ns 10000
      let s := cols.foldl (fun s j => s.addQE { mkQE true .train (s.trainLoc sc rk k j) dl with pay := .stored (Config.pattern seed j) }) s
      cols.foldl (fun s j => s.addQE (mkQE false .train (s.trainLoc sc rk k j) dl)) s
  | _, _ => s

/-- A line read back from a training row: with the last of its point, the run goes on to the next point. -/
def State.trainBack (s : State) (q : QE) : State :=
  let s := s.dropQE q.tag
  let sc := q.loc.sc
  let rk := q.loc.rk
  match s.epRank? sc rk with
  | some r =>
    if q.again = 0 ∧ s.qes.any (fun o => o.src == .train && o.loc.sc == sc && o.loc.rk == rk) = false then s.setEpRank sc rk (some { r with pt := r.pt + 1 }) else s
  | none => s

end Sys2Proof.Machine
end

