-- ==== Sys2Proof/Machine/Ports.lean ====
section
/-! DEFINITION. What a port's level inputs and Tempo do to its requests: reset, panic, the clamp of old deadlines, and a request withdrawn from
the internal request path (R60, R79, R82-R85, R94-R95). -/

namespace Sys2Proof.Machine

open Sys2Proof

/-! ## Port reset (R60, R95) -/

/-- The write entries of a request that has no answer yet are withdrawn, and a lock operation that waits for its lock (R60). -/
def State.withdrawUnanswered (s : State) (rids : List Nat) : State :=
  let gone (q : QE) : Bool := rids.contains q.rid && q.stage != .issued && (q.ofWrite || q.needLock)
  let s := s.withdraw gone
  { s with qes := s.qes.filter (fun q => !gone q) }

/-- Forget a port's requests, and its buffer lines but those of answered writes that still drain (R60). -/
def State.forgetRequests (s : State) (p : Nat) : State :=
  let mine := s.reqs.filter (fun r => r.org == .port p)
  let un := (mine.filter (fun r => r.stage != .answered)).map (·.rid)
  let s := s.withdrawUnanswered un
  let s : State := { s with reqs := s.reqs.filter (fun r => r.org != .port p) }
  let left := s.qes.filter (·.ofWrite)
  (s.freeLines (fun w => w.own == some p && (match w.rid with | none => true | some r => !left.any (fun q => q.rid == r)))).checkFlush

/-- The locks of a port are broken (R95). -/
def State.breakPortLocks (s : State) (p : Nat) : State :=
  (List.range 16).foldl (fun s i => match tget none s.locks i with
    | some l => if l.port = p then s.breakLock i Reg.GLOB_LOCKEVT_RST_BRK 0x03 else s
    | none => s) s

/-- The effects of a rising HPn_RESET. -/
def State.portReset (s : State) (p : Nat) : State :=
  let s := if s.arbHolder = some p then s.deadSlot (fun _ => true) else s
  let s := s.setPort p { s.port p with
    rst := true
    creds := 0
    ready := []
    sent := []
    rep := none
    nakSeq := none
    nakRun := 0
    rqHeld := []
    wdHeld := [] }
  let s := ((s.forgetRequests p).breakPortLocks p).set1 (Reg.HPT_EVT_PORT_RESET p)
  s.levels.releaseFill

/-- The effects of a falling HPn_RESET: sequence numbers restart and the credits are sent again (R60, R532). -/
def State.portRestart (s : State) (p : Nat) : State :=
  (s.setPort p { s.port p with rst := false, next := 0, creds := 0 }).giveCredits p

/-- In SLEEP, while no wake is under way, the edges of HPn_RESET are latched (R423). -/
def State.latches (s : State) : Bool := s.mode == .sleep && s.power.sleep != .waking

/-- HP_RESET_RISE. In SLEEP the edge is latched, and the port takes nothing meanwhile (R423). -/
def State.hpRise (s : State) (p : Nat) : State :=
  if s.latches then
    { s.setPort p { s.port p with rst := true, rqHeld := [], wdHeld := [] } with power := { s.power with
        resets := s.power.resets.filter (· != p) ++ [p] } }
  else s.portReset p

/-- HP_RESET_FALL. -/
def State.hpFall (s : State) (p : Nat) : State :=
  if s.latches then s.setPort p { s.port p with rst := false } else s.portRestart p

/-- The edges latched during SLEEP take effect at wake before any request of the port (R423): as soon as CORE, or the whole tile, begins to wake. -/
def State.latchedResets (s : State) : State :=
  let ps := s.power.resets
  let s : State := { s with power := { s.power with resets := [] } }
  ps.foldl (fun s p =>
    let low := !(s.port p).rst
    let held := (s.port p).rqHeld
    let s := s.portReset p
    if low then
      let s := s.portRestart p
      s.setPort p { s.port p with rqHeld := held }
    else s) s

/-! ## Panic (R83-R85, R105) -/

/-- The promotion mark of a port's requests and queue entries follows the level of HPn_PANIC; a proposal whose mark changes is withdrawn
(R169). -/
def State.promote (s : State) (p : Nat) (v : Bool) : State :=
  let s := s.setPort p { s.port p with panic := v }
  let s := s.withdraw (fun q => q.port == p && q.promo != v && (q.src == .host || q.src == .second || q.src == .dup))
  { s with
    reqs := mapIf (fun r => r.org == .port p) (fun r => { r with promo := v }) s.reqs
    qes := mapIf (fun q => q.port == p && (q.src == .host || q.src == .second || q.src == .dup)) (fun q => { q with promo := v }) s.qes }

/-- PANIC_RISE. -/
def State.panicRise (s : State) (p : Nat) : State :=
  if (s.port p).panic then s
  else ((s.promote p true).bump (Reg.HPT_PANSTAT_RISES p)).set1 (Reg.HPT_PANSTAT_SEEN p)

/-- PANIC_FALL. The level has been high up to now, so SEEN is set where it was cleared meanwhile (R105). -/
def State.panicFall (s : State) (p : Nat) : State :=
  if (s.port p).panic then (s.promote p false).set1 (Reg.HPT_PANSTAT_SEEN p) else s

/-! ## The clamp (R79) -/

/-- DEADLINE_CLAMP: Tempo passes 2^37 ns after the deadline of a request that has not left the tile: one not answered, or an answered write that
still has a queue entry. Once its request has gone, the entry's effective deadline, the one it is compared under, is taken. -/
def State.clamp (s : State) (rid : Nat) : State :=
  let mark (s : State) (d : Tempo) : State :=
    ((s.advanceTo (d + ns (2 ^ 37 + 1))).mapReq rid (fun r => { r with clamped := true })).mapQEs (fun q => q.rid == rid)
      (fun q => { q with clamped := true })
  let left := s.qes.find? (fun q => q.rid == rid && q.ofWrite && !q.clamped)
  match s.reqs.find? (fun r => r.rid == rid), left with
  | some r, some _ => if r.clamped then s else mark s r.dl
  | some r, none => if r.clamped || r.stage == .answered then s else mark s r.dl
  | none, some q => mark s q.eff
  | none, none => s

/-- LOCK_TIMEOUT: Tempo reaches the limit of a lock entry (R94, R95). -/
def State.lockTimeout (s : State) (i : Nat) : State :=
  match tget none s.locks i with
  | none => s
  | some l => (s.advanceTo l.limit).breakLock i Reg.GLOB_LOCKEVT_TMO_BRK 0x03

end Sys2Proof.Machine
end

