-- ==== Sys2Proof/Machine/Power.lean ====
section
/-! DEFINITION. Power: the regulator link and the voltage loop, the idle timer and the SLEEP vote, entry to SLEEP and the wake (R406-R427). -/

namespace Sys2Proof.Machine

open Sys2Proof

/-! ## The regulator link (R408-R411) -/

/-- A step code: 31 is treated as 30 (R428). -/
def stepCode (k : Nat) : Nat := min k 30

/-- R409: the VOUT_COMMAND word of step code `k` under the exponent field of VOUT_MODE. -/
def voutWord (k exp : Nat) : Nat :=
  let m := (600 + 10 * k) * 2 ^ (32 - exp)
  (2 * m + 1000) / 2000

/-- The PMBus commands of R408. -/
def busVoutMode : Nat := 0x20
def busVoutCommand : Nat := 0x21
def busStatusWord : Nat := 0x79

/-- One SMBus transaction with the regulator, at the address, clock and PEC setting of PWRM_REG (R408, R431). -/
def State.smbus (s : State) (cmd data : Nat) : State :=
  let spd := s.fld Reg.PWRM_REG_SPD
  s.emit (.regulator (s.fld Reg.PWRM_REG_ADDR) (if spd = 3 then 1 else spd) (s.flag Reg.PWRM_REG_PEC) cmd data)

/-- Put a voltage request on the bus: attempt `tries` towards `k`. -/
def State.sendVolt (s : State) (k why tries : Nat) : State :=
  let s := s.setFld Reg.PWRM_VSTAT_VCMD k
  { s with power := { s.power with vreq := some ⟨k, s.tempo, tries, why⟩ } }.smbus
    busVoutCommand (voutWord k (s.fld Reg.PWRM_VSTAT_EXP))

/-- Ask for a core voltage: nothing without a usable VOUT_MODE; one request at a time, a new target waits for the one in flight (R409,
R410). -/
def State.askVolt (s : State) (k why : Nat) : State :=
  if !s.flag Reg.PWRM_VSTAT_MODE_OK then s
  else match s.power.vreq with
  | none => s.sendVolt (stepCode k) why 1
  | some _ => { s with power := { s.power with vnext := some ⟨stepCode k, s.tempo, 1, why⟩ } }

/-- The request in flight has ended; the target that waits is sent. -/
def State.nextVolt (s : State) : State :=
  let n := s.power.vnext
  let s : State := { s with power := { s.power with vreq := none, vnext := none } }
  match n with
  | none => s
  | some v => s.sendVolt v.target v.why 1

/-- VOUT_MODE_READ_DONE: the byte read, or none where the read failed (R409). -/
def State.voutMode (s : State) (byte : Option (BitVec 8)) : State :=
  if s.flag Reg.PWRM_VSTAT_MODE_OK || decide (2 ≤ s.power.vmodeFails) then s
  else match byte with
  | none =>
    let n := s.power.vmodeFails + 1
    let s : State := { s with power := { s.power with vmodeFails := n } }
    if n = 2 then s.set1 Reg.PWRM_EVT_VMODE else s.smbus busVoutMode 0
  | some b =>
    let e := b.toNat % 32
    let s := s.setFld Reg.PWRM_VSTAT_EXP e
    if b.toNat / 32 = 0 ∧ 16 ≤ e ∧ e ≤ 24 then
      (s.set1 Reg.PWRM_VSTAT_MODE_OK).askVolt (s.fld Reg.PWRM_VLIM_VMAX) 0
    else { s with power := { s.power with vmodeFails := 2 } }.set1 Reg.PWRM_EVT_VMODE

/-- VREQ_COMPLETE: every byte acknowledged, and PWR_GOOD high for 10 µs without a break since (R410). -/
def State.voltDone (s : State) : State :=
  match s.power.vreq with
  | none => s
  | some v =>
    if !s.power.pgood then s
    else
      let from0 := if earlier v.start s.power.pgAt then s.power.pgAt else v.start
      let s := s.advanceTo (from0 + ns 10000)
      let s := s.setFld Reg.PWRM_VSTAT_VACK v.target
      { s with power := { s.power with vmaxDone := s.power.vmaxDone || v.why == 0 } }.nextVolt

/-- STATUS_WORD after a failed attempt: the word read, or none where that read failed too (R410, R432). -/
def State.statusWord (s : State) (w : Option (BitVec 16)) : State :=
  let s := s.smbus busStatusWord 0
  match w with
  | some w => (s.setFld Reg.PWRM_RSTAT_STATUS w.toNat).clr Reg.PWRM_RSTAT_RD_FAIL
  | none => s.set1 Reg.PWRM_RSTAT_RD_FAIL

/-- A request has failed twice: in service and in BRINGUP, for SLEEP entry, for a wake (R410, R420, R427). -/
def State.voltFailed (s : State) (why : Nat) : State :=
  match why with
  | 2 => (s.set1 Reg.PWRM_EVT_VREQ_FAIL).raise 0x2F nowhere
  | 3 => ((s.set1 Reg.PWRM_EVT_VREQ_FAIL).set1 Reg.PWRM_EVT_WAKE_FAIL).raise 0x30 nowhere
  | _ => { s with power := { s.power with vstop := true, vmaxDone := s.power.vmaxDone || why == 0 } }.set1
      Reg.PWRM_EVT_VREQ_FAIL |>.raise 0x2C nowhere

/-- VREQ_TIMEOUT: 2 ms after its start a request is not complete: sent once more, or failed (R410). -/
def State.voltTimeout (s : State) (w : Option (BitVec 16)) : State :=
  match s.power.vreq with
  | none => s
  | some v =>
    let s := (s.advanceTo (v.start + ns 2000000)).statusWord w
    if v.tries < 2 then
      let s := if v.why = 3 then s.set1 Reg.PWRM_EVT_WAKE_FAIL else s
      s.sendVolt v.target v.why 2
    else (s.nextVolt).voltFailed v.why

/-- PWR_GOOD_FALL (R411). -/
def State.pgoodFall (s : State) : State :=
  if !s.power.pgood then s
  else
    let out := s.power.vreq.isNone
    let s : State := { s with power := { s.power with pgood := false, pgAt := s.tempo, pgLost := out } }
    if out then (s.set1 Reg.PWRM_EVT_PGOOD_LOST).raise 0x2D nowhere else s

/-- PWR_GOOD_RISE (R410, R411). -/
def State.pgoodRise (s : State) : State :=
  if s.power.pgood then s else { s with power := { s.power with pgood := true, pgAt := s.tempo, pgLost := false } }

/-- PGOOD_DOWN_TIMEOUT: PWR_GOOD has stayed low for 2 ms since it fell outside a request (R411). -/
def State.pgoodDown (s : State) : State :=
  if !s.power.pgLost then s
  else { s.advanceTo (s.power.pgAt + ns 2000000) with power := { s.power with pgLost := false } }.raise 0x2E nowhere

/-- R413: for the condition of R188 the core supply is taken to be 0.72 V or more. -/
def State.supplyHigh (s : State) : Bool :=
  decide (12 ≤ s.fld Reg.PWRM_VSTAT_VACK) && s.power.pgood && (match s.power.vreq with | some v => decide (12 ≤ v.target) | none => true)

/-! ## The voltage loop (R412) -/

/-- The periodic key of the loop's windows. -/
def tmrVloop : Nat := 2

/-- R162: a scheduling core reports full demand. -/
def State.fullDemand (s : State) : Bool := decide (s.fld Reg.SCHD_RTADM_RATE ≠ 0) && s.qes.any (·.adm)

/-- VLOOP_WINDOW: a window ends with demand ratio `rho`, in percent. -/
def State.vloop (s : State) (rho : Nat) : State :=
  if !s.flag Reg.PWRM_VLOOP_EN || !s.inService then s
  else
    let s := s.periodic tmrVloop (1000 * max 1 (s.fld Reg.PWRM_VLOOP_WIN))
    let s := s.setFld Reg.PWRM_VSTAT_DEMAND (min rho 100)
    let cur := s.fld Reg.PWRM_VSTAT_VCMD
    let vmax := stepCode (s.fld Reg.PWRM_VLIM_VMAX)
    let vmin := stepCode (s.fld Reg.PWRM_VLIM_VMIN)
    let (target, low) :=
      if s.fullDemand then (vmax, s.power.low)
      else if s.fld Reg.PWRM_VLOOP_UP ≤ rho then (min (cur + 1) vmax, 0)
      else if rho ≤ s.fld Reg.PWRM_VLOOP_DN then
        (if s.fld Reg.PWRM_VLOOP_HOLD ≤ s.power.low + 1 then (max (cur - 1) vmin, 0) else (cur, s.power.low + 1))
      else (cur, 0)
    let s : State := { s with power := { s.power with low := low } }
    if target = cur ∨ s.power.vstop = true then s else s.askVolt target 1

/-! ## The idle timer (R414, R415) -/

/-- Accesses that never count as activity: scrubs, probe reads, accesses to training rows and fill lines (R415). -/
def Src.quiet (x : Src) : Bool :=
  match x with
  | .scrub | .scrubWrite | .scrubVerify | .probe | .train | .fill => true
  | _ => false

/-- The tile is idle (R414). -/
def State.isIdle (s : State) : Bool :=
  (List.range 8).all (fun p => (s.port p).rqHeld.isEmpty && decide ((s.port p).filled = 0)) &&
  s.reqs.all (fun r => match r.org with | .port _ => false | .ring _ _ => true) &&
  s.qes.all (fun q => q.src.quiet) && s.wbuf.isEmpty

/-- The idle timer starts when the tile becomes idle and stops at any departure from idle. -/
def State.touchIdle (s : State) : State :=
  let on := s.flag Reg.PWRM_SLP_EN && s.inService && s.isIdle && s.power.vote.isNone
  { s with power := { s.power with idle := if on then some (s.power.idle.getD s.tempo) else none } }

/-! ## The vote (R416-R419) -/

/-- Entries of a migration's layouts on channel `c` of this tile. -/
def State.migOn (s : State) (c : Nat) : Bool :=
  match s.mig with
  | none => false
  | some m => [m.src, m.dst].any (fun e => (s.entry e).used.contains (s.tileNo, c))

/-- Voters 0 to 3: the scheduling core of a channel refuses (R97, R222, R322, R416, R449). -/
def State.coreRefuses (s : State) (c : Nat) : Bool :=
  let subs := [2 * c, 2 * c + 1].map s.sub
  s.chUp c &&
  (s.qes.any (fun q => q.loc.ch == c && !q.src.quiet) ||
   s.locks.any (fun e => match e.2 with
     | some l => (match s.lookup l.line with | .here _ m ch _ => (if m.mirror = 1 ∧ s.chUp ch = false then ch ^^^ 1 else ch) == c | _ => false)
     | none => false) ||
   (s.flag Reg.TIMG_MRCMD_GO && decide (s.fld Reg.TIMG_MRCMD_CH = c)) ||
   (s.repair.remap.filterMap (·.2)).any (fun m => m.copy && m.id.ch == c) || s.repair.failing.contains c ||
   (s.repair.peerWait && s.crossChannels.contains c) || s.migOn c || decide ((s.phy c).relock ≠ 0) ||
   subs.any (fun u => !u.holds.isEmpty || !u.seqs.isEmpty || !u.zqLatch.isEmpty || !u.alertWin.isEmpty) ||
   (s.startup.fillOn.contains c && !s.fbit Reg.GLOB_FILLST_DONE c))

/-- Scrub lag of a channel in nanoseconds: how long ago its next line, or its next pass, fell due. -/
def State.scrubLag (s : State) (c : Nat) : Nat :=
  let x := s.scrubOf c
  if x.running then s.longTime - (x.start + s.fld (Reg.ECCS_SCRPOS_POS c) * x.period / max 1 (s.chDec c).capacity)
  else s.longTime - (x.start + x.period)

/-- Voter 4. -/
def State.scrubRefuses (s : State) : Bool :=
  s.qes.any (fun q => q.src == .scrubWrite || q.src == .scrubVerify || (q.src == .scrub && decide (q.link ≠ 0))) ||
  (s.flag Reg.ECCS_SCRB_EN && (List.range 4).any (fun c => s.chUp c && decide (s.fld Reg.PWRM_SLP_SCRLAG * s.scrubPeriod < 64 * s.scrubLag c)))

/-- The refusal condition of voter `v` (R416, R153). -/
def State.voterRefuses (s : State) (v : Nat) : Bool :=
  if v < 4 then s.coreRefuses v
  else match v with
  | 4 => s.scrubRefuses
  | 5 => false
  | 6 => !s.ring.awaits.isEmpty || !s.ring.rx.isEmpty || !s.ring.deferred.isEmpty
  | _ => s.flag Reg.SIDE_DXFER_GO

/-- A refusal counts against its voter (R418, R434). -/
def State.countRefusal (s : State) (v : Nat) : State :=
  s.bump ⟨2, 0x060 + 4 * (v / 4 % 2), 8 * (v % 4) + 7, 8 * (v % 4)⟩

/-- The vote is aborted: every voter resumes its work, and the idle timer starts again (R417, R418). -/
def State.abortVote (s : State) (cause : Nat) : State :=
  let s : State := { s with power := { s.power with vote := none, idle := none } }
  let s := (s.setFld Reg.PWRM_VOTE_LAST cause).set1 Reg.PWRM_EVT_REFUSED
  ((List.range 4).foldl (fun s c => s.epResume c) s).touchIdle

/-- IDLE_TIMER_EXPIRY: AON sends PREPARE (R414, R417). -/
def State.idleExpiry (s : State) : State :=
  if !s.flag Reg.PWRM_SLP_EN || !s.inService || !s.isIdle || s.power.vote.isSome then s
  else
    let us := min 1000000 (max 1 (s.fld Reg.PWRM_SLP_IDLE))
    let s := s.advanceTo (s.power.idle.getD s.tempo + ns (1000 * us))
    { s with power := { s.power with vote := some s.tempo, agreed := 0 } }.setFld Reg.PWRM_VOTE_AGREED 0

/-- All eight have agreed: AON commits, and the tile is in SLEEP (R417). -/
def State.commitSleep (s : State) : State :=
  let from0 := s.mode
  let s := s.setMode .sleep
  { s with sleepFrom := from0, power := { s.power with vote := none, idle := none, sleep := .entering, latched := none } }

/-- VOTE_AGREE: a voter whose refusal condition is false agrees. -/
def State.voteAgree (s : State) (v : Nat) : State :=
  if s.power.vote.isNone || decide (8 ≤ v) || s.power.agreed.testBit v || s.voterRefuses v then s
  else
    let s := if v = 5 then (List.range 4).foldl (fun s c => s.epAbortCh c) s else s
    let a := s.power.agreed ||| 2 ^ v
    let s := { s with power := { s.power with agreed := a } }.setFld Reg.PWRM_VOTE_AGREED a
    if a = 0xFF then s.commitSleep else s

/-- VOTE_REFUSE: a voter whose refusal condition holds answers REFUSE. -/
def State.voteRefuse (s : State) (v : Nat) : State :=
  if s.power.vote.isNone || decide (8 ≤ v) || s.power.agreed.testBit v || !s.voterRefuses v then s
  else (s.countRefusal v).abortVote v

/-- VOTE_WITHDRAW: a voter that has agreed finds its refusal condition true. -/
def State.voteWithdraw (s : State) (v : Nat) : State :=
  if s.power.vote.isNone || decide (8 ≤ v) || !s.power.agreed.testBit v || !s.voterRefuses v then s
  else
    let a := s.power.agreed ^^^ 2 ^ v
    let s := { s with power := { s.power with agreed := a } }.setFld Reg.PWRM_VOTE_AGREED a
    (s.countRefusal v).abortVote v

/-- VOTE_TIMEOUT. -/
def State.voteTimeout (s : State) : State :=
  match s.power.vote with
  | none => s
  | some t =>
    let s := s.advanceTo (t + ns (1000 * max 1 (s.fld Reg.PWRM_SLPT_VTMO)))
    let s := s.bump Reg.PWRM_ABTCNT_TIMEOUT
    let s := ((List.range 8).filter (fun v => !s.power.agreed.testBit v)).foldl (fun s v => s.countRefusal v) s
    s.abortVote 9

/-- A host request handshake begins during a vote (R417, R418). -/
def State.hostAborts (s : State) : State :=
  if s.power.vote.isSome then (s.bump Reg.PWRM_ABTCNT_HOST).abortVote 8 else s

/-! ## Self-refresh in order (R225, R243) -/

/-- A group issues refresh until its debt is 0 (R243). -/
def State.payDebt (s : State) (sc rk j : Nat) : State :=
  let g := s.group (groupKey sc rk j)
  if !g.running then s
  else (List.range g.debt.toNat).foldl (fun s _ =>
    s.directCmd sc (if s.allBank (sc / 2) then .refab else .refsb) rk j 0 (refTag (groupKey sc rk j)) 0 0) s

/-- What a rank owes is paid before the hold is raised: every bank closed, and refresh until no group is in debt (R243). -/
def State.rankPays (s : State) (sc rk : Nat) : State :=
  let s := (s.issueAll sc).closeRank sc rk
  (List.range (s.groupsPer (sc / 2))).foldl (fun s j => s.payDebt sc rk j) s

/-- A channel's ranks enter self-refresh (R225) and its lattices stay held; the refresh groups and idle timers stop. -/
def State.channelDown (s : State) (c : Nat) : State :=
  let s := [2 * c, 2 * c + 1].foldl (fun s sc =>
    let s := s.setSub sc { s.sub sc with window := [], verdicts := [], maint := [] }
    (s.ranks c).foldl (fun s rk => if (s.sub sc).asleep.contains rk then s else s.rankPays sc rk) s) s
  let s := s.channelSr c
  [2 * c, 2 * c + 1].foldl (fun s sc =>
    let s := s.setSub sc { s.sub sc with
      window := []
      seqs := []
      accepted := []
      verdicts := []
      reading := []
      maint := []
      holds := s.ranks c
      drain := .read
      breaks := 0 }
    let s := (List.range 8).foldl (fun s i => s.setGroup (8 * sc + i) group0) s
    (List.range 64).foldl (fun s i =>
      let b := 64 * sc + i
      s.setEng b { s.eng b with row := none, shut := none, e := 0, idle := none, outstanding := false }) s) s

/-- The channels that serve. -/
def State.upChannels (s : State) : List Nat := (List.range 4).filter s.chUp

/-! ## SLEEP entry and wake (R406, R420-R425) -/

/-- Everything wakes: PHYs powered, PLLs enabled, the voltage before entry asked for; latched port resets take effect, and the requests that wait
are acknowledged (R423, R425). A wake by a ring message is counted (R158). -/
def State.wakeAll (s : State) (src : Nat) : State :=
  let s : State := { s with power := { s.power with
    sleep := .waking, wakeAt := s.tempo, latched := none, coreOn := true, crypOn := s.build.crypt } }
  let s := s.setFld Reg.PWRM_WAKE_SRC src
  let s := if src = 3 then s.bump Reg.RING_CNT1_WAKE else s
  let s := s.upChannels.foldl (fun s c => s.pllStart c .first) s
  (s.askVolt s.power.vbefore 3).latchedResets.takeAllHeld

/-- Only CORE wakes, and CRYP where the CRYP page is accessed (R422, R424); latched port resets take effect, and requests answered OFFLINE are
acknowledged (R423). -/
def State.wakeCore (s : State) (src : Nat) (cryp : Bool) : State :=
  let s : State := { s with power := { s.power with
    coreOn := true, crypOn := s.power.crypOn || (cryp && s.build.crypt), access := s.tempo, latched := none } }
  (s.setFld Reg.PWRM_WAKE_SRC src).latchedResets.takeAllHeld

/-- A wake event with its code of R422 arrives: latched while entry is not complete (R421), else it wakes everything or CORE. The latch holds
the code, plus 16 for everything, plus 32 for CRYP. -/
def State.wakeEvent (s : State) (src : Nat) (all cryp : Bool) : State :=
  if s.mode ≠ .sleep then s
  else match s.power.sleep with
  | .entering =>
    let keep := match s.power.latched with | some v => decide (16 ≤ v % 32) || !all | none => false
    let v := if keep then s.power.latched else some (src + 16 * b2n all + 32 * b2n cryp)
    ({ s with power := { s.power with latched := v } }.bump Reg.PWRM_WAKE_LATE).set1 Reg.PWRM_EVT_LATE_WAKE
  | .asleep => if all then s.wakeAll src else s.wakeCore src cryp
  | .awake | .waking => s

/-- SLEEP_ENTRY_COMPLETE (R420, R421). -/
def State.sleepEntry (s : State) : State :=
  if s.mode ≠ .sleep ∨ s.power.sleep ≠ .entering then s
  else
    let s := s.upChannels.foldl (fun s c =>
      let s := [2 * c, 2 * c + 1].foldl (fun s sc => s.applyPend sc) s
      let s := s.channelDown c
      let s := s.setPhy c { s.phy c with pll := .off, samples := [] }
      (s.clr (Reg.CHN_PLL_LOCK c)).clr (Reg.CHN_TEMP_VALID c)) s
    let s := s.mapQEs (fun q => q.src.quiet && (q.stage != .issued || !q.wr)) (fun q => { q with stage := .wait, e := 0 })
    let s := (List.range 32).foldl (fun s i => s.setTrack i none) s
    let s := s.ring.tokens.foldl (fun s t => s.sendToken t.1) s
    let late := s.power.latched
    let s : State := { s with power := { s.power with
      sleep := .asleep, vbefore := s.fld Reg.PWRM_VSTAT_VCMD, coreOn := false, crypOn := false, latched := none } }
    let s := s.askVolt (s.fld Reg.PWRM_VLIM_VSLEEP) 2
    let s := (s.set1 Reg.PWRM_EVT_SLEPT).bump Reg.PWRM_CNT_ENTRIES
    match late with
    | none => s
    | some v => if 16 ≤ v % 32 then s.wakeAll (v % 16) else s.wakeCore (v % 16) (decide (32 ≤ v))

/-- CORE_IDLE_REGATE (R424): nothing of a port is left to be answered. -/
def State.regate (s : State) : State :=
  if s.mode = .sleep ∧ s.power.sleep = .asleep ∧ s.power.coreOn = true ∧
      s.reqs.all (fun r => match r.org with | .port _ => false | .ring _ _ => true) = true then
    let s := s.advanceTo (s.power.access + ns (1000 * max 1 (s.fld Reg.PWRM_SLPT_CIDLE)))
    { s with power := { s.power with coreOn := false, crypOn := false } }
  else s

/-- A rank leaves self-refresh: SRX tCKSRX after CK is valid; its first command is a ZQCal Start tXS later, rank 1's once rank 0 is calibrated
(R223, R224, R226); its refresh groups restart from SRX + tXS (R243). -/
def State.rankUp (s : State) (sc rk : Nat) : State :=
  let t := s.timg
  let s := s.directFrom sc ((s.sub sc).ckFrom + t.cksrx) .srx rk 0 0 0 seqTag 0 0
  let s := s.setSub sc { s.sub sc with
    seqs := (s.sub sc).seqs ++ [seqStep (some .zqs) rk 0 (some (tget 0 (s.sub sc).rkBusy rk)) 1, seqStep none rk 1 none 1] }
  s.startRankGroups sc rk (s.tempo + ns (s.ckNs t.xs))

/-- Every channel that serves has its PLL locked: SRX may issue (R425). -/
def State.wakeReady (s : State) : Bool :=
  s.mode == .sleep && s.power.sleep == .waking && s.upChannels.all (fun c => (s.phy c).pll == .locked)

/-- WAKE_COMPLETE: SRX has issued on every rank, and the tile returns to the mode it left (R425). What waited goes on afterwards. -/
def State.wakeDone (s : State) : State :=
  let s := s.upChannels.foldl (fun s c => [2 * c, 2 * c + 1].foldl (fun s sc => (s.ranks c).foldl (fun s rk => s.rankUp sc rk) s) s) s
  let s := s.setMode s.sleepFrom
  let s : State := { s with power := { s.power with sleep := .awake } }
  let s := (s.set1 Reg.PWRM_EVT_WOKE).bump Reg.PWRM_CNT_WAKES
  let s := s.setFld Reg.PWRM_WAKE_WTIME (min 0xFFFF ((s.tempo - s.power.wakeAt).toNat / 100))
  let s := s.latchedResets
  let s := (List.range 4).foldl (fun s c => s.epResume c) s
  s.takeAllHeld.touchIdle

/-- A wake's PLL has failed: once it is enabled again, twice the wake fails (R426). -/
def State.wakePllFails (s : State) (c : Nat) : State :=
  let s := s.set1 Reg.PWRM_EVT_WAKE_FAIL
  if (s.phy c).pll = .first then s.pllStart c .second
  else (s.setPhy c { s.phy c with pll := .off }).raise 0x30 (atChan c)

end Sys2Proof.Machine
end

