-- ==== Sys2Proof/Machine/Startup.lean ====
section
/-! DEFINITION. Start-up and the self-test: GO, the slices of startup BIST and of ENDGAME, PLLs and modules coming up, training's end, the PPR
step, the initialization fill and MEM_READY, the DIMM sideband, and shutdown (R437-R482). -/

namespace Sys2Proof.Machine

open Sys2Proof

/-! ## The initialization fill (R446-R448) -/

/-- Lines of a channel's share of the boot window (R448). -/
def State.shareOf (s : State) (c : Nat) : Nat := min s.startup.share (s.chDec c).capacity

/-- FILL_DONE: every channel whose fill began and that still serves is filled (R447). -/
def State.fillJudge (s : State) : State :=
  let up := s.startup.fillOn.filter s.chUp
  if s.startup.filling && !up.isEmpty && up.all (fun c => s.fbit Reg.GLOB_FILLST_DONE c) then
    { s with startup := { s.startup with filling := false } }.set1 Reg.GLOB_EVT_FILL_DONE
  else s

/-- Tenths of a millisecond since reset release, in 16 bits (R459). -/
def State.sinceRelease (s : State) : Nat := min 0xFFFF ((s.tempo - s.startup.relTempo).toNat / 100000)

/-- MEM_READY rises: SERVICE, or DEGRADED where training recorded a lane group for erasure or a reason for DEGRADED stands (R352, R448, R456,
R532). -/
def State.memRise (s : State) : State :=
  let marks := s.startup.fillOn.flatMap (fun c => [2 * c, 2 * c + 1].flatMap (fun sc => (s.train sc).erase.map (fun e => (ersIdx sc e.1, e.2))))
  let s : State := { s with memReady := true }
  let s := s.setFlds [(Reg.GLOB_EVT_MEM_READY, 1), (Reg.GLOB_STAT_PHASE, 7), (Reg.GLOB_BTIME_TRDY, s.sinceRelease)]
  let s := s.setMode (if marks.isEmpty && decide (s.word (regKey 0x15 0x050) = 0) then .service else .degraded)
  let s := marks.foldl (fun s m => s.markErased m.1 m.2) s
  let s := (List.range 4).foldl (fun s c => s.setEp c { s.ep c with start := s.longTime }) s
  ((List.range 8).foldl (fun s p => s.giveCredits p) s).touchIdle

/-- MEM_READY rises when every channel's watermark reaches its share. -/
def State.memCheck (s : State) : State :=
  let up := s.startup.fillOn.filter s.chUp
  if s.mode = .bringup ∧ s.memReady = false ∧ up ≠ [] ∧ up.all (fun c => decide (s.shareOf c ≤ s.fld (Reg.GLOB_FILLWM_WM c))) = true then s.memRise
  else s

/-- What a channel's failure or a filled line may bring about: held requests go on, FILL_DONE, MEM_READY. -/
def State.fillSettle (s : State) : State := s.releaseFill.fillJudge.memCheck

/-- Step 7: the fill starts on every channel that passed training. -/
def State.startFill (s : State) : State :=
  let on := s.startup.present.filter (fun c => s.chUp c && (s.phy c).phase == .passed)
  let s := s.setFld Reg.GLOB_STAT_PHASE 6
  { s with startup := { s.startup with
      filling := true, fillOn := on, share := s.fld Reg.GLOB_FILL_BOOT * 2 ^ 22 / max 1 on.length } }.memCheck

/-- Fill lines a channel has issued in the present microsecond. -/
def State.fillsNow (s : State) (c : Nat) : Nat :=
  let x := tget (0, 0) s.startup.fillUs c
  if x.1 = s.longTime / 1000 then x.2 else 0

/-- R449: the fill of a channel is below its share of the present microsecond: MINSH sixteenths of the lines its two subchannels can write in it, which
are 25 RATE / 4 each at RATE hundred MT/s. -/
def State.fillBehind (s : State) (c : Nat) : Bool :=
  decide (32 * s.fillsNow c < 25 * s.timg.rate * max 1 (s.fld Reg.GLOB_FILL_MINSH))

/-- FILL_LINE_WRITE: the next fill line of a channel is proposed, once the one before has been issued. It ranks behind every host write, but is due
at once while the fill is below its share (R449). -/
def State.fillLine (s : State) (c : Nat) : State :=
  let l := tget 0 s.startup.fillNext c
  if !s.startup.filling || !s.startup.fillOn.contains c || !s.latticeOn c || s.fbit Reg.GLOB_FILLST_DONE c ||
      s.qes.any (fun q => q.src == .fill && q.loc.ch == c) then s
  else
    let s := s.addQE { mkQE true .fill (s.placeOf c l) (if s.fillBehind c then s.tempo else s.tempo + ns (2 ^ 30)) with pay := .fill }
    { s with startup := { s.startup with fillNext := tput 0 c (l + 1) s.startup.fillNext } }

/-- A fill line has been issued: the watermark rises (R447). -/
def State.fillIssued (s : State) (q : QE) : State :=
  let c := q.loc.ch
  let s := (s.dropQE q.tag).setFld (Reg.GLOB_FILLWM_WM c) (q.loc.l + 1)
  let s : State := { s with startup := { s.startup with
    fillUs := tput (0, 0) c (s.longTime / 1000, s.fillsNow c + 1) s.startup.fillUs } }
  let s := if (s.chDec c).capacity ≤ q.loc.l + 1 then s.setBit Reg.GLOB_FILLST_DONE c true else s
  s.fillSettle

/-! ## The PPR step (R301-R303, R328) -/

/-- Word `w` of entry `n` of the active list. -/
def pprKey (n w : Nat) : Nat := 0x20000 + 2 * n + w

def State.pprWord (s : State) (n w : Nat) : Nat := tget 0 s.tabs (pprKey n w)

/-- Entries in the list. -/
def State.pprCount (s : State) : Nat := min 64 (s.fld Reg.RPMR_PPRIDX_NENT)

/-- The channel of an entry. -/
def State.pprCh (s : State) (n : Nat) : Nat := bits (s.pprWord n 0) 31 30

/-- A result goes to STATE in the active and the staged view. -/
def State.pprState (s : State) (n v : Nat) : State :=
  let k := pprKey n 1
  let put (w : Nat) : Nat := w % 2 ^ 30 + v * 2 ^ 30
  let stg := tget (tget 0 s.tabs k) s.tabsStg k
  let act := put (tget 0 s.tabs k)
  let s : State := { s with tabs := tput 0 k act s.tabs, tabsStg := tput act k (put stg) s.tabsStg }
  if 2 ≤ v then { s with startup := { s.startup with pprFail := true } } else s

/-- The entry cannot be programmed: its channel did not come up, or its row lies beyond the map's rows. -/
def State.pprBad (s : State) (n : Nat) : Bool :=
  let c := s.pprCh n
  let d := s.chDec c
  !s.startup.present.contains c || (s.phy c).phase != .passed || decide (2 ^ d.rowBits - 2 - d.spare < bits (s.pprWord n 0) 17 0)

/-- The step ends. -/
def State.pprEnd (s : State) : State :=
  let s := s.set1 Reg.RPMR_EVT_PPR_DONE
  (if s.startup.pprFail then s.set1 Reg.RPMR_EVT_PPR_FAIL else s).startFill

/-- Step 6: the NEW entries are to be applied; those that cannot become FAIL at once. -/
def State.startPpr (s : State) : State :=
  let s := s.setFld Reg.GLOB_STAT_PHASE 5
  let new := (List.range s.pprCount).filter (fun n => decide (s.pprWord n 1 / 2 ^ 30 = 0))
  let bad := new.filter s.pprBad
  let todo := new.filter (fun n => !bad.contains n)
  let s := bad.foldl (fun s n => s.pprState n 3) s
  let s : State := { s with startup := { s.startup with ppr := todo } }
  if todo.isEmpty then s.pprEnd else s

/-- PPR_ENTRY_DONE: the entry in progress on its channel ends: `res` tells whether every device had a resource left, `clean` whether every line
read back clean. -/
def State.pprDone (s : State) (n : Nat) (res clean : Bool) : State :=
  if s.startup.ppr.find? (fun m => s.pprCh m == s.pprCh n) ≠ some n then s
  else
    let s := s.pprState n (if !res then 2 else if clean then 1 else 3)
    let s : State := { s with startup := { s.startup with ppr := s.startup.ppr.filter (· != n) } }
    if s.startup.ppr.isEmpty then s.pprEnd else s

/-! ## Coming up (R437 steps 4 and 5, R445, R455) -/

/-- Training has ended on every present channel: the PPR step follows (R351). -/
def State.trainEnd (s : State) : State :=
  let ended := s.startup.present.all (fun c => (s.phy c).phase == .passed || (s.phy c).phase == .dropped)
  let some' := s.startup.present.any (fun c => (s.phy c).phase == .passed)
  if s.mode = .bringup ∧ (s.fld Reg.GLOB_STAT_PHASE = 3 ∨ s.fld Reg.GLOB_STAT_PHASE = 4) ∧ ended = true ∧ some' = true then
    (s.set1 Reg.TRAIN_EVT_DONE).startPpr
  else s

/-- CHn_RESET_n is released once the PLL is locked, the impedance calibrated and the PMIC good. -/
def State.tryRelease (s : State) (c : Nat) : State :=
  let x := s.phy c
  if x.phase = .powered ∧ x.pll = .locked ∧ x.pmic = true ∧ s.flag (Reg.CHN_ZQ_DONE c) = true then
    (s.setPhy c { x with phase := .released, resetN := true }).emit (.channelReset c true)
  else s

/-- Step 4: the PHYs are powered and their PLLs enabled, where slice S4 has not locked them. -/
def State.powerPhys (s : State) : State :=
  let s := s.setFld Reg.GLOB_STAT_PHASE 3
  if s.startup.present.isEmpty then s.allFailed
  else s.startup.present.foldl (fun s c =>
    let s := s.setPhy c { s.phy c with phase := .powered, tStart := s.tempo, pmic := false }
    if (s.phy c).pll = .locked then s else s.pllStart c .first) s

/-- PHY_IMPEDANCE_CALIBRATION_DONE: the first calibration of a PHY (R340). -/
def State.phyZqDone (s : State) (c pu pd : Nat) : State :=
  if (s.phy c).phase = .powered then (s.zqCodes c pu pd).tryRelease c else s

/-- PMIC_POWER_GOOD. -/
def State.pmicGood (s : State) (c : Nat) : State :=
  if (s.phy c).phase = .powered then
    ((s.setPhy c { s.phy c with pmic := true }).setBit Reg.SIDE_SPDSTAT_PGOOD c true).tryRelease c
  else s

/-- PMIC_PGOOD_TIMEOUT. -/
def State.pmicTimeout (s : State) (c : Nat) : State :=
  if (s.phy c).phase = .powered ∧ (s.phy c).pmic = false then
    let s := s.advanceTo ((s.phy c).tStart + ns (1000000 * max 1 (s.fld Reg.SIDE_DCFG_PMTMO)))
    ((s.set1 Reg.SIDE_EVT_PMIC_FAIL).bringFail c 4).trainEnd
  else s

/-- What the mode register `ma` of a channel's ranks is set from before training, as R341 names its source. -/
def State.mrSource (s : State) (c ma : Nat) : List Nat :=
  match ma with
  | 4 => [b2n (s.allBank c)]
  | 5 => [s.fld (Reg.CHN_ODT_DRAM_DRV c)]
  | 10 => []
  | 34 => [s.fld (Reg.CHN_ODT_RTT_PARK c), s.fld (Reg.CHN_ODT_RTT_WR c)]
  | 35 => [s.fld (Reg.CHN_ODT_RTT_NOM_WR c), s.fld (Reg.CHN_ODT_RTT_NOM_RD c)]
  | _ => [s.fld Reg.TIMG_LAT_CL, s.fld Reg.TIMG_COL_WR, s.fld Reg.TIMG_COL_RTP, s.fld Reg.TIMG_CCD_CCD_L]

/-- The mode registers the tile programs during DRAM initialization (R341). -/
def initModes : List Nat := [0, 2, 4, 5, 6, 8, 10, 13, 34, 35]

/-- R341: a rank's mode registers are written; the DFE is off, and per-row counting as REFD_RHCTL.PRAC_EN says (R248). -/
def State.programRank (s : State) (sc rk : Nat) : State :=
  let s := initModes.foldl (fun s ma =>
    let v := (Config.mrByte ma (s.mrSource (sc / 2) ma)).toNat
    (s.directCmd sc .mrw rk 0 0 seqTag ma v).emit (.modeSet sc rk ma v)) s
  let s := (List.range 10).foldl (fun s g => s.emit (.modeDfe sc rk g 0)) s
  s.emit (.modeCount sc rk (s.flag Reg.REFD_RHCTL_PRAC_EN))

/-- A rank is calibrated by a ZQCal Start and Latch, from which its interval runs (R223). -/
def State.calibrate (s : State) (sc rk : Nat) : State := (s.directCmd sc .zqs rk 0 0 seqTag 0 0).oweLatch sc rk

/-- The ranks of a channel are programmed and calibrated, on both subchannels (R223, R341). -/
def State.initRanks (s : State) (c : Nat) : State :=
  let rks := s.ranks c
  let each (s : State) (f : State → Nat → Nat → State) : State := rks.foldl (fun s rk => [2 * c, 2 * c + 1].foldl (fun s sc => f s sc rk) s) s
  each (each s State.programRank) State.calibrate

/-- DRAM_INIT_DONE: the mode registers of every rank are written and each rank calibrated; refresh and ZQ calibration run on every rank from now
on, and training begins (R223, R239, R341, R345). -/
def State.dramInitDone (s : State) (c : Nat) : State :=
  if (s.phy c).phase ≠ .released then s
  else
    let w := s.initRanks c
    let s := [2 * c, 2 * c + 1].foldl (fun w sc => (s.ranks c).foldl (fun w rk => w.startRankGroups sc rk w.tempo) w) w
    (s.startTraining c).setFld Reg.GLOB_STAT_PHASE 4

/-- Slice S4 of startup BIST runs. -/
def State.inS4 (s : State) : Bool := s.bist.startup && decide (s.bist.slice = some 4)

/-- PLL_LOCK. -/
def State.pllLock (s : State) (c : Nat) : State :=
  let x := s.phy c
  if x.pll ≠ .first ∧ x.pll ≠ .second then s
  else
    let s := s.pllLocks c
    if x.relock ≠ 0 then s.relocked c else s.tryRelease c

/-- PLL_LOCK_TIMEOUT: 20 µs after enable the PLL has not locked (R339, R426, R455, R469). -/
def State.pllTimeout (s : State) (c : Nat) : State :=
  let x := s.phy c
  if x.pll ≠ .first ∧ x.pll ≠ .second then s
  else
    let s := s.advanceTo (s.pllDeadline c)
    if s.power.sleep = .waking then s.wakePllFails c
    else if x.pll = .first then
      (s.setPhy c { x with relock := if x.relock = 1 then 2 else x.relock }).pllStart c .second
    else if x.relock ≠ 0 then ((s.setPhy c { x with pll := .off }).relockFails c false).fillSettle
    else if s.inS4 then s.setPhy c { x with pll := .off }
    else (s.bringFail c 5).trainEnd

/-! ## Slices (R469-R474, R477, R478) -/

/-- Milliseconds of a slice's budget, 0 treated as 1 (R481). -/
def State.budgetMs (s : State) (k : Nat) : Nat :=
  max 1 (match k with
    | 0 => s.fld Reg.BIST_BUD0_S0
    | 1 => s.fld Reg.BIST_BUD0_S1
    | 2 => s.fld Reg.BIST_BUD0_S2
    | 3 => s.fld Reg.BIST_BUD0_S3
    | 4 => s.fld Reg.BIST_BUD1_S4
    | _ => s.fld Reg.BIST_BUD1_S5)

/-- The slice is not run in this configuration, and reports PASS (R469). -/
def State.sliceAbsent (s : State) (k : Nat) : Bool := (decide (k = 3) && !s.build.crypt) || (decide (k = 5) && !s.build.ring)

/-- The slices have all ended: the record is completed, and start-up goes on. -/
def State.endSlices (s : State) : State :=
  let s := s.finishRecord
  if s.bist.startup then s.powerPhys else s

/-- Slice `k` starts, or what follows the last; S4 of startup BIST enables each PLL itself. -/
def State.enterSlice (s : State) (k : Nat) : Nat → State
  | 0 => s
  | fuel + 1 =>
    if 6 ≤ k then s.endSlices
    else if s.sliceAbsent k then (s.noteSlice k 1 (some (s.expSig k))).enterSlice (k + 1) fuel
    else
      let s : State := { s with bist := { s.bist with slice := some k, t0 := s.tempo } }
      let s := s.setFld Reg.BIST_STAT_SLICE k
      if k = 4 ∧ s.bist.startup = true then s.startup.present.foldl (fun s c => s.pllStart c .first) s else s

/-- Slices S0 to S5 begin. -/
def State.beginSlices (s : State) (startup : Bool) : State := (s.startRecord startup).enterSlice 0 7

/-- Units of an instance among the failed half-banks of S1. -/
def halfBanks (units : List Nat) (inst : Nat) : Nat := ((units.filter (fun u => u / 16 = inst)).dedup).length

/-- Every failed unit may be retired (R469, R477, R478). -/
def State.canRetire (s : State) (k : Nat) (units : List Nat) : Bool :=
  s.flag Reg.BIST_CFG_RETIRE && !units.isEmpty &&
  (match k with
   | 0 => units.all (fun u => decide (u < 8))
   | 1 => units.all (fun u => decide (u / 16 < 4)) && decide (halfBanks units 0 ≤ 4) && decide (halfBanks units 1 ≤ 8) &&
       decide (halfBanks units 2 ≤ 6) && decide (halfBanks units 3 ≤ 4)
   | 2 => units.all (fun u => decide (u < 16))
   | 4 => units.all (fun u => decide (u < 4))
   | _ => false)

/-- A slice's status (R473, R477). -/
def State.sliceStatus (s : State) (k : Nat) (r : SliceRes) : Nat :=
  if r.units.isEmpty && decide (r.sig.toNat = s.expSig k) then
    (if r.mended && s.flag Reg.BIST_CFG_REPAIR && (decide (k = 1) || decide (k = 2)) then 2 else 1)
  else if s.canRetire k r.units then 3
  else 4

/-- A channel does not take part in this BRINGUP. -/
def State.chanAbsent (s : State) (c : Nat) : State :=
  let s := (s.setChState c 4).setTrainStat c 0xB
  let s := (s.setPhy c { s.phy c with pll := .off }).clr (Reg.CHN_PLL_LOCK c)
  { s with startup := { s.startup with present := s.startup.present.filter (· != c) } }

/-- The sum of the built ports' allocations. -/
def State.allocSum (s : State) : Nat := ((List.range 8).filter s.portBuilt).foldl (fun n p => n + s.fld (Reg.HPT_WDCRD_ALLOC p)) 0

/-- ALLOC is lowered one credit at a time, from port 7 downward and round again, until R49 holds. -/
def State.fitAllocs (s : State) (p : Nat) : Nat → State
  | 0 => s
  | fuel + 1 =>
    if s.allocSum ≤ s.wbCap then s
    else
      let a := s.fld (Reg.HPT_WDCRD_ALLOC p)
      let s := if a = 0 ∨ s.portBuilt p = false then s
        else (s.setFld (Reg.HPT_WDCRD_ALLOC p) (a - 1)).set1 (Reg.HPT_EVT_ALLOC_REFUSED p)
      s.fitAllocs ((p + 7) % 8) fuel

/-- A watermark pair above capacity is scaled down by the same fraction, truncating. -/
def State.fitMarks (s : State) (hi lo : FRef) (cap : Nat) : State :=
  let h := s.fld hi
  if h ≤ cap then s else (s.setFld lo (s.fld lo * cap / h)).setFld hi cap

/-- A cap above capacity is lowered to it. -/
def State.fitCap (s : State) (f : FRef) (cap : Nat) : State := if s.fld f ≤ cap then s else s.setFld f cap

/-- What retirement of half-banks does to the capacities, watermarks, caps and allocations (R478). -/
def State.retireSram (s : State) (units : List Nat) : State :=
  let s := s.setFlds [(Reg.BIST_SRAM_WB, halfBanks units 0), (Reg.BIST_SRAM_RB, halfBanks units 1), (Reg.BIST_SRAM_RQ, halfBanks units 2),
    (Reg.BIST_SRAM_WQ, halfBanks units 3)]
  let s := (s.fitMarks Reg.GLOB_WBWM_HI Reg.GLOB_WBWM_LO s.wbCap).fitMarks Reg.GLOB_RBWM_HI Reg.GLOB_RBWM_LO s.rbCap
  let s := (s.fitCap Reg.SCHD_QCAP_RD s.rqCap).fitCap Reg.SCHD_QCAP_WR s.wqCap
  let s := (List.range 8).foldl (fun s p => s.fitCap (Reg.HPT_RSPCAP_CAP p) s.rbCap) s
  s.fitAllocs 7 4096

/-- The effect of a status in startup BIST (R478). -/
def State.sliceEffect (s : State) (k status : Nat) (units : List Nat) : State :=
  match status, k with
  | 3, 0 => units.foldl (fun s p => (s.setPort p { s.port p with retired := true }).setBit Reg.BIST_RET_PORT p true) s
  | 3, 1 => s.retireSram units
  | 3, 2 => units.foldl (fun s i => (s.setBit Reg.BIST_RET_BEGRP i true).chanAbsent (i / 4)) s
  | 3, _ => units.foldl (fun s c => (s.setBit Reg.BIST_RET_PHY c true).chanAbsent c) s
  | 4, 3 => { s with bist := { s.bist with keyBad := true } }.raise 0x35 nowhere
  | 4, 4 => if units = [] then s.raise 0x35 nowhere else units.foldl (fun s c => s.raise 0x35 (atChan c)) s
  | 4, 5 => { s with bist := { s.bist with ringBad := true } }.raise 0x35 nowhere
  | 4, _ => s.raise 0x34 nowhere
  | 5, _ => s.raise 0x36 nowhere
  | _, _ => s

/-- BIST_SLICE_DONE: the slice's final step (R470). In S4 of startup BIST a channel whose PLL never locked has failed. -/
def State.sliceDone (s : State) (r : SliceRes) : State :=
  match s.bist.slice with
  | none => s
  | some k =>
    let dead := if s.inS4 then s.startup.present.filter (fun c => (s.phy c).pll == .off) else []
    let r := { r with units := (r.units ++ dead).dedup }
    let st := s.sliceStatus k r
    let s := s.noteSlice k st (some r.sig.toNat)
    let s := if s.bist.startup then s.sliceEffect k st r.units else s
    s.enterSlice (k + 1) 7

/-- The slice in progress is stopped before its final step, and the next one runs (R474). -/
def State.stopSlice (s : State) : State :=
  match s.bist.slice with
  | none => s
  | some k =>
    let s := s.noteSlice k 5 none
    let s := if s.bist.startup then s.sliceEffect k 5 [] else s
    s.enterSlice (k + 1) 7

/-- BIST_SLICE_BUDGET_EXPIRY. -/
def State.sliceBudget (s : State) : State :=
  match s.bist.slice with
  | none => s
  | some k => (s.advanceTo (s.bist.t0 + ns (1000000 * s.budgetMs k))).stopSlice

/-- TAMPER_RISE: every key is cleared; a slice in progress is stopped (R397, R474). -/
def State.tamperRise (s : State) (v1 v2 : Bool) : State :=
  let s : State := { s with crypt := { s.crypt with tamper := true } }
  let s := if s.build.crypt then s.clearKeys 2 v1 v2 else s
  s.stopSlice

/-! ## GO (R437 steps 2 and 3, R439, R440) -/

/-- A write of 1 to GLOB_BOOT.GO. -/
def State.bootGo (s : State) (agent : Nat) : State :=
  if agent ≠ 0 ∨ s.startup.go = true ∨ s.mode ≠ .bringup then s.set1 Reg.GLOB_EVT_GO_IGNORED
  else { s with startup := { s.startup with go := true } }

/-- Every precondition of R439 holds. -/
def State.goReady (s : State) : Bool :=
  s.mode == .bringup && s.startup.go && !s.startup.acted &&
  (s.power.vmaxDone || s.flag Reg.PWRM_EVT_VMODE) && (s.flag Reg.RING_STAT_NUMBERED || !s.build.ring) &&
  [0x05, 0x11, 0x12, 0x15, 0x16, 0x18, 0x19, 0x1A, 0x1B].all (fun p => (tget none s.copies p).isNone)

/-- GO_ACTED_ON: the channels present are known, the record is judged, and BIST or step 4 follows. -/
def State.goAct (s : State) : State :=
  if !s.goReady then s
  else
    let chans := (List.range 4).filter s.chanBuilt
    let on := chans.filter (fun c => s.flag (Reg.CHN_CFG_POP c))
    let s : State := { s with startup := { s.startup with acted := true, present := on } }
    let s := (chans.filter (fun c => !on.contains c)).foldl (fun s c => (s.setChState c 4).setTrainStat c 0xB) s
    let s := s.setFld Reg.GLOB_BTIME_TGO s.sinceRelease
    let s := (if wcrtOver s.timg s.bankq s.bucketDepth (s.fld Reg.SCHD_RTADM_RATE) then s.set1 Reg.SCHD_EVT_RTADM_REFUSED else s).setBound
    let ok := s.recordValid
    let s := s.setFld Reg.GLOB_STAT_RECORD (b2n ok)
    if ok then s.powerPhys
    else
      let s := if s.presented then s.set1 Reg.BIST_EVT_RECORD_BAD else s
      (s.setFlds [(Reg.GLOB_STAT_PHASE, 2), (Reg.BIST_STAT_PHASE, 6)]).beginSlices true

/-! ## ENDGAME (R464-R468) -/

/-- A queue entry that waits behind a line lock (R92). -/
def State.lockWaiter (s : State) (q : QE) : Bool := q.src == .host && (q.needLock || s.lockedOut q)

/-- The tile enters ENDGAME: held requests and those waiting for a lock are answered OFFLINE, every lock is broken, and what runs in the
background stops (R466). -/
def State.enterEndgame (s : State) : State :=
  let s := s.setMode .endgame
  let s : State := { s with memReady := false, power := { s.power with idle := none, vote := none } }
  let s := s.stopBackground
  let waits := (s.qes.filter s.lockWaiter).map (·.rid)
  let out := s.reqs.filter (fun r => r.stage == .heldFill || (waits.contains r.rid && r.stage != .answered))
  let s := s.deadSlot (fun r => out.any (fun o => o.rid == r.rid))
  let left := s.qes
  let s := s.withdrawUnanswered (out.map (·.rid))
  let s : State := { s with qes := s.qes.filter (fun q => !(out.any (fun r => r.rid == q.rid) && q.stage != .issued)) }
  let s := out.foldl (fun s r => s.answerRest left r .offline) s
  let s := (List.range 16).foldl (fun s i => match tget none s.locks i with
    | some l => (s.raise 0x03 (portPlace l.port l.line)).release' i
    | none => s) s
  let s : State := { s with bist := { s.bist with drainAt := s.tempo, drainInc := false } }
  (s.setFld Reg.BIST_STAT_PHASE 1).checkFlush.takeAllHeld

/-- A write of 1 to BIST_SDREQ.GO (R464). -/
def State.shutdown (s : State) (agent : Nat) : State :=
  if 2 ≤ agent then s.set1 Reg.BIST_EVT_REQ_IGNORED
  else match s.mode with
  | .service | .degraded => s.enterEndgame
  | .sleep => { s with power := { s.power with sdWake := true } }.wakeEvent 5 true false
  | _ => s.set1 Reg.BIST_EVT_REQ_IGNORED

/-- The drain is complete: every write is issued, every response sent and released. -/
def State.drained (s : State) : Bool :=
  s.qes.all (fun q => q.src.quiet) && s.reqs.isEmpty && s.ring.awaits.all (fun a => a.type != 0x0B && a.type != 0x08) &&
  (List.range 8).all (fun p => (s.port p).ready.isEmpty && (s.port p).sent.isEmpty)

/-- Steps 2 to 4: self-refresh, key clear and verify, slices. -/
def State.endgameSteps (s : State) (v1 v2 : Bool) : State :=
  let s := (s.setFld Reg.BIST_STAT_PHASE 2)
  let s := s.upChannels.foldl (fun s c => s.channelDown c) s
  let s := s.setFld Reg.BIST_STAT_PHASE 3
  let s := if s.build.crypt then s.clearKeys 4 v1 v2 else s
  (s.setFld Reg.BIST_STAT_PHASE 4).beginSlices false

/-- The drain runs. -/
def State.draining (s : State) : Bool := s.mode == .endgame && decide (s.fld Reg.BIST_STAT_PHASE = 1)

/-- ENDGAME_DRAIN_COMPLETE. -/
def State.drainComplete (s : State) (v1 v2 : Bool) : State := if s.draining && s.drained then s.endgameSteps v1 v2 else s

/-- What remains of the drain is abandoned. -/
def State.abandonDrain (s : State) : State :=
  let s := s.deadSlot (fun _ => true)
  let s : State := { s with
    qes := []
    reqs := []
    ring := { s.ring with awaits := s.ring.awaits.filter (fun a => a.type != 0x0B && a.type != 0x08 && a.type != 0x0D) }
    bist := { s.bist with drainInc := true } }
  let s := (List.range 8).foldl (fun s p => s.setPort p { s.port p with
    ready := (s.port p).ready.filter (fun f => !f.entry), sent := (s.port p).sent.filter (fun f => !f.entry), rep := none }) s
  (s.dropLines (fun _ => true)).set1 Reg.BIST_EVT_DRAIN_INC

/-- ENDGAME_DRAIN_TIMEOUT. -/
def State.drainTimeout (s : State) (v1 v2 : Bool) : State :=
  if !s.draining then s
  else (s.advanceTo (s.bist.drainAt + ns (1000 * max 1 (s.fld Reg.BIST_CFG_DRTMO)))).abandonDrain.endgameSteps v1 v2

/-- WAKE_COMPLETE: a shutdown request that woke the tile goes on to ENDGAME (R425, R464). -/
def State.wakeComplete (s : State) : State :=
  if !s.wakeReady then s
  else
    let s := s.wakeDone
    if s.power.sdWake then { s with power := { s.power with sdWake := false } }.enterEndgame else s

/-! ## The DIMM sideband (R443-R445, R460-R463) -/

/-- SPD_READ_DONE: a module's contents have been read, with the outcome OK 1, CRC_ERR 2 or NOANS 3 (R444). -/
def State.spdDone (s : State) (c outcome : Nat) (words : List Word) : State :=
  if outcome = 0 ∨ 3 < outcome ∨ 4 ≤ c ∨ (s.fld Reg.SIDE_SPDSTAT_SPD / 4 ^ c) % 4 ≠ 0 then s
  else
    let s := if outcome = 3 then s
      else { s with startup := { s.startup with
        spdCopy := (List.range 256).foldl (fun t i => tput 0 (256 * c + i) (nth 0 words i).toNat t) s.startup.spdCopy } }
    let s := s.setFld Reg.SIDE_SPDSTAT_SPD (s.fld Reg.SIDE_SPDSTAT_SPD + outcome * 4 ^ c)
    let s := if 2 ≤ outcome then s.set1 Reg.SIDE_EVT_SPD_ERR else s
    if (List.range 4).all (fun c => !s.chanBuilt c || decide ((s.fld Reg.SIDE_SPDSTAT_SPD / 4 ^ c) % 4 ≠ 0)) then s.set1 Reg.SIDE_EVT_SPD_DONE else s

/-- THERMAL_POLL: TS0 and TS1 of every present module (R445). A sensor that did not answer keeps its last temperature shown. -/
def State.thermalPoll (s : State) (mods : List TsPair) : State :=
  let per := s.fld Reg.SIDE_DCFG_TSPER
  if per = 0 ∨ s.fld Reg.GLOB_STAT_PHASE < 3 then s
  else
    let s := s.periodic tmrThermal (1000000 * per)
    ((List.range 4).filter s.startup.present.contains).foldl (fun s c =>
      let m := nth ⟨none, none⟩ mods c
      let s := s.setFlds [(Reg.SIDE_TS_V0 c, b2n m.ts0.isSome), (Reg.SIDE_TS_V1 c, b2n m.ts1.isSome)]
      let s := match m.ts0 with | some t => s.setFld (Reg.SIDE_TS_TS0 c) (twos 11 t) | none => s
      match m.ts1 with | some t => s.setFld (Reg.SIDE_TS_TS1 c) (twos 11 t) | none => s) s

/-- A write of SIDE_DXFER; one while a transaction runs is ignored (log entry 47). -/
def State.dxferWrite (s : State) (w : Word) : State :=
  if s.flag Reg.SIDE_DXFER_GO then s
  else
    let err := s.fld Reg.SIDE_DXFER_ERR
    let s := (s.setWord Reg.SIDE_DXFER_GO.key (w &&& 0xFC00FFFF)).setFld Reg.SIDE_DXFER_ERR err
    if Reg.SIDE_DXFER_GO.get w = 0 then s
    else s.emit (.dimmBus (Reg.SIDE_DXFER_CH.get w) (Reg.SIDE_DXFER_DEV.get w) (Reg.SIDE_DXFER_REG.get w) (Reg.SIDE_DXFER_WR.get w != 0)
      (if Reg.SIDE_DXFER_WR.get w = 0 then 0 else Reg.SIDE_DXFER_DATA.get w))

/-- SIDE_DXFER_DONE (R462). -/
def State.dxferDone (s : State) (ack : Bool) (data : Nat) : State :=
  if !s.flag Reg.SIDE_DXFER_GO then s
  else
    let s := (s.clr Reg.SIDE_DXFER_GO).setFld Reg.SIDE_DXFER_ERR (b2n (!ack))
    let s := if ack && !s.flag Reg.SIDE_DXFER_WR then s.setFld Reg.SIDE_DXFER_DATA data else s
    if ack then s.set1 Reg.SIDE_EVT_XFER_DONE else s.set1 Reg.SIDE_EVT_XFER_ERR

/-- DYNAMIC_ADDRESS_ASSIGNMENT (R460, R527). -/
def State.assignAddr (s : State) (a : Nat) : State := s.setFlds [(Reg.SIDE_TCFG_I3C, 1), (Reg.SIDE_TCFG_DADDR, a)]

/-! ## Reset (R437, R537) -/

/-- TILE_RESET_ASSERT: everything returns to its reset value, every CHn_RESET_n falls. What lies outside the tile stays: Tempo, its pins, what
was built, the record of what has left it. -/
def State.resetAssert (s : State) : State :=
  if !s.resetN then s
  else
    let s' : State := { State.reset with
      resetN := false
      build := s.build
      tempo := s.tempo
      wraps := s.wraps
      outputs := s.outputs
      pending := s.pending
      ports := tmap port0 (fun x => { port0 with rst := x.rst, panic := x.panic }) s.ports
      crypt := { State.reset.crypt with tamper := s.crypt.tamper }
      power := { State.reset.power with pgood := s.power.pgood, pgAt := s.power.pgAt } }
    (List.range 4).foldl (fun s c => if s.chanBuilt c then s.emit (.channelReset c false) else s) s'

/-- TILE_RESET_RELEASE: step 1. `anchor` is the TR_ANCHOR strap sampled now. The regulator link reads VOUT_MODE, and the ring stop joins
discovery: the anchor starts it, another tile asks for it (R141, R143). -/
def State.resetRelease (s : State) (anchor : Bool) : State :=
  if s.resetN then s
  else
    let s : State := { s with
      resetN := true
      ring := { s.ring with anchor := anchor }
      startup := { s.startup with relTempo := s.tempo } }
    let s := ((List.range 4).filter (fun c => !s.chanBuilt c)).foldl (fun s c => s.setTrainStat c 0xB) s
    let s := s.smbus busVoutMode 0
    if !s.build.ring then s else if anchor then s.startDisc else s.send 0x03 0 0 []

end Sys2Proof.Machine
end

