-- ==== Sys2Proof/Machine/Regs.lean ====
section
/-! DEFINITION. What a register reads as: the stored words with the fields that show live state, the common header, and the tables reached
indirectly (R8, R9, R72, R103-R105, R130, R193-R198, R228, R262-R265, R295-R299, R325-R329, R360, R384-R386, R402-R403, R428, R457-R461,
R509-R511, R518-R523, R530). -/

namespace Sys2Proof.Machine

open Sys2Proof

/-! ## Pages (R518, R530) -/

/-- The code of a page, as the header's ID spells its first four characters. -/
def pageCode (p : Nat) : List Char :=
  if p = 0 then "GLOB".toList else if p = 1 then "FLTC".toList else if p = 2 then "PWRM".toList else if p = 3 then "RING".toList
  else if p = 4 then "SIDE".toList else if p = 5 then "BIST".toList else if p = 6 then "CRYP".toList else if p = 7 then "AMAP".toList
  else if p < 16 then ['H', 'P', 'T', Char.ofNat (48 + (p - 8))]
  else if p = 0x10 then "SCHD".toList else if p = 0x11 then "TIMG".toList else if p = 0x12 then "REFD".toList
  else if p = 0x13 then "BENG".toList else if p = 0x14 then "ECCS".toList else if p = 0x15 then "RPMR".toList
  else if p = 0x16 then "TRAI".toList else if p = 0x17 then "BOOK".toList
  else ['C', 'H', 'N', Char.ofNat (48 + (p - 0x18))]

/-- The ID word: the first character in bits [7:0]. -/
def pageId (p : Nat) : Nat := (pageCode p).foldr (fun c acc => acc * 256 + c.toNat) 0

/-- The unit behind a page is built (R530): the page-specific registers of another read zero and ignore writes. -/
def State.pageBuilt (s : State) (p : Nat) : Bool :=
  if p = 3 then s.build.ring
  else if p = 6 then s.build.crypt
  else if 8 ≤ p ∧ p < 16 then s.portBuilt (p - 8)
  else if 0x18 ≤ p then s.chanBuilt (p - 0x18)
  else true

/-- The fields of one register. -/
def fieldsAt (p off : Nat) : List FDef := (pageFields p).filter (fun f => f.ref.off == off)

/-- The TILE_IRQ pin (R500): some event bit is set together with its enable bit: of a page's EVT and EVT_EN, of the buffer events (R74), of the lock
events (R103), and the claim break (R526). -/
def State.tileIrq (s : State) : Bool :=
  (List.range 0x1C).any (fun p => s.word (Reg.EVT p).key &&& s.word (Reg.EVT_EN p).key != 0) ||
  s.word (regKey 0 0x220) &&& s.word (regKey 0 0x224) != 0 ||
  decide ((s.word (regKey 0 0x248)).toNat % 8 &&& s.fld Reg.GLOB_LOCKEVT_EN ≠ 0) ||
  (s.flag Reg.GLOB_CLAIMSTAT_BRK && s.flag Reg.GLOB_CLAIMSTAT_BRK_EN)

/-- The bits of one register with an access code. -/
def accMask (p off : Nat) (a : Acc) : Word := (fieldsAt p off).foldl (fun m f => if f.acc = a then m ||| f.ref.mask else m) 0

/-- The bits of a register that a read shows: all named fields but the write-only ones. -/
def readMask (p off : Nat) : Word := (fieldsAt p off).foldl (fun m f => if f.acc = .wo then m else m ||| f.ref.mask) 0

/-! ## Claims and views (R520, R521, R523) -/

def State.claim (s : State) (p : Nat) : Option Claim := tget none s.claims p

/-- An agent's VIEW of a page: true for the active values. -/
def State.view (s : State) (agent p : Nat) : Bool := s.views.contains (32 * agent + p)

/-- The copy a COMMIT took of a page, still waiting. -/
def State.copy (s : State) (p : Nat) : Option Copy := tget none s.copies p

/-- The pages whose accepted copy is held pending after GO was acted on (R212): TIMG, TRAIN, CHNn. -/
def heldPage (p : Nat) : Bool := p == 0x11 || p == 0x16 || (decide (0x18 ≤ p) && decide (p < 0x1C))

/-! ## Live fields -/

def Mode.code (m : Mode) : Nat :=
  match m with | .bringup => 0 | .service => 1 | .degraded => 2 | .sleep => 3 | .endgame => 4 | .halt => 5

/-- The locks held. -/
def State.heldLocks (s : State) : List Nat := (List.range 16).filter (fun i => (tget none s.locks i).isSome)

def bitsOf (l : List Nat) : Nat := l.foldl (fun m i => m ||| 2 ^ i) 0

def State.liveGlob (s : State) (off : Nat) : List (FRef × Nat) :=
  if off = 0x010 then [(Reg.GLOB_STAT_MODE, s.mode.code), (Reg.GLOB_STAT_MEM_READY, b2n s.memReady)]
  else if off = 0x060 then [(Reg.GLOB_FILLST_HELD, s.heldReqs.length)]
  else if off = 0x208 then [(Reg.GLOB_WBSTAT_ALLOC_SUM, s.allocSum), (Reg.GLOB_WBSTAT_OCC, s.wbOcc)]
  else if off = 0x210 then [(Reg.GLOB_RBSTAT_SHARED_USED, s.sharedUsed), (Reg.GLOB_RBSTAT_OCC, s.rbOcc)]
  else if off = 0x228 then [(Reg.GLOB_BUFLVL_WB_LVL, b2n s.wbufHi)]
  else if off = 0x244 then [(Reg.GLOB_LOCKSTAT_HELD, s.heldLocks.length), (Reg.GLOB_LOCKSTAT_VALID, bitsOf s.heldLocks)]
  else if off = 0x250 ∨ off = 0x254 then
    (match tget none s.locks (s.fld Reg.GLOB_LOCKSEL_SEL) with
     | none => []
     | some l =>
       if off = 0x250 then [(Reg.GLOB_LOCKINFO0_VLD, 1), (Reg.GLOB_LOCKINFO0_PORT, l.port), (Reg.GLOB_LOCKINFO0_ADDR_HI, l.line.toNat / 2 ^ 32)]
       else [(Reg.GLOB_LOCKINFO1_ADDR_LO, l.line.toNat)])
  else []

def State.liveFltc (s : State) (off : Nat) : List (FRef × Nat) :=
  if off = 0x080 then
    [(Reg.FLTC_LOGSTAT_EMPTY, b2n s.fault.log.isEmpty), (Reg.FLTC_LOGSTAT_DEPTH, s.fault.log.length)]
  else if off = 0x094 then
    (match s.firstTimer with
     | none => []
     | some t => [(Reg.FLTC_CHKSTAT_RUN, 1), (Reg.FLTC_CHKSTAT_SRC, t.src),
         (Reg.FLTC_CHKSTAT_REM, if reached s.tempo t.dl then 0 else (t.dl - s.tempo).toNat / 1000)])
  else []

/-- PHYs that are powered: from step 4 on, unless the channel has dropped out, is not in use or the tile sleeps. -/
def State.phyOn (s : State) (c : Nat) : Bool :=
  (s.phy c).phase != .idle && (s.phy c).phase != .dropped && decide (s.chState c ≤ 2) &&
  (s.mode != .sleep || s.power.sleep != .asleep)

def State.livePwrm (s : State) (off : Nat) : List (FRef × Nat) :=
  if off = 0x010 then
    [(Reg.PWRM_STAT_WAKING, b2n (s.power.sleep == .waking)), (Reg.PWRM_STAT_ENTERING, b2n (s.power.sleep == .entering)),
     (Reg.PWRM_STAT_VOTING, b2n s.power.vote.isSome), (Reg.PWRM_STAT_SLEEP, b2n (s.mode == .sleep)),
     (Reg.PWRM_STAT_CRYP_ON, b2n (s.power.crypOn && s.build.crypt)), (Reg.PWRM_STAT_CORE_ON, b2n s.power.coreOn),
     (Reg.PWRM_STAT_PHY_ON, bitsOf ((List.range 4).filter s.phyOn))]
  else if off = 0x04C then [(Reg.PWRM_VSTAT_BUSY, b2n s.power.vreq.isSome), (Reg.PWRM_VSTAT_PGOOD, b2n s.power.pgood)]
  else []

def State.liveCryp (s : State) (off : Nat) : List (FRef × Nat) :=
  let k := s.fld Reg.CRYP_KSEL_SLOT
  if off = 0x040 then [(Reg.CRYP_CFG_PRESENT, b2n s.build.crypt)]
  else if off = 0x044 then [(Reg.CRYP_KSTAT_TAMPER, b2n s.crypt.tamper), (Reg.CRYP_KSTAT_VALID_N, s.validSlots)]
  else if off = 0x050 then
    [(Reg.CRYP_KSLOT_STATE, match (s.slot k).st with | .empty => 0 | .valid => 1 | .pendLoad | .pendClear => 2),
     (Reg.CRYP_KSLOT_PORTS, (s.slot k).ports)]
  else []

def State.liveHpt (s : State) (p off : Nat) : List (FRef × Nat) :=
  let x := s.port p
  if off = 0x04C then [(Reg.HPT_WDCRD_HELD p, x.creds)]
  else if off = 0x050 then [(Reg.HPT_RSPCAP_USED p, s.rspUsed p)]
  else if off = 0x058 then [(Reg.HPT_SEQ_MARK p, x.mark.toNat), (Reg.HPT_SEQ_NEXT p, x.next.toNat)]
  else if off = 0x060 then [(Reg.HPT_PANSTAT_LEVEL p, b2n x.panic), (Reg.HPT_PANSTAT_SEEN p, b2n (x.panic || s.flag (Reg.HPT_PANSTAT_SEEN p)))]
  else []

def State.liveTimg (s : State) (off : Nat) : List (FRef × Nat) :=
  if off = 0x010 then
    [(Reg.TIMG_STAT_PENDING, b2n (s.copy 0x11).isSome), (Reg.TIMG_STAT_MTYPE, s.fld Reg.TIMG_MODE_MTYPE), (Reg.TIMG_STAT_RATE, s.fld Reg.TIMG_MODE_RATE)]
  else []

def State.liveRefd (s : State) (off : Nat) : List (FRef × Nat) :=
  if off = 0x058 then
    [(Reg.REFD_TEMP_RATE, (List.range 8).foldl (fun w i => w + (tget (⟨0, 0, none⟩ : RankTemp) s.rankTemps i).code % 4 * 4 ^ i) 0)]
  else []

/-- Count of a device group of a subchannel rank. -/
def State.devCount (s : State) (i g : Nat) : Nat := tget 0 s.repair.devCnt (16 * i + g)

def State.liveEccs (s : State) (off : Nat) : List (FRef × Nat) :=
  if 0x074 ≤ off ∧ off ≤ 0x080 then
    let j := (off - 0x074) / 4
    [(Reg.ECCS_ERS_SLOTS j, (List.range 4).foldl (fun w m => match s.erase? (4 * j + m) with
      | some e => w + (128 + 64 * (e.src % 2) + e.grp % 16) * 256 ^ m
      | none => w) 0)]
  else if 0x088 ≤ off ∧ off ≤ 0x090 then
    let j := (off - 0x088) / 4
    let i := s.fld Reg.ECCS_DSEL_RSEL
    [(⟨0x14, off, 31, 0⟩, (List.range 4).foldl (fun w m => if 4 * j + m < 10 then w + s.devCount i (4 * j + m) % 256 * 256 ^ m else w) 0)]
  else if off = 0x0BC ∨ off = 0x0C0 then
    (match s.track? (s.fld Reg.ECCS_RSEL_SEL) with
     | none => []
     | some t => if off = 0x0C0 then [(Reg.ECCS_RINFO1_L, t.l)]
       else [(Reg.ECCS_RINFO0_VLD, 1), (Reg.ECCS_RINFO0_WATCH, b2n t.watch), (Reg.ECCS_RINFO0_CH, t.ch), (Reg.ECCS_RINFO0_GROUP, t.grp),
         (Reg.ECCS_RINFO0_COUNT, t.count)])
  else []

def State.liveRpmr (s : State) (off : Nat) : List (FRef × Nat) :=
  if off = 0x04C then [(Reg.RPMR_CHSTAT_STATE, (List.range 4).foldl (fun w c => w + s.chState c * 16 ^ c) 0)]
  else if off = 0x060 ∨ off = 0x064 then
    (match tget none s.repair.remap (s.fld Reg.RPMR_RMSEL_SEL) with
     | none => []
     | some m => if off = 0x064 then [(Reg.RPMR_RMINFO1_ROW, m.id.row)]
       else [(Reg.RPMR_RMINFO0_VLD, b2n m.vld), (Reg.RPMR_RMINFO0_COPY, b2n m.copy), (Reg.RPMR_RMINFO0_CH, m.id.ch), (Reg.RPMR_RMINFO0_SC, m.id.sck),
         (Reg.RPMR_RMINFO0_RK, m.id.rk), (Reg.RPMR_RMINFO0_BANK, m.id.bk), (Reg.RPMR_RMINFO0_SPIDX, m.spare)])
  else if off = 0x078 ∨ off = 0x07C then
    (match tget none s.repair.props (s.fld Reg.RPMR_PSEL_SEL) with
     | none => []
     | some x => if off = 0x07C then [(Reg.RPMR_PINFO1_ROW, x.id.row)]
       else [(Reg.RPMR_PINFO0_VLD, 1), (Reg.RPMR_PINFO0_REASON, x.reason), (Reg.RPMR_PINFO0_CH, x.id.ch), (Reg.RPMR_PINFO0_SC, x.id.sck),
         (Reg.RPMR_PINFO0_RK, x.id.rk), (Reg.RPMR_PINFO0_BANK, x.id.bk), (Reg.RPMR_PINFO0_DEVMASK, x.mask)])
  else []

/-- Four lanes' deskews, six bits each. -/
def packSkew (l : List Int) : Nat := (List.range 4).foldl (fun w i => w + twos 6 (nth 0 l i) * 64 ^ i) 0

def State.liveBook (s : State) (off : Nat) : List (FRef × Nat) :=
  if off = 0x04C then
    [(Reg.BOOK_RUN_STATE, (List.range 4).foldl (fun w c => w + (128 * b2n (s.ep c).running + min 63 (s.ep c).done) * 256 ^ c) 0)]
  else if 0x074 ≤ off ∧ off ≤ 0x080 then
    let pt := s.fld Reg.BOOK_SEL_POINT
    let g := s.fld Reg.BOOK_SEL_GRP
    if 4 < pt ∨ 9 < g then []
    else
      let e := s.bookEnt (bookKey (2 * s.fld Reg.BOOK_SEL_CH + s.fld Reg.BOOK_SEL_SC) (s.fld Reg.BOOK_SEL_RK) g pt)
      if off = 0x074 then [(Reg.BOOK_ENT0_WR_DLY, twos 9 e.t.wrDly), (Reg.BOOK_ENT0_RD_DLY, twos 9 e.t.rdDly), (Reg.BOOK_ENT0_HVREF, e.t.hvref)]
      else if off = 0x078 then [(Reg.BOOK_ENT1_RM, b2n e.rm), (Reg.BOOK_ENT1_RTHETA, twos 11 e.rth), (Reg.BOOK_ENT1_WM, b2n e.wm), (Reg.BOOK_ENT1_WTHETA, twos 11 e.wth)]
      else if off = 0x07C then [(Reg.BOOK_ENT2_RDSK, packSkew e.t.rdsk)]
      else [(Reg.BOOK_ENT3_WDSK, packSkew e.t.wdsk)]
  else []

def State.liveChn (s : State) (c off : Nat) : List (FRef × Nat) :=
  let g := s.fld (Reg.CHN_TSEL_GRP c)
  let sc := 2 * c + s.fld (Reg.CHN_TSEL_SC c)
  let rk := s.fld (Reg.CHN_TSEL_RK c)
  let t := s.trim (laneKey sc rk g)
  let st := s.trim (laneKey sc rk (if s.flag (Reg.CHN_CFG_X8 c) then 2 * (g / 2) else g))
  let a := s.caTrim (2 * sc + rk)
  let e := s.eye (laneKey sc rk g)
  if off = 0x010 then [(⟨0x18 + c, 0x010, 0, 0⟩, b2n (s.copy (0x18 + c)).isSome)]
  else if 9 < g then []
  else if off = 0x058 then [(Reg.CHN_TRIM0_WR_DLY c, twos 9 t.wrDly), (Reg.CHN_TRIM0_RD_DLY c, twos 9 t.rdDly), (Reg.CHN_TRIM0_HVREF c, t.hvref)]
  else if off = 0x05C then
    [(Reg.CHN_TRIM1_WL_C c, st.wlC), (Reg.CHN_TRIM1_WL_F c, twos 9 st.wlF), (Reg.CHN_TRIM1_GATE_C c, st.gateC), (Reg.CHN_TRIM1_GATE_F c, twos 9 st.gateF),
     (Reg.CHN_TRIM1_DVREF c, t.dvref)]
  else if off = 0x060 then [(Reg.CHN_TRIM2_RDSK c, packSkew t.rdsk)]
  else if off = 0x064 then [(Reg.CHN_TRIM3_DFE c, t.dfe), (Reg.CHN_TRIM3_WDSK c, packSkew t.wdsk)]
  else if off = 0x068 then
    [(Reg.CHN_TRIM4_CA_DLY c, twos 9 a.caDly), (Reg.CHN_TRIM4_CS_DLY c, twos 9 a.csDly), (Reg.CHN_TRIM4_VREFCA c, a.vrefCa), (Reg.CHN_TRIM4_VREFCS c, a.vrefCs)]
  else if off = 0x06C then [(Reg.CHN_EYE_CA_W c, a.caW), (Reg.CHN_EYE_WR_W c, e.wrW), (Reg.CHN_EYE_RD_W c, e.rdW)]
  else []

/-- The fields of a register that show state held elsewhere. -/
def State.live (s : State) (p off : Nat) : List (FRef × Nat) :=
  if p = 0 then s.liveGlob off
  else if p = 1 then s.liveFltc off
  else if p = 2 then s.livePwrm off
  else if p = 3 then (if off = 0x044 then [(Reg.RING_STAT_ANCHOR, b2n s.ring.anchor)] else [])
  else if p = 5 then (if 0x060 ≤ off ∧ off ≤ 0x074 then [(⟨5, off, 31, 0⟩, s.expSig ((off - 0x060) / 4))] else [])
  else if p = 6 then s.liveCryp off
  else if p = 7 then (if off = 0x044 then [(Reg.AMAP_MAPSTAT_RETAIN, bitsOf s.retained), (Reg.AMAP_MAPSTAT_AGREE, s.agree)] else [])
  else if p < 16 then s.liveHpt (p - 8) off
  else if p = 0x11 then s.liveTimg off
  else if p = 0x12 then s.liveRefd off
  else if p = 0x14 then s.liveEccs off
  else if p = 0x15 then s.liveRpmr off
  else if p = 0x16 then (if off = 0x010 then [(⟨0x16, 0x010, 0, 0⟩, b2n (s.copy 0x16).isSome)] else [])
  else if p = 0x17 then s.liveBook off
  else if 0x18 ≤ p then s.liveChn (p - 0x18) off
  else []

/-! ## Tables reached indirectly -/

/-- Staged or active value of a table word (R181, R301). -/
def State.tabWord (s : State) (d : Nat → Nat) (active : Bool) (k : Nat) : Nat :=
  let a := tget (d k) s.tabs k
  if active then a else tget a s.tabsStg k

/-- The engines the INDEX of BENG can name. -/
def bengEngines : Nat := 512

/-- BENG space `sp`, word `i`, under a view (R198, R265). -/
def State.bengRead (s : State) (active : Bool) (sp i : Nat) : Nat :=
  let e := s.eng i
  let sel := s.eng (s.fld Reg.REFD_TSEL_ENG)
  match sp with
  | 0 => if i < 1024 then s.tabWord bengReset active i else 0
  | 1 => if i < bengEngines then s.tabWord bengReset active (0x1000 + i) else 0
  | 2 =>
    if i < bengEngines then
      let row := match e.row with | some r => 2 ^ 31 + r % 2 ^ 18 * 2 ^ 13 | none => 0
      row + e.hist.toNat * 2 ^ 5 + min 31 (s.qes.filter (fun q => q.loc.eng == i && s.isCand q)).length
    else 0
  | 3 => match sel.table[i]? with | some x => 2 ^ 31 + x.row % 2 ^ 18 | none => 0
  | 4 => match sel.table[i]? with | some x => x.count % 2 ^ 17 | none => 0
  | 5 => if i < bengEngines then min 0xFFFF e.spill else 0
  | 6 => if i < bengEngines then b2n e.throttled * 2 ^ 31 + e.epochAct % 2 ^ 22 else 0
  | 7 =>
    if i < bengEngines then
      let sc := i / 64
      let rk := (i / 32) % 2
      let j := if s.allBank (sc / 2) then 0 else i % 4
      b2n e.mitig.isSome * 2 ^ 7 + twos 4 (s.group (groupKey sc rk j)).debt
    else 0
  | _ => 0

/-- The word of BENG_DATA. -/
def State.bengData (s : State) (active : Bool) : Word :=
  BitVec.ofNat 32 (s.bengRead active (s.fld Reg.BENG_IDX_SPACE) (s.fld Reg.BENG_IDX_INDEX))

/-- Word `w` of the PPR list entry that RPMR_PPRIDX selects. -/
def State.pprData (s : State) (active : Bool) (w : Nat) : Word :=
  BitVec.ofNat 32 (s.tabWord (fun _ => 0) active (pprKey (s.fld Reg.RPMR_PPRIDX_ENTRY) w))

/-- The word of SIDE_SPDDAT (R461). -/
def State.spdData (s : State) : Word :=
  BitVec.ofNat 32 (tget 0 s.startup.spdCopy (256 * s.fld Reg.SIDE_SPDIDX_CH + s.fld Reg.SIDE_SPDIDX_IDX))

/-! ## The word a read returns -/

/-- The header registers (R519). -/
def State.headerWord (s : State) (agent p off : Nat) : Option Word :=
  if off = 0x000 then some (BitVec.ofNat 32 (pageId p))
  else if off = 0x004 then some 0x04010001
  else if off = 0x008 then
    let rs := accMask p 0x008 .rs
    let own := if s.view agent p then s.word (regKey p 0x008) else s.stagedWord (regKey p 0x008)
    let busy := (s.copy p).isSome && !heldPage p
    some ((own &&& rs) ||| BitVec.ofNat 32 (2 * b2n (s.view agent p) + b2n busy))
  else if off = 0x00C then
    some (match s.claim p with | some c => BitVec.ofNat 32 (2 ^ 31 + c.agent % 16 * 2 ^ 16) | none => 0)
  else if off = 0x020 then some 0
  else if off = 0x024 then some (s.fltWord p)
  else none

/-- What a register reads as to an agent, without the effects of reading it (R9, R516, R521). -/
def State.readWord (s : State) (agent p off : Nat) : Word :=
  match s.headerWord agent p off with
  | some w => w
  | none =>
    if 0x040 ≤ off ∧ s.pageBuilt p = false then 0
    else
      let active := s.view agent p
      if p = 0x13 ∧ off = 0x044 then s.bengData active
      else if p = 0x15 ∧ (off = 0x06C ∨ off = 0x070) then s.pprData active ((off - 0x06C) / 4)
      else if p = 4 ∧ off = 0x050 then s.spdData
      else
        let k := regKey p off
        let rs := accMask p off .rs
        let w := (s.live p off).foldl (fun w x => x.1.put w x.2) (s.word k)
        let st := if active then w else s.stagedWord k
        if off = 0x010 then w
        else ((w &&& ~~~rs) ||| (st &&& rs)) &&& readMask p off

end Sys2Proof.Machine
end

