-- ==== Sys2Proof/Machine/Pages.lean ====
section
/-! DEFINITION. Register access: reads and writes by an agent, staged values, COMMIT with its checks and safe points, claims, the management
port and the target sideband (R49, R66-R70, R102, R116-R117, R129, R156, R181, R186-R187, R192, R212, R254, R259, R291, R298, R305, R309,
R320, R326, R328-R329, R382, R393, R424, R430, R433, R491-R492, R506, R510, R514-R529). -/

namespace Sys2Proof.Machine

open Sys2Proof

/-! ## Status codes of R516 -/

def stOk : Nat := 0
def stClaimed : Nat := 1
def stDeclined : Nat := 2

/-! ## Staged values (R521, R524) -/

/-- A staged word. A staged value stays as written whatever the active value does. -/
def State.setStaged (s : State) (k : Nat) (w : Word) : State := { s with stg := tins k w (tdel k s.stg) }

/-- A staged table word (R181, R301). -/
def State.setStagedTab (s : State) (k v : Nat) : State := { s with tabsStg := tins k v (tdel k s.tabsStg) }

/-- The page a staged table word belongs to. -/
def tabPage (k : Nat) : Nat := if k < 0x20000 then 0x13 else 0x15

/-- The staged words of a page, and its staged table words. -/
def State.stagedOf (s : State) (p : Nat) : Copy :=
  ⟨s.stg.filter (fun e => e.1 / 0x1000 == p), s.tabsStg.filter (fun e => tabPage e.1 == p)⟩

/-- A page's staged values return to its active ones. -/
def State.dropStaged (s : State) (p : Nat) : State :=
  { s with stg := s.stg.filter (fun e => e.1 / 0x1000 != p), tabsStg := s.tabsStg.filter (fun e => tabPage e.1 != p) }

/-! ## Claims (R523-R525) -/

def State.setClaim (s : State) (p : Nat) (c : Option Claim) : State := { s with claims := tput none p c s.claims }

/-- The page is held by another agent. -/
def State.heldByOther (s : State) (agent p : Nat) : Bool := match s.claim p with | some c => c.agent != agent | none => false

/-- An access by a page's owner restarts its idle time. -/
def State.touchClaim (s : State) (agent p : Nat) : State :=
  match s.claim p with
  | some c => if c.agent = agent then s.setClaim p (some { c with last := s.tempo }) else s
  | none => s

/-- CLAIM: a free page is taken, its owner's idle time restarts, another agent's page is refused. -/
def State.takeClaim (s : State) (agent p : Nat) : Nat × State :=
  match s.claim p with
  | none => (stOk, s.setClaim p (some ⟨agent, s.tempo⟩))
  | some c => if c.agent = agent then (stOk, s.setClaim p (some ⟨agent, s.tempo⟩)) else (stClaimed, s)

/-- RELEASE: from the owner, the page is free and its staged values revert. -/
def State.releaseClaim (s : State) (agent p : Nat) : State :=
  match s.claim p with
  | some c => if c.agent = agent then (s.setClaim p none).dropStaged p else s
  | none => s

/-- A claim is broken (R525, R526): cause 1 agent reset, 2 idle. -/
def State.breakClaim (s : State) (p cause : Nat) : State :=
  match s.claim p with
  | none => s
  | some c =>
    ((s.setClaim p none).dropStaged p).setFlds [(Reg.GLOB_CLAIMSTAT_BRK, 1), (Reg.GLOB_CLAIMSTAT_CAUSE, cause), (Reg.GLOB_CLAIMSTAT_PAGE, p),
      (Reg.GLOB_CLAIMSTAT_AGENT, c.agent)]

/-- Every claim of an agent is broken. -/
def State.breakAgent (s : State) (agent : Nat) : State :=
  (List.range 0x1C).foldl (fun s p => match s.claim p with
    | some c => if c.agent = agent then s.breakClaim p 1 else s
    | none => s) s

/-- CLAIM_IDLE_TIMEOUT. -/
def State.claimIdle (s : State) (p : Nat) : State :=
  match s.claim p with
  | none => s
  | some c => (s.advanceTo (c.last + ns (1000000 * max 1 (s.fld Reg.GLOB_CLAIMCFG_TMO)))).breakClaim p 2

/-! ## The checks of a copy (R522 step 2) -/

/-- A word of a copy: its staged bits over the active word. -/
def State.copyWord (s : State) (c : Copy) (k : Nat) : Word :=
  let rs := accMask (k / 0x1000) (k % 0x1000) .rs
  let a := s.word k
  (a &&& ~~~rs) ||| (tget a c.words k &&& rs)

/-- A field of a copied word keeps its active value unless `ok`. -/
def State.keepUnless (s : State) (f : FRef) (ok : Bool) (w : Word) : Word := if ok then w else f.put w (s.fld f)

/-- The same for a whole register. -/
def State.keepWord (s : State) (k : Nat) (ok : Bool) (w : Word) : Word := if ok then w else s.word k

def within (lo hi v : Nat) : Bool := decide (lo ≤ v) && decide (v ≤ hi)

/-- R49: the allocation a port's copy asks for keeps the sum within the write data buffer, or does not raise it. -/
def State.allocOk (s : State) (p : Nat) (w : Word) : Bool :=
  let new := (Reg.HPT_WDCRD_ALLOC p).get w
  let old := s.fld (Reg.HPT_WDCRD_ALLOC p)
  decide (new ≤ old) || decide (s.allocSum + new ≤ s.wbCap + old)

/-- What a copied word becomes after the checks of its page. `g` reads a field of the copy. -/
def State.checkedWord (s : State) (p off : Nat) (w : Word) : Word :=
  let k := regKey p off
  let g (f : FRef) : Nat := f.get w
  let keep := s.keepWord k
  if p = 0 then
    (if off = 0x200 then keep (decide (g Reg.GLOB_WBWM_LO < g Reg.GLOB_WBWM_HI) && decide (g Reg.GLOB_WBWM_HI ≤ s.wbCap)) w
     else if off = 0x20C then keep (decide (g Reg.GLOB_RBWM_LO < g Reg.GLOB_RBWM_HI) && decide (g Reg.GLOB_RBWM_HI ≤ s.rbCap)) w
     else if off = 0x240 then keep (within 1 1000 (g Reg.GLOB_LOCKCTL_TMO)) w
     else w)
  else if p = 1 then
    (if off = 0x040 then s.keepUnless Reg.FLTC_CFG_CHK (within 10 1000000 (g Reg.FLTC_CFG_CHK)) w
     else if off = 0x084 then keep (decide (g Reg.FLTC_LOGWM_LO < g Reg.FLTC_LOGWM_HI) && decide (g Reg.FLTC_LOGWM_HI ≤ 64)) w
     else w)
  else if p = 2 then
    (if off = 0x040 then keep (decide (g Reg.PWRM_VLOOP_DN < g Reg.PWRM_VLOOP_UP) && decide (g Reg.PWRM_VLOOP_WIN ≠ 0)) w
     else if off = 0x044 then keep (decide (g Reg.PWRM_VLIM_VMIN ≤ g Reg.PWRM_VLIM_VMAX)) w
     else w)
  else if p = 3 then
    (if off = 0x040 then
       s.keepUnless Reg.RING_CTL_RSP_TMO (decide (g Reg.RING_CTL_RSP_TMO ≠ 0)) (s.keepUnless Reg.RING_CTL_LINK_TMO (decide (g Reg.RING_CTL_LINK_TMO ≠ 0)) w)
     else w)
  else if 8 ≤ p ∧ p < 16 then
    let n := p - 8
    (if off = 0x044 then
       s.keepUnless (Reg.HPT_BUD0_DL_DEF n) (decide (g (Reg.HPT_BUD0_DL_DEF n) ≠ 0x3FFF))
         (s.keepUnless (Reg.HPT_BUD0_BE_DEF n) (decide (g (Reg.HPT_BUD0_BE_DEF n) ≠ 0x3FFF)) w)
     else if off = 0x048 then s.keepUnless (Reg.HPT_BUD1_RT_DEF n) (decide (g (Reg.HPT_BUD1_RT_DEF n) ≠ 0x3FFF)) w
     else if off = 0x04C then s.keepUnless (Reg.HPT_WDCRD_ALLOC n) (s.allocOk n w) w
     else if off = 0x050 then s.keepUnless (Reg.HPT_RSPCAP_CAP n) (within 16 512 (g (Reg.HPT_RSPCAP_CAP n))) w
     else w)
  else if p = 0x10 then
    (if off = 0x04C then keep (within 16 384 (g Reg.SCHD_QCAP_RD) && within 16 256 (g Reg.SCHD_QCAP_WR)) w
     else if off = 0x050 then keep (decide (g Reg.SCHD_WDRN_WLO < g Reg.SCHD_WDRN_WHI)) w
     else w)
  else if p = 0x12 then
    (if off = 0x040 then
       s.keepUnless Reg.REFD_RCTL_TREFI (within 500 8191 (g Reg.REFD_RCTL_TREFI))
         (s.keepUnless Reg.REFD_RCTL_POSTMAX (decide (g Reg.REFD_RCTL_POSTMAX ≤ 4))
           (s.keepUnless Reg.REFD_RCTL_PULLMAX (decide (g Reg.REFD_RCTL_PULLMAX ≤ 4)) (s.keepUnless Reg.REFD_RCTL_AB (!s.startup.acted) w)))
     else if off = 0x048 then s.keepUnless Reg.REFD_RHCTL_T (within 256 32768 (g Reg.REFD_RHCTL_T)) w
     else w)
  else if p = 0x14 then
    (if off = 0x040 then s.keepUnless Reg.ECCS_SCRB_PERIOD (decide (g Reg.ECCS_SCRB_PERIOD ≠ 0)) w
     else if off = 0x044 then s.keepUnless Reg.ECCS_RPT_WIN (decide (g Reg.ECCS_RPT_WIN ≠ 0)) w
     else w)
  else if p = 0x17 then
    (if off = 0x040 then s.keepUnless Reg.BOOK_LCTL_PERIOD (decide (g Reg.BOOK_LCTL_PERIOD ≠ 0)) w else w)
  else w

/-- The timing fields and their ranges (R210). -/
def timgRanges : List (FRef × Nat × Nat) :=
  [ (Reg.TIMG_LAT_CL, 22, 110), (Reg.TIMG_LAT_CRCW, 8, 63), (Reg.TIMG_LAT_MBL, 0, 15), (Reg.TIMG_ACT_RCD, 8, 127), (Reg.TIMG_ACT_RP, 8, 127),
    (Reg.TIMG_ACT_RAS, 16, 255), (Reg.TIMG_COL_RTP, 8, 63), (Reg.TIMG_COL_WR, 16, 255), (Reg.TIMG_CCD_CCD_S, 8, 31), (Reg.TIMG_CCD_CCD_L, 8, 63),
    (Reg.TIMG_CCD_CCD_L_WR, 8, 127), (Reg.TIMG_RRD_RRD_S, 8, 31), (Reg.TIMG_RRD_RRD_L, 8, 63), (Reg.TIMG_RRD_FAW, 16, 127), (Reg.TIMG_WTR_WTR_S, 2, 31),
    (Reg.TIMG_WTR_WTR_L, 4, 127), (Reg.TIMG_RFC_RFCAB, 64, 4095), (Reg.TIMG_RFC_RFCSB, 64, 4095) ] ++
  [ (Reg.TIMG_RFC2_REFSBRD, 8, 255), (Reg.TIMG_RFM_RFMAB, 64, 4095), (Reg.TIMG_RFM_RFMSB, 64, 4095), (Reg.TIMG_MR_MRD, 8, 127), (Reg.TIMG_MR_MRW, 8, 63),
    (Reg.TIMG_MR_MRR, 8, 63), (Reg.TIMG_ZQ_ZQCAL, 100, 2047), (Reg.TIMG_ZQ_ZQLAT, 8, 255), (Reg.TIMG_ZQ_ZQ_INT, 1, 255), (Reg.TIMG_SR_CPDED, 2, 31),
    (Reg.TIMG_SR_CKLCS, 2, 63), (Reg.TIMG_SR_CKSRX, 2, 63), (Reg.TIMG_XS_XS, 64, 4095), (Reg.TIMG_XS_XSDLL, 64, 4095), (Reg.TIMG_TURN_RW, 2, 15),
    (Reg.TIMG_TURN_RRRS, 2, 15), (Reg.TIMG_TURN_WWRS, 2, 15), (Reg.TIMG_TURN_WRRS, 2, 15), (Reg.TIMG_TURN_PC, 0, 7) ]

/-- R212: a copy of TIMG is acceptable. -/
def State.timgOk (s : State) (c : Copy) : Bool :=
  let g (f : FRef) : Nat := f.get (s.copyWord c f.key)
  let r := g Reg.TIMG_MODE_RATE
  timgRanges.all (fun x => within x.2.1 x.2.2 (g x.1)) && decide (g Reg.TIMG_LAT_CL % 2 = 0) &&
  (if g Reg.TIMG_MODE_MTYPE = 0 then within 32 88 r else within 88 160 r)

/-- R187: the copy's admission values are refused. -/
def State.rtadmBad (s : State) (c : Copy) : Bool :=
  let g (f : FRef) : Nat := f.get (s.copyWord c f.key)
  let b := g Reg.SCHD_RTADM_BANKQ
  wcrtOver s.timg (if b = 0 ∨ 8 < b then 1 else b) (max 1 (g Reg.SCHD_RTADM_DEPTH)) (g Reg.SCHD_RTADM_RATE) || rateOver s.timg (g Reg.SCHD_RTADM_RATE)

/-- A copy changes something: some staged bits, or a staged table word, differ from the active ones. -/
def State.copyChanges (s : State) (c : Copy) : Bool :=
  c.words.any (fun e => decide (s.copyWord c e.1 ≠ s.word e.1)) ||
  c.tabs.any (fun e => decide (e.2 ≠ tget (if e.1 < 0x20000 then bengReset e.1 else 0) s.tabs e.1))

/-! ## A copy takes effect (R522 step 3) -/

/-- R82: PEN becomes 0: requests of the port none of whose lines has moved are answered OFFLINE. -/
def State.closePort (s : State) (p : Nat) : State :=
  let out := s.waiting p
  let s := if s.arbHolder = some p then s.deadSlot (fun r => decide (r.moved = 0)) else s
  out.foldl (fun s r => s.answer r.rid .offline) s

/-- What follows when a page's new values are in force. `was` is the state before. -/
def State.afterCommit (s was : State) (p : Nat) : State :=
  if p = 1 then
    s.stopTimers (fun no => !s.fbit (if no < 32 then Reg.FLTC_ESC0_ESC else Reg.FLTC_ESC1_ESC) (no % 32))
  else if p = 2 then s.touchIdle
  else if 8 ≤ p ∧ p < 16 then
    let n := p - 8
    let s := if was.flag (Reg.HPT_PCTL_PEN n) && !s.flag (Reg.HPT_PCTL_PEN n) then s.closePort n else s
    s.giveCredits n
  else if p = 0x10 then
    (if decide (s.fld Reg.SCHD_RTADM_RATE = was.fld Reg.SCHD_RTADM_RATE) && decide (s.bucketDepth = was.bucketDepth) then s
     else (List.range 8).foldl (fun s sc => s.setSub sc { s.sub sc with bucket := s.bucketDepth, bktFrac := 0, bktAt := s.longTime }) s).setBound
  else if p = 0x11 then s.setBound
  else s

/-- The words of a copy come into force after the checks of their page. -/
def State.applyWords (s : State) (c : Copy) (sel : Nat → Bool) : State :=
  let ws := (c.words.filter (fun e => sel (e.1 % 0x1000))).map (fun e =>
    (e.1, s.checkedWord (e.1 / 0x1000) (e.1 % 0x1000) (s.copyWord c e.1)))
  ws.foldl (fun s e => s.setWord e.1 e.2) s

/-- The whole copy of a page comes into force. -/
def State.applyCopy (s : State) (p : Nat) (c : Copy) : State :=
  let refused := decide (8 ≤ p) && decide (p < 16) && c.words.any (fun e => e.1 % 0x1000 == 0x04C && !s.allocOk (p - 8) (s.copyWord c e.1))
  let s' := s.applyWords c (fun _ => true)
  let s' : State := { s' with
    tabs := c.tabs.foldl (fun t e => tput (if e.1 < 0x20000 then bengReset e.1 else 0) e.1 e.2 t) s'.tabs
    copies := tput none p none s'.copies }
  let s' := if refused then s'.set1 (Reg.HPT_EVT_ALLOC_REFUSED (p - 8)) else s'
  s'.afterCommit s p

/-! ## COMMIT -/

/-- Keep a copy until its safe point, or nothing when it changes nothing. -/
def State.keepCopy (s : State) (p : Nat) (c : Copy) : State :=
  { s with copies := tput none p (if s.copyChanges c then some c else none) s.copies }

/-- COMMIT of AMAP: the checks of R116, then the offer or, without the ring, the switch (R117). -/
def State.commitMap (s : State) (c : Copy) : State :=
  let ws := blockWords (s.copyWord c)
  let dec (n : Nat) : ChDec := chDecOf (s.copyWord c (regKey 7 (0x50 + 4 * n))) (s.copyWord c (regKey 7 (0x60 + 4 * n)))
  if s.ring.offer.isSome ∨ s.ring.switch.isSome then s.amapEvt 8
  else if s.copyChanges c = false then { s with copies := tput none 7 none s.copies }
  else
    let locked := (List.range 4).any (fun n => s.startup.fillOn.contains n && decide (dec n ≠ s.chDec n))
    let bad := s.mapFails ws dec ++ (if locked then [7] else [])
    if bad.isEmpty then { s with copies := tput none 7 (some c) s.copies }.offerMap ws
    else bad.foldl (fun s b => s.amapEvt b) s

/-- The pages whose safe points come at once until GO is acted on (R439). -/
def earlyPage (p : Nat) : Bool := p == 5 || p == 0x12 || p == 0x15

/-- A write of 1 to CTL.COMMIT, with the copy of the page's staged view (R522). After GO a copy of TIMG, TRAIN or a CHNn page is held as its
pending values (R212). -/
def State.commit (s : State) (p : Nat) : State :=
  let c := s.stagedOf p
  if p = 7 then s.commitMap c
  else if p = 6 then s.applyCopy 6 c
  else if heldPage p then
    if p = 0x11 ∧ s.timgOk c = false then s.set1 Reg.TIMG_EVT_REFUSED
    else if s.startup.acted then { s with copies := tput none p (some c) s.copies }
    else s.applyCopy p c
  else if earlyPage p && !s.startup.acted then s.applyCopy p c
  else if p = 0x10 ∧ s.rtadmBad c = true then
    let k := Reg.SCHD_RTADM_RATE.key
    (s.set1 Reg.SCHD_EVT_RTADM_REFUSED).keepCopy p { c with words := c.words.filter (fun e => e.1 != k) }
  else s.keepCopy p c

/-- The page is at its safe point (R424, R522). -/
def State.atSafePoint (s : State) (p : Nat) : Bool :=
  if p = 4 then !s.flag Reg.SIDE_DXFER_GO
  else if p = 5 then s.bist.slice.isNone
  else if p = 0x13 then s.mode != .sleep && s.qes.all (fun q => q.pol.isNone || !(q.stage == .proposed || q.stage == .accepted))
  else if p = 0x10 ∨ p = 0x12 ∨ p = 0x17 then s.mode != .sleep
  else if p = 0x14 then s.mode != .sleep && (List.range 4).all (fun c => !(s.scrubOf c).busy)
  else if p = 0x15 then s.repair.failing.isEmpty && (s.repair.remap.filterMap (·.2)).all (fun m => !m.copy) && s.qes.all (fun q => q.again != 2)
  else true

/-- COMMIT_SAFE_POINT. On PWRM the SLP and SLPT words wait for the next start of the idle timer. -/
def State.safePoint (s : State) (p : Nat) : State :=
  if p = 7 ∨ heldPage p = true then s
  else match s.copy p with
  | none => s
  | some c =>
    if !s.atSafePoint p then s
    else if p = 2 ∧ (s.power.idle.isSome ∨ s.power.vote.isSome) then
      let late (off : Nat) : Bool := off == 0x054 || off == 0x058
      let rest : Copy := { c with words := c.words.filter (fun e => late (e.1 % 0x1000)) }
      (s.applyWords c (fun off => !late off)).keepCopy 2 rest
    else s.applyCopy p c

/-! ## Writes with an effect of their own -/

/-- RPMR_RMREQ.GO (R305, R326): the named row becomes failing; GO reads 1 while its copy runs. -/
def State.rmRequest (s : State) : State :=
  let r : RowId := ⟨s.fld Reg.RPMR_RMREQ_CH, s.fld Reg.RPMR_RMREQ_SC, s.fld Reg.RPMR_RMREQ_RK, s.fld Reg.RPMR_RMREQ_BANK, s.fld Reg.RPMR_RMREQ_ROW⟩
  (if s.chUp r.ch then s.rowFails r 0x3FF else s).rmGoEnd

/-- RPMR_ERSREQ.GO (R309, R326). -/
def State.ersRequest (s : State) : State :=
  let i := ersIdx (2 * s.fld Reg.RPMR_ERSREQ_CH + s.fld Reg.RPMR_ERSREQ_SC) (s.fld Reg.RPMR_ERSREQ_RK)
  ((s.eraseRequest i (s.fld Reg.RPMR_ERSREQ_GROUP)).clr Reg.RPMR_ERSREQ_GO).fillSettle

/-- RPMR_MCTL.CASTLE for one channel: it has failed, and Castling may be performed (R316, R317). -/
def State.castleWrite (s : State) (c : Nat) : State :=
  if !s.chUp c then s
  else
    let s : State := { s with repair := { s.repair with asked := s.repair.asked.filter (· != c) ++ [c] } }
    let s := if s.repair.peerWait && s.crossChannels.contains c then s.losePeer else s.chanFails c true
    { s with repair := { s.repair with asked := s.repair.asked.filter (fun x => x != c || s.repair.failing.contains c) } }

/-- RPMR_MCTL.RETIRE for one channel; ignored while a valid entry names it (R320). -/
def State.retireWrite (s : State) (c : Nat) : State :=
  if !s.chUp c || !(s.sharesOf c).isEmpty || !(s.secondSharesOf c).isEmpty then s
  else
    let s := s.stopChannel c (s.intact c none)
    s.setChState c 3

/-- RPMR_MCTL. -/
def State.mctlWrite (s : State) (w : Word) : State :=
  let s := (List.range 4).foldl (fun s c => if (Reg.RPMR_MCTL_CASTLE.get w).testBit c then s.castleWrite c else s) s
  ((List.range 4).foldl (fun s c => if (Reg.RPMR_MCTL_RETIRE.get w).testBit c then s.retireWrite c else s) s).fillSettle

/-- CRYP_KCMD. -/
def State.kcmdWrite (s : State) (agent cmd : Nat) (v1 v2 : Bool) : State :=
  match cmd with
  | 1 => s.keyLoad agent
  | 2 => s.keyClear agent
  | 3 => s.keyClearAll agent v1 v2
  | _ => s

/-- Words of the buffer and code counters cleared by GLOB_BUFCLR. -/
def State.bufClear (s : State) (w : Word) : State :=
  let s := if Reg.GLOB_BUFCLR_WB_CLR.get w = 0 then s else s.setFlds [(Reg.GLOB_BUFCE_WB_CE, 0), (Reg.GLOB_BUFUE_WB_UE, 0)]
  if Reg.GLOB_BUFCLR_RB_CLR.get w = 0 then s else s.setFlds [(Reg.GLOB_BUFCE_RB_CE, 0), (Reg.GLOB_BUFUE_RB_UE, 0)]

/-- ECCS_DSEL.CLR: the ten counts of the selected rank are cleared. -/
def State.clearCounts (s : State) : State :=
  let i := s.fld Reg.ECCS_DSEL_RSEL
  { s with repair := { s.repair with devCnt := s.repair.devCnt.filter (fun e => e.1 / 16 != i) } }

/-- The writes that are not plain: they replace the plain effect. -/
def State.ownWrite (s : State) (agent p off : Nat) (w : Word) (v1 v2 : Bool) : Option State :=
  if p = 1 ∧ (off = 0x044 ∨ off = 0x048) then some (s.clearStatus ((off - 0x044) / 4) w)
  else if p = 1 ∧ off = 0x064 then some (if Reg.FLTC_FFCTL_VLD.get w = 0 then s else s.clearFirst)
  else if p = 4 ∧ off = 0x064 then some (s.dxferWrite w)
  else if p = 6 ∧ off = 0x04C then some (s.kcmdWrite agent (Reg.CRYP_KCMD_CMD.get w) v1 v2)
  else if p = 6 ∧ off = 0x050 then
    (let k := s.fld Reg.CRYP_KSEL_SLOT
     some (s.setSlot k { s.slot k with ports := Reg.CRYP_KSLOT_PORTS.get w }))
  else if p = 6 ∧ 0x080 ≤ off ∧ off ≤ 0x0BC then
    some { s with crypt := { s.crypt with keyw := tput 0 ((off - 0x080) / 4) w s.crypt.keyw } }
  else if p = 7 ∧ off = 0x070 then some (s.migWrite w)
  else if p = 0x11 ∧ off = 0x080 then some (s.mrCommand w)
  else if p = 0x14 ∧ off = 0x0B4 then
    some (s.setWord (regKey p off) (if 9 < Reg.ECCS_INJ_GROUP.get w then Reg.ECCS_INJ_ARM.put (w &&& accMask p off .rw) 0 else w &&& accMask p off .rw))
  else if p = 0x15 ∧ off = 0x078 then
    some (if Reg.RPMR_PINFO0_VLD.get w = 0 then s
      else { s with repair := { s.repair with props := tput none (s.fld Reg.RPMR_PSEL_SEL) none s.repair.props } })
  else if p = 0x16 ∧ off = 0x050 then some (if Reg.TRAIN_FAIL_VLD.get w = 0 then s else s.setWord (regKey p off) 0)
  else none

/-- What a plain write then triggers. -/
def State.triggers (s : State) (agent p off : Nat) (w : Word) : State :=
  if p = 0 ∧ off = 0x040 then (if Reg.GLOB_BOOT_GO.get w = 0 then s else s.bootGo agent)
  else if p = 0 ∧ off = 0x21C then s.bufClear w
  else if p = 5 ∧ off = 0x040 then (if Reg.BIST_SDREQ_GO.get w = 0 then s else s.shutdown agent)
  else if p = 7 ∧ off = 0x048 then (if Reg.AMAP_RETIRE_GO.get w = 0 then s else s.sendRetire)
  else if p = 0x14 ∧ off = 0x084 then (if Reg.ECCS_DSEL_CLR.get w = 0 then s else s.clearCounts)
  else if p = 0x15 ∧ off = 0x048 then s.mctlWrite w
  else if p = 0x15 ∧ off = 0x054 then (if Reg.RPMR_RMREQ_GO.get w = 0 then s else s.rmRequest)
  else if p = 0x15 ∧ off = 0x058 then (if Reg.RPMR_ERSREQ_GO.get w = 0 then s else s.ersRequest)
  else s

/-! ## Plain writes (R9, R521, R524) -/

/-- A plain write to a register: RW and W1C fields at once, RS fields to the staged view where the agent may write them. -/
def State.plainWrite (s : State) (p off : Nat) (w : Word) (stage : Bool) : State :=
  let k := regKey p off
  let rw := accMask p off .rw
  let c := accMask p off .w1c
  let rs := accMask p off .rs
  let a := s.word k
  let st := s.stagedWord k
  let s := if rw ||| c = 0 then s else s.setWord k ((a &&& ~~~rw &&& ~~~(c &&& w)) ||| (w &&& rw))
  if stage && decide (rs ≠ 0) then s.setStaged k ((st &&& ~~~rs) ||| (w &&& rs)) else s

/-- BENG_DATA is written: a word of space 0 or 1 is staged; INDEX advances unless the write was refused (R197, R198). -/
def State.advanceBeng (s : State) : State :=
  if s.flag Reg.BENG_IDX_AINC then s.setFld Reg.BENG_IDX_INDEX ((s.fld Reg.BENG_IDX_INDEX + 1) % 4096) else s

def State.bengWrite (s : State) (agent : Nat) (w : Word) : Nat × State :=
  let sp := s.fld Reg.BENG_IDX_SPACE
  let i := s.fld Reg.BENG_IDX_INDEX
  let staged := (decide (sp = 0) && decide (i < 1024)) || (decide (sp = 1) && decide (i < bengEngines))
  if staged && s.heldByOther agent 0x13 then (stClaimed, s)
  else
    let s := if staged then s.setStagedTab (0x1000 * sp + i) (w.toNat % (if sp = 0 then 16 else 4)) else s
    (stOk, s.advanceBeng)

/-- RPMR_PPRW0 and RPMR_PPRW1 are RS words of the selected entry; an access to the second advances ENTRY (R328). -/
def State.advancePpr (s : State) : State :=
  if s.flag Reg.RPMR_PPRIDX_AINC then s.setFld Reg.RPMR_PPRIDX_ENTRY ((s.fld Reg.RPMR_PPRIDX_ENTRY + 1) % 64) else s

def State.pprWrite (s : State) (agent i : Nat) (w : Word) : Nat × State :=
  let held := s.heldByOther agent 0x15
  let s' := if held then s
    else s.setStagedTab (pprKey (s.fld Reg.RPMR_PPRIDX_ENTRY) i) (w &&& accMask 0x15 (0x06C + 4 * i) .rs).toNat
  (if held then stClaimed else stOk, if i = 1 then s'.advancePpr else s')

/-! ## Writes of the header (R519-R524) -/

def State.setView (s : State) (agent p : Nat) (v : Bool) : State :=
  let k := 32 * agent + p
  { s with views := if v then s.views.filter (· != k) ++ [k] else s.views.filter (· != k) }

/-- CTL: the agent's VIEW, page-specific staged bits, and COMMIT. -/
def State.ctlWrite (s : State) (agent p : Nat) (w : Word) : Nat × State :=
  let s := s.setView agent p (w.getLsbD 1)
  let held := s.heldByOther agent p
  let rs := accMask p 0x008 .rs
  let s := s.plainWrite p 0x008 w (!held)
  if p = 6 ∧ agent ≠ 3 then (stOk, if w.getLsbD 0 then s.kRefused else s)
  else
    let s := if w.getLsbD 0 && !held then s.commit p else s
    (if held && (w.getLsbD 0 || decide (rs ≠ 0)) then stClaimed else stOk, s)

/-- OWNER: CLAIM, then RELEASE. -/
def State.ownerWrite (s : State) (agent p : Nat) (w : Word) : Nat × State :=
  if p = 6 ∧ agent ≠ 3 then (stOk, if w.getLsbD 0 || w.getLsbD 1 then s.kRefused else s)
  else
    let (st, s) := if w.getLsbD 0 then s.takeClaim agent p else (stOk, s)
    (st, if w.getLsbD 1 then s.releaseClaim agent p else s)

/-! ## Accesses (R515-R517, R422, R424) -/

/-- A register access in SLEEP wakes CORE, and CRYP for its page, except on the pages AON serves (R422, R423). -/
def State.wakeAccess (s : State) (p src : Nat) : State :=
  if p = 2 ∨ p = 5 ∨ s.mode ≠ .sleep then s else s.wakeEvent src false (decide (p = 6))

/-- A write that gives a voter pending work wakes everything (R422). -/
def State.wakeWork (s : State) : State :=
  if s.mode = .sleep ∧ s.power.sleep = .asleep ∧ (List.range 8).any s.voterRefuses = true then s.wakeEvent 5 true false else s

/-- The body of a write: status and state. -/
def State.writeBody (s : State) (agent p off : Nat) (w : Word) (v1 v2 : Bool) : Nat × State :=
  if off = 0x008 then s.ctlWrite agent p w
  else if off = 0x00C then s.ownerWrite agent p w
  else if off = 0x020 then (stOk, s.force p w)
  else if 0x040 ≤ off ∧ s.pageBuilt p = false then (stOk, s)
  else if p = 6 ∧ 0x040 ≤ off ∧ agent ≠ 3 then (stOk, s.kRefused)
  else if p = 0x13 ∧ off = 0x044 then s.bengWrite agent w
  else if p = 0x15 ∧ (off = 0x06C ∨ off = 0x070) then s.pprWrite agent ((off - 0x06C) / 4) w
  else
    let held := s.heldByOther agent p && decide (accMask p off .rs ≠ 0)
    let st := if held then stClaimed else stOk
    match s.ownWrite agent p off w v1 v2 with
    | some s' => (st, s')
    | none => (st, (s.plainWrite p off w (!held)).triggers agent p off w)

/-- A write of word address `a` by an agent, from wake source `src`: status and state. -/
def State.busWrite (s : State) (agent a : Nat) (w : Word) (src : Nat) (v1 v2 : Bool) : Nat × State :=
  let p := a / 0x1000
  let off := a % 0x1000
  if 0x1C ≤ p then (stDeclined, s)
  else
    let s := (s.wakeAccess p src).touchClaim agent p
    let (st, s) := s.writeBody agent p off w v1 v2
    (st, s.wakeWork)

/-- The effects of reading a register: the pop of the log, and what advances an index (R504, R197, R328, R461). -/
def State.readEffect (s : State) (p off : Nat) (upset : BitVec 128) : State :=
  if p = 1 ∧ off = 0x070 then s.logPop upset
  else if p = 0x13 ∧ off = 0x044 then s.advanceBeng
  else if p = 0x15 ∧ off = 0x070 ∧ s.pageBuilt p = true then s.advancePpr
  else if p = 4 ∧ off = 0x050 ∧ s.flag Reg.SIDE_SPDIDX_AINC = true then s.setFld Reg.SIDE_SPDIDX_IDX ((s.fld Reg.SIDE_SPDIDX_IDX + 1) % 256)
  else s

/-- The registers a read of which has an effect: they read as zero through the aperture, unchanged (R62). -/
def readActs (p off : Nat) : Bool :=
  (decide (p = 1) && decide (off = 0x070)) || (decide (p = 0x13) && decide (off = 0x044)) || (decide (p = 0x15) && decide (off = 0x070)) ||
  (decide (p = 4) && decide (off = 0x050))

/-- A read of word address `a` by an agent: status, data and state. A pop returns the word it has just moved (R504). -/
def State.busRead (s : State) (agent a : Nat) (src : Nat) (upset : BitVec 128) : Nat × Word × State :=
  let p := a / 0x1000
  let off := a % 0x1000
  if 0x1C ≤ p then (stDeclined, 0, s)
  else
    let s := (s.wakeAccess p src).touchClaim agent p
    let s' := s.readEffect p off upset
    (stOk, (if p = 1 ∧ off = 0x070 then s'.readWord agent p off else s.readWord agent p off), s')

/-! ## The management port (R514-R516) -/

/-- The agents the port accepts. -/
def mgtAgent (agent : Nat) : Bool := agent == 0 || agent == 1 || agent == 3

/-- A write on the management register port. -/
def State.mgtWrite (s : State) (agent a : Nat) (w : Word) (v1 v2 : Bool) : State :=
  if !mgtAgent agent then s.emit (.mgt 0 (BitVec.ofNat 2 stDeclined))
  else
    let (st, s) := s.busWrite agent a w 4 v1 v2
    s.emit (.mgt 0 (BitVec.ofNat 2 st))

/-- A read on the management register port. -/
def State.mgtRead (s : State) (agent a : Nat) (upset : BitVec 128) : State :=
  if !mgtAgent agent then s.emit (.mgt 0 (BitVec.ofNat 2 stDeclined))
  else
    let (st, w, s) := s.busRead agent a 4 upset
    s.emit (.mgt w (BitVec.ofNat 2 st))

/-! ## The target sideband (R527, R528) -/

/-- The address that the first three bytes of a transfer spell, where they are well formed. -/
def sideAddr (bytes : List (BitVec 8)) : Option Nat :=
  let b (i : Nat) : Nat := (nth 0 bytes i).toNat
  if 2 ≤ b 2 ∨ b 0 % 4 ≠ 0 then none else some (b 0 + b 1 * 2 ^ 8 + b 2 * 2 ^ 16)

/-- SIDEBAND_WRITE: a private write of seven bytes. -/
def State.sideWrite (s : State) (bytes : List (BitVec 8)) : State :=
  let s := s.wakeEvent 2 false false
  match (if bytes.length = 7 then sideAddr bytes else none) with
  | none => s.emit (.sideband (BitVec.ofNat 2 stDeclined) 0)
  | some a =>
    let w := BitVec.ofNat 32 ((List.range 4).foldl (fun acc i => acc + (nth 0 bytes (3 + i)).toNat * 256 ^ i) 0)
    let (st, s) := s.busWrite 2 a w 2 true true
    s.emit (.sideband (BitVec.ofNat 2 st) 0)

/-- SIDEBAND_READ: a private write of three address bytes, then a private read of `n` bytes, 4 or 5. -/
def State.sideRead (s : State) (bytes : List (BitVec 8)) (n : Nat) (upset : BitVec 128) : State :=
  let s := s.wakeEvent 2 false false
  match (if bytes.length = 3 ∧ (n = 4 ∨ n = 5) then sideAddr bytes else none) with
  | none => s.emit (.sideband (BitVec.ofNat 2 stDeclined) 0)
  | some a =>
    let (st, w, s) := s.busRead 2 a 2 upset
    s.emit (.sideband (BitVec.ofNat 2 st) w)

/-! ## The host aperture (R61-R64, R529) -/

/-- A read of the sixteen registers of a line. -/
def State.apertureRead (s : State) (agent base : Nat) : Nat × LineData × State :=
  let st := if 0x1C ≤ base / 0x1000 then stDeclined else stOk
  if st = stDeclined then (st, 0, s)
  else
    let s := (s.wakeAccess (base / 0x1000) 4).touchClaim agent (base / 0x1000)
    let w (i : Nat) : Word :=
      let a := base + 4 * i
      if readActs (a / 0x1000) (a % 0x1000) then 0 else s.readWord agent (a / 0x1000) (a % 0x1000)
    (st, BitVec.ofNat 512 ((List.range 16).foldr (fun i acc => acc * 2 ^ 32 + (w i).toNat) 0), s)

/-- The writes of a line's registers under the mask, in ascending offset; the first refusal stops them. -/
def State.apertureWrite (s : State) (agent base : Nat) (mask : BitVec 64) (d : LineData) : Nat × State :=
  (List.range 16).foldl (fun (acc : Nat × State) i =>
    if acc.1 ≠ stOk ∨ bits mask.toNat (4 * i + 3) (4 * i) ≠ 15 then acc
    else acc.2.busWrite agent (base + 4 * i) (BitVec.ofNat 32 (d.toNat >>> (32 * i))) 4 true true) (stOk, s)

end Sys2Proof.Machine
end

