-- ==== Sys2Proof/Machine/Returns.lean ====
section
/-! DEFINITION. What comes back from the DRAM: read data, the close of a write's alert window and of a read's parity window, the row copy
of a remap, and the placing of proposals (R23, R87, R175-R177, R184, R217, R256-R257, R277, R306-R307, R313, R371, R379). -/

namespace Sys2Proof.Machine

open Sys2Proof

/-- What any change of queues, channels or watermarks may bring about: held requests, MEM_READY, the idle timer. -/
def State.settleAll (s : State) : State := s.fillSettle.touchIdle

/-! ## Writes (R87, R217, R257) -/

/-- A write's alert window closes: it counts as issued. One that failed every CRC retry was written as poison (R257). -/
def State.windowClosed (s : State) (q : QE) : State :=
  let s := if q.again = 3 then (s.set1 Reg.REFD_EVT_CRC_FAIL).raise 0x10 (atLoc q.loc 0xF) else s
  match q.src with
  | .fill => s.fillIssued q
  | .train => s.dropQE q.tag
  | .migWr => (s.dropQE q.tag).migStep
  | _ => s.writeIssued q

/-- WRITE_ALERT_WINDOW_CLOSE: the oldest open window of a subchannel; it closes tCRC_ALERT after its write window has ended (R217). -/
def State.closeAlertWin (s : State) (sc : Nat) : State :=
  let u := s.sub sc
  match u.alertWin with
  | [] => s
  | i :: rest =>
    let s := s.setSub sc { u with alertWin := rest }
    let s := s.tickTo sc (s.timg.alertEnd i.slot) 4096
    let s := match s.qe? i.tag with
      | some q => s.windowClosed q
      | none => s
    (s.drainEnd sc).settleAll

/-! ## Reads (R277) -/

/-- The read is made again, this time alone deciding (R379). -/
def State.readAgain (s : State) (q : QE) : State :=
  (s.epAbort q.loc.sc q.loc.rk).mapQE q.tag (fun q => { q with stage := .wait, e := 0, retries := 1 })

/-- A read-back of a repaired primary that is bad again: the line stays served from its secondary copy (R313, R316). -/
def State.verifyBad (s : State) (q : QE) : State :=
  let s : State := { s with repair := { s.repair with away := s.repair.away.filter (· != (q.loc.ch, q.loc.l)) ++ [(q.loc.ch, q.loc.l)] } }
  s.countRepair q.loc.ch

/-- A line was decoded under an En Passant mark, and its slot is not marked for good. -/
def State.underMark (s : State) (i : Issue) (sc : Nat) : Bool :=
  decide (i.er ≠ 0) && s.erase? (ersIdx sc i.rk) != some ⟨0, i.er - 1⟩

/-- The decoded read goes where it is awaited. -/
def State.readTo (s : State) (sc : Nat) (q : QE) (c : Class) (er : Option Nat) (b : Burst) : State :=
  match q.src with
  | .host => s.demandRead sc q c er
  | .scrub | .scrubVerify => s.scrubResult q c er
  | .migRd => s.migReturn q c
  | .repairRd =>
    match s.qe? q.link with
    | some o => (s.dropQE q.tag).repairResult o (some c)
    | none => s.dropQE q.tag
  | .repairVerify =>
    let s := s.dropQE q.tag
    match c with
    | .line _ _ _ _ => s
    | _ => s.verifyBad q
  | .mirrorRd t m => (s.dropQE q.tag).send 0x0E t m (flitsOf 5 b.toNat)
  | .probe => s.dropQE q.tag
  | .train => s.trainBack q
  | .scrubWrite | .fill | .migWr | .repairWr | .mirrorWr _ _ | .second | .dup | .poisonWr => s

/-- The captured burst of a read. -/
def State.burstIn (s : State) (sc : Nat) (i : Issue) (q : QE) (b : Burst) : State :=
  let er : Option Nat := if i.er = 0 then none else some (i.er - 1)
  let c := classify b q.loc.l er
  let raw := match q.src with | .mirrorRd _ _ => true | _ => false
  match c with
  | .line _ _ _ fixed => (s.epSample sc i.rk fixed).readTo sc q c er b
  | _ => if s.underMark i sc && decide (q.retries = 0) && !raw then s.readAgain q else s.readTo sc q c er b

/-- The bytes of a mode register read (R222, R244). -/
def State.mrrIn (s : State) (sc : Nat) (i : Issue) (b : Burst) : State :=
  let u := s.sub sc
  match u.maint.find? (fun m => m.tag == i.tag) with
  | none => s
  | some m =>
    let s := s.setSub sc { u with maint := u.maint.filter (fun m => m.tag != i.tag) }
    if m.kind = 1 then s.mr4Return sc i.rk b else s.mrData (sc / 2) b

/-- READ_DATA_RETURN: the burst of the oldest read of a subchannel. -/
def State.readReturn (s : State) (sc : Nat) (b : Burst) : State :=
  let u := s.sub sc
  match u.reading with
  | [] => s
  | i :: rest =>
    let s := s.setSub sc { u with reading := rest }
    if i.cmd = .mrr then (s.mrrIn sc i b).settleAll
    else match s.qe? i.tag with
    | none => s
    | some q =>
      let s := s.burstIn sc i q b
      let s := if q.retries = 0 then s else s.epResume (sc / 2)
      (s.checkFlush).settleAll

/-- PAR_WIN_EXPIRY: the oldest uncorrectable read of a subchannel may be answered (R256). -/
def State.parExpire (s : State) (sc : Nat) : State :=
  let u := s.sub sc
  match u.parWait with
  | [] => s
  | (tag, mis) :: rest =>
    let s := s.setSub sc { u with parWait := rest }
    match s.qe? tag with
    | some q => (s.demandBad q mis).settleAll
    | none => s

/-! ## Proposals (R175, R184, R319) -/

/-- PROPOSAL_PLACE of a subchannel: its window, or the proxy where its channel has failed or serves a line from the peer's copy. -/
def State.place (s : State) (sc : Nat) : State :=
  let c := sc / 2
  if s.mode = .sleep ∨ s.mode = .halt then s
  else
    let s := if s.chState c = 2 ∨ s.chUp c = true then s.proxy sc else s
    if s.latticeOn c then ([0, 1].foldl (fun s rk => s.trainPoint sc rk) s).placeAll sc else s

/-- GAMBIT_IDLE_TIMEOUT: with no candidate at the bank PRE is proposed; a candidate stops the timer. -/
def State.gambitIdle (s : State) (b : Nat) : State :=
  let e := s.eng b
  let sc := b / 64
  match e.idle, e.row with
  | some d, some r =>
    let s := s.advanceTo d
    if s.qes.any (fun q => q.loc.eng == b && s.phaseCand sc q) then s.setEng b { e with idle := none }
    else if e.outstanding || decide (8 ≤ (s.sub sc).window.length) || !s.latticeOn (sc / 2) then s
    else s.placeCand sc (s.maintCand sc .pre ((b / 32) % 2) (b % 32) r false d (idleTag b))
  | _, _ => s

/-- DRAIN_START. -/
def State.drainBegin (s : State) (sc : Nat) : State := if s.latticeOn (sc / 2) then s.drainStart sc else s

/-- LATTICE_TICK: the lattice decides; an inserted gap that has opened is used (R367), and tokens no longer waited for go on (R149). -/
def State.tick (s : State) (sc : Nat) : State := if s.latticeOn (sc / 2) then (((s.latticeTick sc).gapEnd sc).zqApply (sc / 2)).passTokens else s

/-- IDLE_GAP_TRIM_APPLY: in an idle gap the trims that wait are applied (R366). -/
def State.gapApply (s : State) (sc : Nat) : State := if s.latticeOn (sc / 2) && s.gapOpen sc then s.applyPend sc else s

/-! ## The row copy (R306, R307, R321) -/

/-- R250 step 1: a bank takes no other ACT while its mitigation is pending; the copy lets it run first. -/
def State.mitigateNow (s : State) (sc rk bk : Nat) : Nat → State
  | 0 => s
  | fuel + 1 =>
    let b := engOf sc rk bk
    match (s.eng b).mitig with
    | none => s
    | some m =>
      let s := s.closeBank sc rk bk
      let s := if (s.eng b).cfgNbr then
          m.nbr.foldl (fun s r => ((s.directCmd sc .act rk bk r (mitTag b) 0 0).directCmd sc .pre rk bk r (mitTag b) 0 0).closeNotice b) s
        else
          let j := if s.allBank (sc / 2) then 0 else bk % 4
          let s := (s.groupBanks sc rk j).foldl (fun s o => s.closeBank sc rk (o % 32)) s
          s.directCmd sc (if s.allBank (sc / 2) then .rfmab else .rfmsb) rk bk 0 (mitTag b) 0 0
      s.mitigateNow sc rk bk fuel

/-- The copy must wait: commands of the bank are under way, a line of the bank is being repaired or a repair's write is due (R321), or a
forced refresh of the bank is owed (R306 step 2). -/
def State.copyWaits (s : State) (r : RowId) : Bool :=
  let sc := 2 * r.ch + r.sck
  (List.range 4).any (fun j => s.forced sc r.rk j && (s.group (groupKey sc r.rk j)).running &&
    (s.groupBanks sc r.rk j).any (fun b => b % 32 == r.bk)) ||
  s.qes.any (fun q => q.held && q.again == 2 && q.loc.eng == engOf sc r.rk r.bk) ||
  s.qes.any (fun q => q.loc.ch == r.ch && q.loc.sck == r.sck && q.loc.rk == r.rk && q.loc.bk == r.bk &&
    (q.stage == .accepted || (q.wr && q.stage == .issued && !q.done) || q.src == .repairWr || (q.src == .poisonWr && q.link != 0)))

/-- What a line is copied as: its own symbols corrected, the mirror copy's, or poison with a record. -/
def State.copyLine (s : State) (x : Loc) (b other : Burst) : Burst × State :=
  let sc := x.sc
  let er : Option Nat := (s.erase? (ersIdx sc x.rk)).map (·.grp)
  let perm : Option Nat := match s.erase? (ersIdx sc x.rk) with | some e => if e.src = 0 then some e.grp else none | none => none
  let bad (s : State) : Burst × State :=
    let m := (s.entryAt x.ch x.l).filter (fun m => m.mirror != 0)
    match m, classify other x.l none with
    | some _, .line _ _ stored _ => (stored, s)
    | _, _ => (poisonBurst x.l, (s.raise 0x19 (atLoc x 0xF)).bump Reg.RPMR_CNT1_RRFAIL)
  match classify b x.l er with
  | .line _ _ stored _ => (stored, s)
  | _ =>
    if er = perm then bad s
    else
      let s := s.epAbort sc x.rk
      match classify b x.l perm with
      | .line _ _ stored _ => (stored, s)
      | _ => bad s

/-- One chunk of 16 lines from row `src` to row `dst`. -/
def State.copyChunk (s : State) (m : Remap) (dst k : Nat) (rd other : List Burst) : State :=
  let r := m.id
  let sc := 2 * r.ch + r.sck
  let cols := (List.range 16).map (fun i => 16 * k + i)
  let s := (s.mitigateNow sc r.rk r.bk 4).directCmd sc .act r.rk r.bk m.src seqTag 0 0
  let s := cols.foldl (fun s j => s.directAt sc .rd r.rk r.bk m.src j seqTag 0 0) s
  let s := s.closeBank sc r.rk r.bk
  let s := (s.mitigateNow sc r.rk r.bk 4).directCmd sc .act r.rk r.bk dst seqTag 0 0
  let s := cols.foldl (fun s j =>
    let l := (s.chDec r.ch).lineOf r.sck r.rk r.bk r.row j
    let (b, s) := s.copyLine { s.locOf r.ch l with row := dst } (nth 0 rd j) (nth 0 other j)
    (s.directAt sc .wr r.rk r.bk dst j seqTag 0 0).emit (.writeBurst sc b)) s
  s.closeBank sc r.rk r.bk

/-- The devices charged in a row, as its proposal's mask (R329). -/
def State.chargedMask (s : State) (r : RowId) : Nat :=
  match s.repair.suspects.find? (fun x => x.id == r) with
  | some x => x.grps.foldl (fun m g => m ||| s.devMask r.ch (some g)) 0
  | none => 0x3FF

/-- REMAP_COPY_COMPLETE: the copy of remap entry `i` runs to its end; `rd` holds the bursts read from the row, column by column, `other` those
of the mirror copy. The entry becomes valid and the bank's requests go on, to the row that now serves them. -/
def State.remapDone (s : State) (i : Nat) (rd other : List Burst) : State :=
  match tget none s.repair.remap i with
  | none => s
  | some m =>
    let r := m.id
    let sc := 2 * r.ch + r.sck
    if !m.copy || s.copyWaits r || !s.latticeOn r.ch then s
    else
      let dst := s.spareRow r.ch m.spare
      let s := s.closeBank sc r.rk r.bk
      let s := (List.range (if (s.chDec r.ch).col7 then 8 else 4)).foldl (fun s k => s.copyChunk m dst k rd other) s
      let s : State := { s with repair := { s.repair with remap := tput none i (some { m with vld := true, copy := false }) s.repair.remap } }
      let s := s.mapQEs (fun q => q.loc.ch == r.ch && q.loc.sck == r.sck && q.loc.rk == r.rk && q.loc.bk == r.bk && q.stage == .wait)
        (fun q => { q with loc := s.placeOf q.loc.ch q.loc.l })
      let s := ((s.raise 0x18 (atBank r.ch r.sck r.rk 0xF r.bk)).bump Reg.RPMR_CNT0_RMAP).set1 Reg.RPMR_EVT_REMAP
      ((s.propose r 1 (s.chargedMask { r with row := m.src })).epResume r.ch).rmGoEnd

end Sys2Proof.Machine
end

