-- ==== Sys2Proof/Machine/Run.lean ====
section
/-! DEFINITION. How a command's effect is run: with the consequences that hold at once after it, and the words of the register writes that
have a row of their own (R146, R414, R456, R514-R516). -/

namespace Sys2Proof.Machine

open Sys2Proof

/-- A line of a request is in the write data buffer. -/
def State.hasLine (s : State) (rid idx : Nat) : Bool := s.wbuf.any (fun w => w.rid == some rid && w.idx == idx)

/-- Lines of forwarded requests that were not in the buffer before go out as FWD_WD (R146). -/
def State.sendNewLines (s was : State) : State :=
  (s.ring.awaits.filter (fun a => a.type == 0x08)).foldl (fun s a =>
    ((List.range 4).filter (fun i => s.hasLine a.forWhat i && !was.hasLine a.forWhat i)).foldl
      (fun s i => s.forwardData a.forWhat a.dst a.mseq (some i)) s) s

/-- What follows at once from an effect that led to `u`: write-data lines to forward, writes that may be answered (R23), FLUSHes that are complete
(R100), requests whose acknowledge nothing withholds any more (R31), drains that have come to their end (R177), requests held above a watermark,
MEM_READY and the idle timer. -/
def State.after (s u : State) : State := (u.sendNewLines s).answerFreed.checkFlush.takeAllHeld.endDrains.settleAll

/-- The state a command leaves whose own effect led to `u`. -/
def State.done (s u : State) : State := keepPins s (s.after u)

/-- Run an effect and its consequences where the tile serves. -/
def act (s : State) (f : State → State) : Host.Outcome State Fault Refusal := if s.serving then .next (s.done (f s)) else .next s

/-- The same for a unit the configurator built. -/
def actIf (built : Bool) (s : State) (f : State → State) : Host.Outcome State Fault Refusal :=
  if built then act s f else .fault .unitNotBuilt

/-- A word of register fields, each value at its field's place. -/
def wordOf (l : List (FRef × Nat)) : Word := BitVec.ofNat 32 (l.foldl (fun n p => n + p.2 * 2 ^ p.1.lo) 0)

/-- A write of a register that has a row of its own, by an agent over the management port. -/
def State.portWrite (s : State) (agent : BitVec 4) (key : Nat) (w : Word) (v1 v2 : Bool) : State :=
  s.mgtWrite agent.toNat key w v1 v2

end Sys2Proof.Machine
end

