-- ==== Sys2Proof/Machine/FaultCmds.lean ====
section
/-! DEFINITION. The commands of the fault collector (R485-R513). -/

namespace Sys2Proof.Machine

open Sys2Proof

/-- FAULT_REPORT (R486, R498). -/
def execFaultReport (src loc aux : Nat) (akind : Bool) (addr : Nat) (s : State) : Host.Outcome State Fault Refusal :=
  serve s (fun s => s.reportFault src loc aux akind addr)

/-- CAPTURE_WINDOW_CLOSE (R487-R495, R502). -/
def execCaptureWindowClose (v1 v2 : Bool) (s : State) : Host.Outcome State Fault Refusal := act s (fun s => s.closeWindow v1 v2)

/-- CHECK_TIMER_EXPIRY (R492, R493). -/
def execCheckTimerExpiry (s : State) : Host.Outcome State Fault Refusal := act s (fun s => s.chkExpire)

/-- FAULT_STATUS_CLEAR: a write of FLTC_STS0 or FLTC_STS1 (R488, R491, R507). -/
def execFaultStatusClear (agent : BitVec 4) (high : Bool) (w : Word) (s : State) : Host.Outcome State Fault Refusal :=
  serve s (fun s => s.portWrite agent (Reg.FLTC_STS_STS (b2n high)).key w true true)

/-- FIRST_FAULT_CLEAR: FLTC_FFCTL with VLD 1 (R489, R508). -/
def execFirstFaultClear (agent : BitVec 4) (s : State) : Host.Outcome State Fault Refusal :=
  serve s (fun s => s.portWrite agent Reg.FLTC_FFCTL_VLD.key (wordOf [(Reg.FLTC_FFCTL_VLD, 1)]) true true)

/-- FORCE: a write of a page's FORCE register (R501, R513). -/
def execForce (agent : BitVec 4) (page : Nat) (w : Word) (s : State) : Host.Outcome State Fault Refusal :=
  serve s (fun s => s.portWrite agent (page * 0x1000 + 0x20) w true true)

/-- LOG_POP: a read of FLTC_LOGPOP (R502, R504, R505, R509). -/
def execLogPop (agent : BitVec 4) (upset : BitVec 128) (s : State) : Host.Outcome State Fault Refusal :=
  serve s (fun s => s.mgtRead agent.toNat Reg.FLTC_LOGPOP_W0.key upset)


end Sys2Proof.Machine
end

