-- ==== Sys2Proof/Machine/Ingress.lean ====
section
/-! DEFINITION. The ingress arbiter: the grant of a line-slot, and the aperture (R61-R64, R75-R84, R529). -/

namespace Sys2Proof.Machine

open Sys2Proof

/-! ## The aperture (R61-R64, R529) -/

/-- The agent of a port's aperture accesses: 0 or 1. -/
def State.apAgent (s : State) (p : Nat) : Nat := s.fld (Reg.HPT_PCTL_AP_AGENT p)

/-- Word address of a line in the window. -/
def State.apWord (s : State) (p : Nat) (a : HLine) : Nat := (a.toNat - s.fld (Reg.HPT_APBASE_BASE p) * 2 ^ 14) * 64

/-- A legal request to the aperture takes effect. -/
def State.aperture (s : State) (p : Nat) (r : Req) : State :=
  let base := s.apWord p (r.line 0)
  if r.op == .rd && r.flit.len == 0 then
    let (st, d, s) := s.apertureRead (s.apAgent p) base
    if st = stOk then s.answerData r.rid .ok d else s.early r .illegal
  else if r.op == .wrp && maskWhole r.flit.mask then
    match s.wbuf.find? (fun w => w.rid == some r.rid) with
    | none => s
    | some w =>
      let s := s.countWb w.upset
      if upsetUe w.upset then
        ((s.raise 0x00 (portPlace p (r.line 0))).answerData r.rid .ue zeroLine).freeLines (fun w => w.rid == some r.rid)
      else
        let (st, s) := s.apertureWrite (s.apAgent p) base r.flit.mask w.data
        if st = stOk then (s.answerData r.rid .ok zeroLine).freeLines (fun w => w.rid == some r.rid) else s.early r .illegal
  else s.early r .illegal

/-! ## The grant (R80-R82) -/

/-- The granted line-slot is decoded: a request's first takes the checks of R42, a later one its place in the queues. -/
def State.takeLineSlot (s : State) (p : Nat) (r : Req) : State :=
  if r.stage != .ingress then s.insertNext r.rid
  else
    let s := s.mapReq r.rid (fun r => { r with rsv := r.need })
    let r := { r with rsv := r.need }
    if r.flit.walk && s.toAperture r then (s.set1 (Reg.HPT_EVT_WALKDEV p)).early r .walkdev
    else if reqIllegal r then s.early r .illegal
    else if r.op == .flush then (s.mapReq r.rid (fun r => { r with stage := .flushing })).checkFlush
    else if s.toAperture r then s.aperture p r
    else s.decodeReq r false

/-- ARBITER_GRANT: one line boundary and the line-slot that follows it. -/
def State.arbGrant (s : State) : State :=
  let dead := s.arbDead.filter s.deadStands
  let s : State := { s with arbDead := none }
  match dead with
  | some d => s.bump (Reg.HPT_ARBCNT_DEAD d.port)
  | none =>
    match s.arbPick with
    | none => { s with arbHolder := none }
    | some (p, r) =>
      let lost : Option Nat := match s.arbHolder with
        | some h => if h ≠ p ∧ (s.presents h).isSome = true then some h else none
        | none => none
      let s := match lost with | some h => s.bump (Reg.HPT_ARBCNT_PREEMPT h) | none => s
      let s := { s with arbHolder := some p }.takeLineSlot p r
      (s.levels.takeHeldRq p (s.port p).rqHeld.length).touchIdle

end Sys2Proof.Machine
end

