-- ==== Sys2Proof/Machine/HostCmds.lean ====
section
/-! DEFINITION. The commands of the host ports, the ingress arbiter and the line locks (R21-R106). -/

namespace Sys2Proof.Machine

open Sys2Proof

/-- The source code and reach of a request handshake in SLEEP (R422, R423): the aperture is a register access; a request to be served wakes
everything, one answered OFFLINE only CORE. -/
def State.wakeRequest (s : State) (p : Nat) (f : RqFlit) : State :=
  if s.flag (Reg.HPT_PCTL_PEN p) && !(s.port p).retired then
    (if s.inAperture p f.addr then s.wakeEvent 4 false false else s.wakeEvent 1 true false)
  else s.wakeEvent 1 false false

/-- A request handshake at a port (R31, R36, R417, R422). -/
def State.hostRequest (s : State) (p : Nat) (op : Op) (f : RqFlit) : State :=
  if (s.port p).rst then s
  else
    let s := s.hostAborts
    let s := s.rqArrive p op f
    let s := if s.mode = .sleep then s.wakeRequest p f else s
    s.takeHeldRq p (s.port p).rqHeld.length

/-- Run a request handshake at a built port. The flit's own opcode counts: any request row carries an unlisted one in `xop` (R34). -/
def request (p : Nat) (op : Op) (f : RqFlit) (s : State) : Host.Outcome State Fault Refusal :=
  actIf (s.portBuilt p) s (fun s => s.hostRequest p (seenOp op f) f)

/-- RD: a read of 1, 2 or 4 lines (R21, R22). -/
def execRd (p : Nat) (f : RqFlit) (s : State) : Host.Outcome State Fault Refusal := request p .rd f s

/-- WR: a write of 1, 2 or 4 lines (R23). -/
def execWr (p : Nat) (f : RqFlit) (s : State) : Host.Outcome State Fault Refusal := request p .wr f s

/-- WRP: a partial write under a byte mask (R24). -/
def execWrp (p : Nat) (f : RqFlit) (s : State) : Host.Outcome State Fault Refusal := request p .wrp f s

/-- RDL: a locked read (R91-R93). -/
def execRdl (p : Nat) (f : RqFlit) (s : State) : Host.Outcome State Fault Refusal := request p .rdl f s

/-- WRU: a write that releases the lock (R91, R94). -/
def execWru (p : Nat) (f : RqFlit) (s : State) : Host.Outcome State Fault Refusal := request p .wru f s

/-- ULK: an unlock without a write (R91). -/
def execUlk (p : Nat) (f : RqFlit) (s : State) : Host.Outcome State Fault Refusal := request p .ulk f s

/-- AFADD: fetch and add (R98, R99). -/
def execAfadd (p : Nat) (f : RqFlit) (s : State) : Host.Outcome State Fault Refusal := request p .afadd f s

/-- ASWP: swap (R98, R99). -/
def execAswp (p : Nat) (f : RqFlit) (s : State) : Host.Outcome State Fault Refusal := request p .aswp f s

/-- ACAS: compare and swap (R98, R99). -/
def execAcas (p : Nat) (f : RqFlit) (s : State) : Host.Outcome State Fault Refusal := request p .acas f s

/-- AOR: OR (R98, R99). -/
def execAor (p : Nat) (f : RqFlit) (s : State) : Host.Outcome State Fault Refusal := request p .aor f s

/-- AAND: AND (R98, R99). -/
def execAand (p : Nat) (f : RqFlit) (s : State) : Host.Outcome State Fault Refusal := request p .aand f s

/-- FLUSH: covers every earlier write of its port (R100, R101). -/
def execFlush (p : Nat) (f : RqFlit) (s : State) : Host.Outcome State Fault Refusal := request p .flush f s

/-- WRITE_DATA_FLIT (R37, R38, R48, R50). -/
def execWriteDataFlit (p : Nat) (f : WdFlit) (s : State) : Host.Outcome State Fault Refusal := actIf (s.portBuilt p) s (fun s => s.wdArrive p f)

/-- RESPONSE_SEND: the next flit of a port (R55, R57, R59, R189). -/
def execResponseSend (p : Nat) (upset : LineData) (s : State) : Host.Outcome State Fault Refusal :=
  actIf (s.portBuilt p) s (fun s => s.sendNext p upset)

/-- NEGATIVE_ACKNOWLEDGE (R57, R58). -/
def execNegativeAcknowledge (p : Nat) (seq : BitVec 12) (s : State) : Host.Outcome State Fault Refusal :=
  actIf (s.portBuilt p) s (fun s => s.nak p seq)

/-- RESPONSE_RELEASE (R56). -/
def execResponseRelease (p : Nat) (seq : BitVec 12) (s : State) : Host.Outcome State Fault Refusal :=
  actIf (s.portBuilt p) s (fun s => s.release p seq)

/-- HP_RESET_RISE (R60, R82, R95, R423). -/
def execHpResetRise (p : Nat) (s : State) : Host.Outcome State Fault Refusal := actIf (s.portBuilt p) s (fun s => s.hpRise p)

/-- HP_RESET_FALL (R60). -/
def execHpResetFall (p : Nat) (s : State) : Host.Outcome State Fault Refusal := actIf (s.portBuilt p) s (fun s => s.hpFall p)

/-- PANIC_RISE (R83-R85). -/
def execPanicRise (p : Nat) (s : State) : Host.Outcome State Fault Refusal := actIf (s.portBuilt p) s (fun s => s.panicRise p)

/-- PANIC_FALL (R84, R85). -/
def execPanicFall (p : Nat) (s : State) : Host.Outcome State Fault Refusal := actIf (s.portBuilt p) s (fun s => s.panicFall p)

/-- ARBITER_GRANT: one line boundary (R80-R82, R88). -/
def execArbiterGrant (s : State) : Host.Outcome State Fault Refusal := act s (fun s => s.arbGrant)

/-- DEADLINE_CLAMP (R79). -/
def execDeadlineClamp (rid : Nat) (s : State) : Host.Outcome State Fault Refusal := act s (fun s => s.clamp rid)

/-- LOCK_TIMEOUT (R94, R95). -/
def execLockTimeout (i : Nat) (s : State) : Host.Outcome State Fault Refusal := act s (fun s => s.lockTimeout i)


end Sys2Proof.Machine
end

