-- ==== Sys2Proof/Machine/KeyCmds.lean ====
section
/-! DEFINITION. The commands of inline encryption (R388-R400). -/

namespace Sys2Proof.Machine

open Sys2Proof

/-- LOAD: CRYP_KCMD with CMD 1 (R394, R395). -/
def execLoad (agent : BitVec 4) (s : State) : Host.Outcome State Fault Refusal := act s (fun s => s.portWrite agent Reg.CRYP_KCMD_CMD.key 1 true true)

/-- CLEAR: CRYP_KCMD with CMD 2 (R395). -/
def execClear (agent : BitVec 4) (s : State) : Host.Outcome State Fault Refusal :=
  act s (fun s => s.portWrite agent Reg.CRYP_KCMD_CMD.key 2 true true)

/-- CLEAR_ALL: CRYP_KCMD with CMD 3 (R396, R399). -/
def execClearAll (agent : BitVec 4) (v1 v2 : Bool) (s : State) : Host.Outcome State Fault Refusal :=
  act s (fun s => s.portWrite agent Reg.CRYP_KCMD_CMD.key 3 v1 v2)

/-- KEY_SLOT_CHANGE_COMPLETE (R395, R396). -/
def execKeySlotChangeComplete (k : Nat) (v1 v2 : Bool) (s : State) : Host.Outcome State Fault Refusal :=
  actIf s.build.crypt s (fun s => s.keyChange k v1 v2)

/-- TAMPER_RISE (R397-R400, R474). -/
def execTamperRise (v1 v2 : Bool) (s : State) : Host.Outcome State Fault Refusal := act s (fun s => s.tamperRise v1 v2)


end Sys2Proof.Machine
end

