-- ==== Sys2Proof/Machine/Alert.lean ====
section
/-! DEFINITION. ALERT_n: the hold, forced refreshes, and the handling of CA parity, write CRC and back-off (R255-R258). -/

namespace Sys2Proof.Machine

open Sys2Proof

/-- Step 3: the forced refreshes of a group, ahead of its proposals in the window. -/
def State.forceGroup (s : State) (sc rk j : Nat) : State :=
  if !((s.group (groupKey sc rk j)).running && s.forced sc rk j) then s
  else
    let k := groupKey sc rk j
    let u := s.sub sc
    let out := u.window.filter (fun p => p.tag == refTag k)
    let s := out.foldl (fun s p => let b := engOf sc p.rk p.bk; s.setEng b { s.eng b with outstanding := false })
      (s.setSub sc { u with window := u.window.filter (fun p => p.tag != refTag k) })
    let s := (s.groupBanks sc rk j).foldl (fun s b => s.closeBank sc rk (b % 32)) s
    (List.range ((s.group k).debt - s.refP' + 1).toNat).foldl (fun s _ =>
      s.directCmd sc (if s.allBank (sc / 2) then .refab else .refsb) rk j 0 (refTag k) 0 0) s

/-- The groups of a rank. -/
def State.forceRank (s : State) (sc rk : Nat) : State := (List.range (s.groupsPer (sc / 2))).foldl (fun s j => s.forceGroup sc rk j) s

/-- Reads whose decode was uncorrectable within the parity window: replayed once (R256). -/
def State.replayBad (s : State) (sc : Nat) : State :=
  let u := s.sub sc
  let first (t : Nat) : Bool := match s.qe? t with | some q => q.again == 0 | none => false
  let s := s.setSub sc { u with parWait := u.parWait.filter (fun p => !first p.1) }
  (u.parWait.filter (fun p => first p.1)).foldl (fun s p => s.mapQE p.1 (fun q => { q with stage := .wait, e := 0, again := 1 })) s

/-- CA parity of a rank: PREab, and the column commands issued to it within PAR_WIN before ALERT_n fell, in slot `now`, are proposed again. -/
def State.alertPar (s : State) (sc rk now : Nat) : State :=
  let s := s.directCmd sc .preab rk 0 0 seqTag 0 0
  let u := s.sub sc
  let win := s.fld Reg.REFD_ALRT_PAR_WIN
  let old := u.recent.filter (fun i => i.rk == rk && decide (i.slot ≤ now) && decide (now ≤ i.slot + win))
  let tags := old.map (·.tag)
  let s := s.setSub sc { u with
    reading := u.reading.filter (fun i => !tags.contains i.tag)
    alertWin := u.alertWin.filter (fun i => !tags.contains i.tag) }
  let out (t : Nat) : Bool := u.reading.any (fun i => i.tag == t) || u.alertWin.any (fun i => i.tag == t)
  let s := s.mapQEs (fun q => tags.contains q.tag && out q.tag) (fun q => { q with stage := .wait, e := 0 })
  (s.bump Reg.REFD_CNT2_PAR).raise 0x0F (atBank (sc / 2) (sc % 2) rk 0xF 0)

/-- One write whose alert window was open: issued again, at most CRC_RETRY times; then poison, with the same retries; then left. -/
def State.crcWrite (s : State) (q : QE) : State :=
  let more := decide (q.retries < s.fld Reg.REFD_ALRT_CRC_RETRY)
  if more then s.mapQE q.tag (fun q => { q with stage := .wait, e := 0, retries := q.retries + 1 })
  else if q.again = 3 then s.windowClosed q
  else s.mapQE q.tag (fun q => { q with stage := .wait, e := 0, pay := .poison, retries := 0, again := 3 })

/-- Write CRC of a rank; `was` are the tags of the writes whose windows were open when ALERT_n fell. -/
def State.alertCrc (s : State) (sc rk : Nat) (was : List Nat) : State :=
  let u := s.sub sc
  let hit := (u.alertWin.filter (fun i => i.rk == rk && was.contains i.tag)).map (·.tag)
  let s := s.setSub sc { u with alertWin := u.alertWin.filter (fun i => !hit.contains i.tag) }
  let s := hit.foldl (fun s t => match s.qe? t with | some q => s.crcWrite q | none => s) s
  s.bump Reg.REFD_CNT2_CRC

/-- The RFMab commands of one back-off (R261). -/
def State.nrfm (s : State) : Nat := match s.fld Reg.REFD_ALRT_NRFM with | 0 => 1 | 1 => 2 | _ => 4

/-- Back-off of a rank. -/
def State.alertAbo (s : State) (sc rk : Nat) : State :=
  let s := s.closeRank sc rk
  let s := (List.range s.nrfm).foldl (fun s _ => s.directCmd sc .rfmab rk 0 0 seqTag 0 0) s
  let s := (s.bump Reg.REFD_CNT2_ABO).set1 Reg.REFD_EVT_ABO
  if s.flag Reg.REFD_RHCTL_PRAC_EN then s else s.set1 Reg.REFD_EVT_ALERT_UNK

/-- Step 6: a rank's reported status is cleared by MRW. -/
def State.alertClear (s : State) (sc rk : Nat) : State := (s.closeRank sc rk).directCmd sc .mrw rk 0 0 seqTag 0 0

/-- The windows still open close. -/
def State.closeWins (s : State) (sc : Nat) : State := (s.sub sc).alertWin.foldl (fun s _ => s.closeAlertWin sc) s

/-- The channel's ALERT_n is listened to: its DRAM serves, also while SLEEP is being entered, or trains at step 2 or later (R334, R346, R420). -/
def State.alertOn (s : State) (c : Nat) : Bool :=
  s.latticeOn c && ((s.phy c).phase == .passed || ((s.phy c).phase == .training && decide (2 ≤ (s.train (2 * c)).step) && decide (2 ≤ (s.train (2 * c + 1)).step)))
    && (s.mode != .sleep || s.power.sleep == .entering) && s.mode != .halt

/-- ALERT_N: the sequence of R255 on channel `c`; `reps` is what the ranks' error status mode registers report. -/
def State.alert (s : State) (c : Nat) (reps : List AlertRep) : State :=
  if !s.alertOn c then s
  else
    let subs := [2 * c, 2 * c + 1]
    let was := subs.flatMap (fun sc => (s.sub sc).alertWin.map (·.tag))
    let now (sc : Nat) : Nat := 4 * (s.sub sc).tick + 3
    let of (sc : Nat) (f : AlertRep → Bool) : List Nat :=
      ((s.ranks c).filter (fun rk => reps.any (fun r => r.sck == sc % 2 && r.rk == rk && f r)))
    let at0 := subs.map (fun sc => (sc, now sc))
    let s0 := s.holdChannel c
    let s1 := subs.foldl (fun s sc => s.issueAll sc) s0
    let s1 := subs.foldl (fun s sc => (s.ranks c).foldl (fun s rk => s.forceRank sc rk) s) s1
    let s1 := subs.foldl (fun s sc => (s.ranks c).foldl (fun s rk => s.directCmd sc .mrr rk 0 0 seqTag 0 0) s) s1
    let s1 := subs.foldl (fun s sc => s.replayBad sc) s1
    let s1 := at0.foldl (fun s x => (of x.1 (·.par)).foldl (fun s rk => s.alertPar x.1 rk x.2) s) s1
    let s1 := subs.foldl (fun s sc => (of sc (·.crc)).foldl (fun s rk => s.alertCrc sc rk was) s) s1
    let s1 := subs.foldl (fun s sc => (of sc (·.abo)).foldl (fun s rk => s.alertAbo sc rk) s) s1
    let s1 := subs.foldl (fun s sc => s.closeWins sc) s1
    let s1 := subs.foldl (fun s sc => (of sc (fun r => r.par || r.crc || r.abo)).foldl (fun s rk => s.alertClear sc rk) s) s1
    let s1 := s1.releaseChannel c
    let none' := subs.all (fun sc => (of sc (fun r => r.par || r.crc || r.abo)).isEmpty)
    let s1 := if none' then ((s1.emit (.moduleStatus c)).set1 Reg.REFD_EVT_ALERT_UNK).raise 0x11 (atChan c) else s1
    s1.settleAll

end Sys2Proof.Machine
end

