-- ==== Sys2Proof/Machine/MaintCmds.lean ====
section
/-! DEFINITION. The commands of mode registers, ZQ, refresh, ALERT_n, scrubbing, integrity and repair (R222-R330). -/

namespace Sys2Proof.Machine

open Sys2Proof

/-- MRCMD_MRR: TIMG_MRCMD with GO 1 and OP 0 (R222, R235). -/
def execMrcmdMrr (agent : BitVec 4) (ch : BitVec 2) (sck rk : Bool) (ma : BitVec 8) (s : State) : Host.Outcome State Fault Refusal :=
  serve s (fun s => s.portWrite agent Reg.TIMG_MRCMD_GO.key (wordOf [(Reg.TIMG_MRCMD_GO, 1), (Reg.TIMG_MRCMD_OP, 0),
    (Reg.TIMG_MRCMD_CH, ch.toNat), (Reg.TIMG_MRCMD_SC, b2n sck), (Reg.TIMG_MRCMD_RK, b2n rk), (Reg.TIMG_MRCMD_MA, ma.toNat)]) true true)

/-- MRCMD_MRW: TIMG_MRCMD with GO 1 and OP 1 (R207, R221, R222). -/
def execMrcmdMrw (agent : BitVec 4) (ch : BitVec 2) (sck rk : Bool) (ma wdata : BitVec 8) (s : State) : Host.Outcome State Fault Refusal :=
  serve s (fun s => s.portWrite agent Reg.TIMG_MRCMD_GO.key (wordOf [(Reg.TIMG_MRCMD_GO, 1), (Reg.TIMG_MRCMD_OP, 1),
    (Reg.TIMG_MRCMD_CH, ch.toNat), (Reg.TIMG_MRCMD_SC, b2n sck), (Reg.TIMG_MRCMD_RK, b2n rk), (Reg.TIMG_MRCMD_MA, ma.toNat),
    (Reg.TIMG_MRCMD_WDATA, wdata.toNat)]) true true)

/-- ZQCAL_START_DUE (R223). -/
def execZqcalStartDue (sc : Nat) (rk : Fin 2) (s : State) : Host.Outcome State Fault Refusal :=
  actIf (s.subBuilt sc) s (fun s => s.zqStartDue sc rk.val)

/-- ZQCAL_LATCH_DUE (R223). -/
def execZqcalLatchDue (sc : Nat) (rk : Fin 2) (s : State) : Host.Outcome State Fault Refusal :=
  actIf (s.subBuilt sc) s (fun s => s.zqLatchDue sc rk.val)

/-- REFRESH_INCREMENT (R238-R243, R247). -/
def execRefreshIncrement (sc : Nat) (rk : Fin 2) (j : Fin 4) (s : State) : Host.Outcome State Fault Refusal :=
  actIf (s.subBuilt sc) s (fun s => s.refreshIncrement sc rk.val j.val)

/-- MR4_POLL (R243, R244). -/
def execMr4Poll (s : State) : Host.Outcome State Fault Refusal := act s (fun s => s.mr4Poll)

/-- ALERT_N (R207, R255-R258). -/
def execAlertN (c : Nat) (reps : List AlertRep) (s : State) : Host.Outcome State Fault Refusal := actIf (s.chanBuilt c) s (fun s => s.alert c reps)

/-- PAR_WIN_EXPIRY (R256). -/
def execParWinExpiry (sc : Nat) (s : State) : Host.Outcome State Fault Refusal := actIf (s.subBuilt sc) s (fun s => s.parExpire sc)

/-- SCRUB_LINE_DUE (R281-R284). -/
def execScrubLineDue (c : Nat) (s : State) : Host.Outcome State Fault Refusal := actIf (s.chanBuilt c) s (fun s => s.scrubLine c)

/-- SCRUB_PASS_START (R284). -/
def execScrubPassStart (c : Nat) (s : State) : Host.Outcome State Fault Refusal := actIf (s.chanBuilt c) s (fun s => s.scrubPass c)

/-- TRACKER_WINDOW_EXPIRY (R286). -/
def execTrackerWindowExpiry (i : Nat) (s : State) : Host.Outcome State Fault Refusal := act s (fun s => s.trackExpire i)

/-- DEVICE_COUNT_DECAY (R288). -/
def execDeviceCountDecay (s : State) : Host.Outcome State Fault Refusal := act s (fun s => s.decay)

/-- ECCS_INJ_ARM: ECCS_INJ with ARM 1 (R290, R298). -/
def execEccsInjArm (agent : BitVec 4) (w : Word) (s : State) : Host.Outcome State Fault Refusal :=
  serve s (fun s => s.portWrite agent Reg.ECCS_INJ_ARM.key (Reg.ECCS_INJ_ARM.put w 1) true true)

/-- RMREQ: RPMR_RMREQ with GO 1 (R305, R306, R308, R326). -/
def execRmreq (agent : BitVec 4) (ch : BitVec 2) (sck rk : Bool) (bank : BitVec 5) (row : BitVec 18) (s : State) : Host.Outcome State Fault Refusal :=
  act s (fun s => s.portWrite agent Reg.RPMR_RMREQ_GO.key (wordOf [(Reg.RPMR_RMREQ_GO, 1), (Reg.RPMR_RMREQ_CH, ch.toNat),
    (Reg.RPMR_RMREQ_SC, b2n sck), (Reg.RPMR_RMREQ_RK, b2n rk), (Reg.RPMR_RMREQ_BANK, bank.toNat), (Reg.RPMR_RMREQ_ROW, row.toNat)]) true true)

/-- ERSREQ: RPMR_ERSREQ with GO 1 (R280, R309, R310, R326). -/
def execErsreq (agent : BitVec 4) (ch : BitVec 2) (sck rk : Bool) (grp : BitVec 4) (s : State) : Host.Outcome State Fault Refusal :=
  act s (fun s => s.portWrite agent Reg.RPMR_ERSREQ_GO.key (wordOf [(Reg.RPMR_ERSREQ_GO, 1), (Reg.RPMR_ERSREQ_CH, ch.toNat),
    (Reg.RPMR_ERSREQ_SC, b2n sck), (Reg.RPMR_ERSREQ_RK, b2n rk), (Reg.RPMR_ERSREQ_GROUP, grp.toNat)]) true true)

/-- REMAP_COPY_COMPLETE (R90, R306, R321). -/
def execRemapCopyComplete (i : Nat) (rows mirror : List Burst) (s : State) : Host.Outcome State Fault Refusal :=
  act s (fun s => s.remapDone i rows mirror)

/-- CASTLE: a write of RPMR_MCTL.CASTLE (R316-R318, R325). -/
def execCastle (agent : BitVec 4) (chans : BitVec 4) (s : State) : Host.Outcome State Fault Refusal :=
  act s (fun s => s.portWrite agent Reg.RPMR_MCTL_CASTLE.key (wordOf [(Reg.RPMR_MCTL_CASTLE, chans.toNat)]) true true)

/-- RETIRE: a write of RPMR_MCTL.RETIRE (R320, R325). -/
def execRetire (agent : BitVec 4) (chans : BitVec 4) (s : State) : Host.Outcome State Fault Refusal :=
  act s (fun s => s.portWrite agent Reg.RPMR_MCTL_RETIRE.key (wordOf [(Reg.RPMR_MCTL_RETIRE, chans.toNat)]) true true)


end Sys2Proof.Machine
end

