-- ==== Sys2Proof/Machine/PhyCmds.lean ====
section
/-! DEFINITION. The commands of the PHYs, training, the fill and live calibration (R302, R337-R381, R446). -/

namespace Sys2Proof.Machine

open Sys2Proof

/-- PLL_LOCK (R203, R337, R338). -/
def execPllLock (c : Nat) (s : State) : Host.Outcome State Fault Refusal := actIf (s.chanBuilt c) s (fun s => s.pllLock c)

/-- PLL_LOCK_TIMEOUT (R337-R339, R426, R455). -/
def execPllLockTimeout (c : Nat) (s : State) : Host.Outcome State Fault Refusal := actIf (s.chanBuilt c) s (fun s => s.pllTimeout c)

/-- PLL_LOSS_OF_LOCK (R207, R338). -/
def execPllLossOfLock (c : Nat) (s : State) : Host.Outcome State Fault Refusal := actIf (s.chanBuilt c) s (fun s => s.pllLost c)

/-- RELOCK_CHECK_DONE (R339). -/
def execRelockCheckDone (c : Nat) (gates : Bool) (runs : List LaneRun) (s : State) : Host.Outcome State Fault Refusal :=
  actIf (s.chanBuilt c) s (fun s => s.relockCheck c gates runs)

/-- PHY_ZQ_RECAL (R340). -/
def execPhyZqRecal (c : Nat) (pu pd : BitVec 6) (s : State) : Host.Outcome State Fault Refusal :=
  actIf (s.chanBuilt c) s (fun s => s.phyRecal c pu.toNat pd.toNat)

/-- TEMP_SAMPLE (R342, R364, R365). -/
def execTempSample (c : Nat) (t : Int) (s : State) : Host.Outcome State Fault Refusal := actIf (s.chanBuilt c) s (fun s => s.tempSample c t)

/-- IDLE_GAP_TRIM_APPLY (R344, R366). -/
def execIdleGapTrimApply (sc : Nat) (s : State) : Host.Outcome State Fault Refusal := actIf (s.subBuilt sc) s (fun s => s.gapApply sc)

/-- GAP_INSERT (R367). -/
def execGapInsert (sc : Nat) (s : State) : Host.Outcome State Fault Refusal := actIf (s.subBuilt sc) s (fun s => s.gapInsert sc)

/-- DRAM_INIT_DONE (R223, R239, R341, R345, R437). -/
def execDramInitDone (c : Nat) (s : State) : Host.Outcome State Fault Refusal := actIf (s.chanBuilt c) s (fun s => s.dramInitDone c)

/-- TRAIN_STEP_DONE (R345-R353, R363, R454). -/
def execTrainStepDone (sc : Nat) (res : TrainRes) (s : State) : Host.Outcome State Fault Refusal :=
  actIf (s.subBuilt sc) s (fun s => (s.trainStep sc res).trainEnd)

/-- PPR_ENTRY_DONE (R302, R328). -/
def execPprEntryDone (n : Nat) (spare clean : Bool) (s : State) : Host.Outcome State Fault Refusal := act s (fun s => s.pprDone n spare clean)

/-- FILL_LINE_WRITE (R270, R446, R449). -/
def execFillLineWrite (c : Nat) (s : State) : Host.Outcome State Fault Refusal := actIf (s.chanBuilt c) s (fun s => s.fillLine c)

/-- EP_PASS_START (R369, R370). -/
def execEpPassStart (c : Nat) (s : State) : Host.Outcome State Fault Refusal := actIf (s.chanBuilt c) s (fun s => s.epPass c)

/-- EP_RUN_DONE (R362, R368, R376, R377). -/
def execEpRunDone (sc : Nat) (rk : Fin 2) (a b : List LaneRun) (s : State) : Host.Outcome State Fault Refusal :=
  actIf (s.subBuilt sc) s (fun s => s.epRunDone sc rk.val a b)

/-- EP_PROBE_WAIT_EXPIRY (R372). -/
def execEpProbeWaitExpiry (sc : Nat) (rk : Fin 2) (s : State) : Host.Outcome State Fault Refusal :=
  actIf (s.subBuilt sc) s (fun s => s.probe sc rk.val)

/-- EP_RUN_TIMEOUT (R378). -/
def execEpRunTimeout (sc : Nat) (rk : Fin 2) (s : State) : Host.Outcome State Fault Refusal :=
  actIf (s.subBuilt sc) s (fun s => s.epTimeout sc rk.val)

/-- PHY_IMPEDANCE_CALIBRATION_DONE (R340). -/
def execPhyImpedanceCalibrationDone (c : Nat) (pu pd : BitVec 6) (s : State) : Host.Outcome State Fault Refusal :=
  actIf (s.chanBuilt c) s (fun s => s.phyZqDone c pu.toNat pd.toNat)


end Sys2Proof.Machine
end

