-- ==== Sys2Proof/Machine/RingRx.lean ====
section
/-! DEFINITION. Messages the ring stop receives: taken at once, or held in the receive buffer while the tile wakes (R137, R153, R422, R423). -/

namespace Sys2Proof.Machine

open Sys2Proof

/-- What a received message does (R140). -/
def State.ringTake (s : State) (m : RingIn) : State :=
  match m with
  | .disc cw foreign count => s.ringDisc cw foreign count
  | .discDone total => s.ringDiscDone total
  | .discReq => s.ringDiscReq
  | .mapOffer src mseq id refused refuser reason words => s.ringOffer src mseq id refused refuser reason words
  | .mapCommit src id => s.ringCommit src id
  | .mapAbort src id => s.ringAbort src id
  | .mapRetire src id => s.ringRetire src id
  | .fwdReq src mseq dl promo ver ent op f => s.ringFwdReq src mseq dl promo ver ent op f
  | .fwdWd src mseq idx data => s.ringFwdWd src mseq idx data
  | .fwdRsp _ mseq status misroute idx data => s.ringFwdRsp mseq (statusOf status) misroute idx data
  | .mirrorWr src mseq ch l b => s.ringMirrorWr src mseq ch l b
  | .mirrorAck _ mseq => s.ringMirrorAck mseq
  | .mirrorRd src mseq ch l => s.ringMirrorRd src mseq ch l
  | .mirrorData _ mseq b => s.ringMirrorData mseq b
  | .refToken num => s.ringToken num
  | .faultNote src cls srcNo t => s.ringNote src cls srcNo t
  | .linkDown _ ccw tile => s.ringLinkDown ccw tile

/-- The messages a sleeping tile's ring stop handles without waking it (R149, R152). -/
def quietMsg (m : RingIn) : Bool :=
  match m with
  | .refToken _ | .faultNote _ _ _ _ => true
  | _ => false

/-- The message is addressed to this tile: DISC_REQ goes to the anchor, and a broadcast of this tile's own only comes back to be removed (R139,
R153). -/
def State.addressed (s : State) (m : RingIn) : Bool :=
  match m with
  | .discReq => s.ring.anchor
  | .mapOffer src .. | .mapCommit src _ | .mapAbort src _ | .mapRetire src _ | .linkDown src .. => src != s.tileNo
  | _ => true

/-- The source of a unicast message; none for a broadcast and for DISC, which name their ring otherwise. -/
def unicastFrom (m : RingIn) : Option Nat :=
  match m with
  | .fwdReq src .. | .fwdWd src .. | .fwdRsp src .. | .mirrorWr src .. | .mirrorAck src _ | .mirrorRd src .. | .mirrorData src .. => some src
  | _ => none

/-- The ring a message came on: DISC names it, a broadcast is on the CW ring, a unicast message on the one its source reaches this tile by in fewer
hops (R144). -/
def State.arrivedCw (s : State) (m : RingIn) : Bool :=
  match m with
  | .disc cw _ _ => cw
  | m =>
    match unicastFrom m with
    | some src =>
      let n := max 1 (s.fld Reg.RING_STAT_TILES)
      let hops := (s.tileNo + n - src % n) % n
      decide (hops ≤ n - hops)
    | none => true

/-- The flits of a message (R139, R140). -/
def flitCount (m : RingIn) : Nat :=
  match m with
  | .mapOffer .. => 49
  | .fwdReq .. => 3
  | .fwdWd .. => 5
  | .fwdRsp _ _ status .. => if status ≤ 1 then 5 else 1
  | .mirrorWr .. | .mirrorData .. => 6
  | _ => 1

/-- The flits held in one ring's receive buffer (R145). -/
def State.rxFlits (s : State) (cw : Bool) : Nat := ((s.ring.rx.filter (fun x => x.1 == cw)).map (fun x => flitCount x.2)).foldl (· + ·) 0

/-- A message arrives with `corr` words corrected in its flits. In SLEEP one addressed to this tile enters the receive buffer of its ring and wakes
everything; one that does not fit passes by and arrives again one loop later (R145, R153). -/
def State.ringArrive (s : State) (corr : Nat) (m : RingIn) : State :=
  let s := s.bump Reg.RING_CNT0_CORR corr
  if s.mode = .sleep ∧ quietMsg m = false ∧ s.addressed m = true then
    let cw := s.arrivedCw m
    let s : State := if 128 < s.rxFlits cw + flitCount m then s.emit (.ringPass cw m)
      else { s with ring := { s.ring with rx := s.ring.rx ++ [(cw, m)] } }
    s.wakeEvent 3 true false
  else s.ringTake m

/-- The receive buffers of a tile that is awake again, in order of arrival. -/
def State.drainRx (s : State) : State :=
  if s.mode = .sleep then s
  else
    let l := s.ring.rx
    l.foldl (fun s m => s.ringTake m.2) { s with ring := { s.ring with rx := [] } }

/-- WAKE_COMPLETE with what waited for it. -/
def State.awake (s : State) : State := s.wakeComplete.drainRx

/-- Run the arrival of a message. -/
def receive (s : State) (corr : Nat) (m : RingIn) : Host.Outcome State Fault Refusal :=
  actIf s.build.ring s (fun s => s.ringArrive corr m)

end Sys2Proof.Machine
end

