-- ==== Sys2Proof/Machine/PowerCmds.lean ====
section
/-! DEFINITION. The commands of power management and SLEEP (R409-R427). -/

namespace Sys2Proof.Machine

open Sys2Proof

/-- R422: what a wake source wakes, and the code it is recorded under. -/
def State.wakeBy (s : State) (src : WakeSrc) : State :=
  match src with
  | .served => s.wakeEvent 1 true false
  | .offline => s.wakeEvent 1 false false
  | .sideband => s.wakeEvent 2 false false
  | .ring => s.wakeEvent 3 true false
  | .register cryp => s.wakeEvent 4 false cryp
  | .work => s.wakeEvent 5 true false

/-- VREQ_COMPLETE (R410). -/
def execVreqComplete (s : State) : Host.Outcome State Fault Refusal := act s (fun s => s.voltDone)

/-- VREQ_TIMEOUT (R410, R427). -/
def execVreqTimeout (word : Option (BitVec 16)) (s : State) : Host.Outcome State Fault Refusal := act s (fun s => s.voltTimeout word)

/-- PWR_GOOD_FALL (R411). -/
def execPwrGoodFall (s : State) : Host.Outcome State Fault Refusal := act s (fun s => s.pgoodFall)

/-- PGOOD_DOWN_TIMEOUT (R411). -/
def execPgoodDownTimeout (s : State) : Host.Outcome State Fault Refusal := act s (fun s => s.pgoodDown)

/-- VLOOP_WINDOW (R412). -/
def execVloopWindow (rho : Nat) (s : State) : Host.Outcome State Fault Refusal := act s (fun s => s.vloop rho)

/-- IDLE_TIMER_EXPIRY (R414-R417). -/
def execIdleTimerExpiry (s : State) : Host.Outcome State Fault Refusal := act s (fun s => s.idleExpiry)

/-- VOTE_AGREE (R416, R417, R420). -/
def execVoteAgree (v : Nat) (s : State) : Host.Outcome State Fault Refusal := act s (fun s => s.voteAgree v)

/-- VOTE_REFUSE (R416-R419). -/
def execVoteRefuse (v : Nat) (s : State) : Host.Outcome State Fault Refusal := act s (fun s => s.voteRefuse v)

/-- VOTE_WITHDRAW (R417, R418). -/
def execVoteWithdraw (v : Nat) (s : State) : Host.Outcome State Fault Refusal := act s (fun s => s.voteWithdraw v)

/-- VOTE_TIMEOUT (R417, R418). -/
def execVoteTimeout (s : State) : Host.Outcome State Fault Refusal := act s (fun s => s.voteTimeout)

/-- SLEEP_ENTRY_COMPLETE (R420, R421). -/
def execSleepEntryComplete (s : State) : Host.Outcome State Fault Refusal := act s (fun s => s.sleepEntry)

/-- WAKE_EVENT (R421, R422). -/
def execWakeEvent (src : WakeSrc) (s : State) : Host.Outcome State Fault Refusal := act s (fun s => s.wakeBy src)

/-- WAKE_COMPLETE (R224, R226, R425, R464). -/
def execWakeComplete (s : State) : Host.Outcome State Fault Refusal := act s (fun s => s.awake)

/-- CORE_IDLE_REGATE (R424). -/
def execCoreIdleRegate (s : State) : Host.Outcome State Fault Refusal := act s (fun s => s.regate)

/-- PWR_GOOD_RISE (R411). -/
def execPwrGoodRise (s : State) : Host.Outcome State Fault Refusal := act s (fun s => s.pgoodRise)

/-- VOUT_MODE_READ_DONE (R409). -/
def execVoutModeReadDone (byte : Option (BitVec 8)) (s : State) : Host.Outcome State Fault Refusal := act s (fun s => s.voutMode byte)


end Sys2Proof.Machine
end

