-- ==== Sys2Proof/Machine/RegCmds.lean ====
section
/-! DEFINITION. The commands of the register pages and their agents (R197, R328, R461, R514-R529). -/

namespace Sys2Proof.Machine

open Sys2Proof

/-- A read or write of a data register that stands for a selected word. -/
def State.portAccess (s : State) (agent : BitVec 4) (key : Nat) (wr : Option Word) : State :=
  match wr with
  | some w => s.portWrite agent key w true true
  | none => s.mgtRead agent.toNat key 0

/-- BENG_DATA_ACCESS (R197, R198). -/
def execBengDataAccess (agent : BitVec 4) (wr : Option Word) (s : State) : Host.Outcome State Fault Refusal :=
  serve s (fun s => s.portAccess agent Reg.BENG_DATA_DATA.key wr)

/-- PPRW1_ACCESS (R328). -/
def execPprw1Access (agent : BitVec 4) (wr : Option Word) (s : State) : Host.Outcome State Fault Refusal :=
  serve s (fun s => s.portAccess agent Reg.RPMR_PPRW1_DEVMASK.key wr)

/-- SPDDAT_READ (R461). -/
def execSpddatRead (agent : BitVec 4) (s : State) : Host.Outcome State Fault Refusal :=
  serve s (fun s => s.mgtRead agent.toNat Reg.SIDE_SPDDAT_DATA.key 0)

/-- COMMIT: a write of CTL with COMMIT 1 (R113, R116, R117, R187, R212, R520, R522). -/
def execCommit (agent : BitVec 4) (page : Nat) (w : Word) (s : State) : Host.Outcome State Fault Refusal :=
  act s (fun s => s.portWrite agent (page * 0x1000 + 8) (w ||| 1) true true)

/-- COMMIT_SAFE_POINT (R102, R522). -/
def execCommitSafePoint (page : Nat) (s : State) : Host.Outcome State Fault Refusal := act s (fun s => s.safePoint page)

/-- CLAIM: OWNER with CLAIM 1 (R523, R524). -/
def execClaim (agent : BitVec 4) (page : Nat) (s : State) : Host.Outcome State Fault Refusal :=
  serve s (fun s => s.portWrite agent (page * 0x1000 + 12) 1 true true)

/-- RELEASE: OWNER with RELEASE 1 (R181, R523, R524). -/
def execRelease (agent : BitVec 4) (page : Nat) (s : State) : Host.Outcome State Fault Refusal :=
  serve s (fun s => s.portWrite agent (page * 0x1000 + 12) 2 true true)

/-- CLAIM_IDLE_TIMEOUT (R525). -/
def execClaimIdleTimeout (page : Nat) (s : State) : Host.Outcome State Fault Refusal := serve s (fun s => s.claimIdle page)

/-- AGENT_RESET: MGT_AGRST rises for an agent (R525). -/
def execAgentReset (agent : BitVec 2) (s : State) : Host.Outcome State Fault Refusal := serve s (fun s => s.breakAgent agent.toNat)

/-- TARGET_RESET_PATTERN: the claims of agent 2 (R525). -/
def execTargetResetPattern (s : State) : Host.Outcome State Fault Refusal := serve s (fun s => s.breakAgent 2)

/-- SIDEBAND_WRITE (R441, R442, R527, R528). -/
def execSidebandWrite (bytes : List (BitVec 8)) (s : State) : Host.Outcome State Fault Refusal := act s (fun s => s.sideWrite bytes)

/-- SIDEBAND_READ (R442, R527, R528). -/
def execSidebandRead (bytes : List (BitVec 8)) (len : Nat) (upset : BitVec 128) (s : State) : Host.Outcome State Fault Refusal :=
  serve s (fun s => s.sideRead bytes len upset)

/-- REGISTER_WRITE (R514-R526). -/
def execRegisterWrite (agent : BitVec 4) (addr : BitVec 17) (w : Word) (v1 v2 : Bool) (s : State) : Host.Outcome State Fault Refusal :=
  act s (fun s => s.portWrite agent (addr.toNat / 4 * 4) w v1 v2)


end Sys2Proof.Machine
end

