-- ==== Sys2Proof/Machine/ResetCmds.lean ====
section
/-! DEFINITION. The commands of reset, start-up, shutdown and self-test (R437-R440, R464-R478, R537). -/

namespace Sys2Proof.Machine

open Sys2Proof

/-- TILE_RESET_RELEASE (R141, R409, R437). -/
def execTileResetRelease (anchor : Bool) (s : State) : Host.Outcome State Fault Refusal := .next (s.resetRelease anchor)

/-- TILE_RESET_ASSERT (R537). -/
def execTileResetAssert (s : State) : Host.Outcome State Fault Refusal := .next s.resetAssert

/-- BOOT_GO: GLOB_BOOT with GO 1 (R439, R458). -/
def execBootGo (agent : BitVec 4) (s : State) : Host.Outcome State Fault Refusal :=
  serve s (fun s => s.portWrite agent Reg.GLOB_BOOT_GO.key (wordOf [(Reg.GLOB_BOOT_GO, 1)]) true true)

/-- GO_ACTED_ON (R237, R335, R437, R439, R440, R476). -/
def execGoActedOn (s : State) : Host.Outcome State Fault Refusal := act s (fun s => s.goAct)

/-- SHUTDOWN_REQUEST: BIST_SDREQ with GO 1 (R464-R466). -/
def execShutdownRequest (agent : BitVec 4) (s : State) : Host.Outcome State Fault Refusal :=
  act s (fun s => s.portWrite agent Reg.BIST_SDREQ_GO.key (wordOf [(Reg.BIST_SDREQ_GO, 1)]) true true)

/-- ENDGAME_DRAIN_COMPLETE (R397, R466). -/
def execEndgameDrainComplete (v1 v2 : Bool) (s : State) : Host.Outcome State Fault Refusal := act s (fun s => s.drainComplete v1 v2)

/-- ENDGAME_DRAIN_TIMEOUT (R466). -/
def execEndgameDrainTimeout (v1 v2 : Bool) (s : State) : Host.Outcome State Fault Refusal := act s (fun s => s.drainTimeout v1 v2)

/-- BIST_SLICE_DONE (R466, R469-R473, R475, R477, R478). -/
def execBistSliceDone (res : SliceRes) (s : State) : Host.Outcome State Fault Refusal := act s (fun s => s.sliceDone res)

/-- BIST_SLICE_BUDGET_EXPIRY (R470, R474). -/
def execBistSliceBudgetExpiry (s : State) : Host.Outcome State Fault Refusal := act s (fun s => s.sliceBudget)


end Sys2Proof.Machine
end

