-- ==== Sys2Proof/Machine/RingCmds.lean ====
section
/-! DEFINITION. The commands of the tile ring and of changing the map (R116-R156). -/

namespace Sys2Proof.Machine

open Sys2Proof

/-- A ring direction as the flag of the CW ring. -/
def cwOf (d : RingDir) : Bool :=
  match d with
  | .cw => true
  | .ccw => false

/-- Run an event of the tile's own ring stop. -/
def ringAct (s : State) (f : State → State) : Host.Outcome State Fault Refusal := actIf s.build.ring s f

/-- DISC (R141-R143). -/
def execDisc (corr : Nat) (dir : RingDir) (foreign : Bool) (count : BitVec 6) (s : State) : Host.Outcome State Fault Refusal :=
  receive s corr (.disc (cwOf dir) foreign count.toNat)

/-- DISC_DONE (R141, R149). -/
def execDiscDone (corr : Nat) (total : BitVec 6) (s : State) : Host.Outcome State Fault Refusal := receive s corr (.discDone total.toNat)

/-- DISC_REQ (R143). -/
def execDiscReq (corr : Nat) (s : State) : Host.Outcome State Fault Refusal := receive s corr .discReq

/-- DISC_REPEAT_TIMER (R142). -/
def execDiscRepeatTimer (s : State) : Host.Outcome State Fault Refusal := ringAct s (fun s => s.discRepeat)

/-- DISC_LOOP_TIMEOUT (R142). -/
def execDiscLoopTimeout (s : State) : Host.Outcome State Fault Refusal := ringAct s (fun s => s.discTimeout)

/-- MAP_OFFER (R116, R142, R151, R453, R468). -/
def execMapOffer (corr : Nat) (src : BitVec 5) (mseq : BitVec 12) (id : BitVec 8) (refused : Bool) (refuser : BitVec 5)
    (reason : BitVec 4) (words : List Word) (s : State) : Host.Outcome State Fault Refusal :=
  receive s corr (.mapOffer src.toNat mseq.toNat id.toNat refused refuser.toNat reason.toNat words)

/-- MAP_OFFER_RETURN (R151). -/
def execMapOfferReturn (corr : Nat) (id : BitVec 8) (refused : Bool) (s : State) : Host.Outcome State Fault Refusal :=
  ringAct s (fun s => (s.bump Reg.RING_CNT0_CORR corr).offerReturn id.toNat refused)

/-- MAP_OFFER_TIMEOUT (R151). -/
def execMapOfferTimeout (s : State) : Host.Outcome State Fault Refusal := ringAct s (fun s => s.offerTimeout)

/-- MAP_COMMIT (R119, R151). -/
def execMapCommit (corr : Nat) (src : BitVec 5) (id : BitVec 8) (s : State) : Host.Outcome State Fault Refusal :=
  receive s corr (.mapCommit src.toNat id.toNat)

/-- MAP_SWITCH (R90, R118, R119). -/
def execMapSwitch (s : State) : Host.Outcome State Fault Refusal := act s (fun s => s.mapSwitch)

/-- MAP_ABORT (R151). -/
def execMapAbort (corr : Nat) (src : BitVec 5) (id : BitVec 8) (s : State) : Host.Outcome State Fault Refusal :=
  receive s corr (.mapAbort src.toNat id.toNat)

/-- MAP_RETIRE (R123). -/
def execMapRetire (corr : Nat) (src : BitVec 5) (id : BitVec 8) (s : State) : Host.Outcome State Fault Refusal :=
  receive s corr (.mapRetire src.toNat id.toNat)

/-- MAP_RETIRE_GO: AMAP_RETIRE with GO 1 (R123, R130). -/
def execMapRetireGo (agent : BitVec 4) (s : State) : Host.Outcome State Fault Refusal :=
  act s (fun s => s.portWrite agent Reg.AMAP_RETIRE_GO.key (wordOf [(Reg.AMAP_RETIRE_GO, 1)]) true true)

/-- RET_TMO_EXPIRY (R123). -/
def execRetTmoExpiry (s : State) : Host.Outcome State Fault Refusal := ringAct s (fun s => s.retireTimeout)

/-- MIGRATION_GO: AMAP_MIGCTL with GO 1 (R125, R133). -/
def execMigrationGo (agent : BitVec 4) (rate dst src : BitVec 4) (s : State) : Host.Outcome State Fault Refusal :=
  act s (fun s => s.portWrite agent Reg.AMAP_MIGCTL_GO.key (wordOf [(Reg.AMAP_MIGCTL_GO, 1), (Reg.AMAP_MIGCTL_RATE, rate.toNat),
    (Reg.AMAP_MIGCTL_DST, dst.toNat), (Reg.AMAP_MIGCTL_SRC, src.toNat)]) true true)

/-- MIGRATION_COPY_LINE (R125-R128). -/
def execMigrationCopyLine (s : State) : Host.Outcome State Fault Refusal := act s (fun s => s.migCopy)

/-- FWD_REQ (R122, R146, R392, R441, R450, R468). -/
def execFwdReq (corr : Nat) (src : BitVec 5) (mseq : BitVec 12) (dl : Tempo) (promo : Bool) (ver : BitVec 8) (ent : BitVec 4) (op : Op)
    (f : RqFlit) (s : State) : Host.Outcome State Fault Refusal :=
  receive s corr (.fwdReq src.toNat mseq.toNat dl promo ver.toNat ent.toNat op f)

/-- FWD_WD (R146). -/
def execFwdWd (corr : Nat) (src : BitVec 5) (mseq : BitVec 12) (idx : BitVec 2) (data : LineData) (s : State) : Host.Outcome State Fault Refusal :=
  receive s corr (.fwdWd src.toNat mseq.toNat idx.toNat data)

/-- FWD_RSP (R100, R122, R146). -/
def execFwdRsp (corr : Nat) (src : BitVec 5) (mseq : BitVec 12) (status : BitVec 4) (misroute : Bool) (idx : BitVec 2)
    (data : LineData) (s : State) : Host.Outcome State Fault Refusal :=
  receive s corr (.fwdRsp src.toNat mseq.toNat status.toNat misroute idx.toNat data)

/-- MIRROR_WR (R147, R441, R451, R468). -/
def execMirrorWr (corr : Nat) (src : BitVec 5) (mseq : BitVec 12) (ch : BitVec 2) (line : BitVec 32) (burst : Burst) (s : State) : Host.Outcome State Fault Refusal :=
  receive s corr (.mirrorWr src.toNat mseq.toNat ch.toNat line.toNat burst)

/-- MIRROR_ACK (R87, R100, R147, R312). -/
def execMirrorAck (corr : Nat) (src : BitVec 5) (mseq : BitVec 12) (s : State) : Host.Outcome State Fault Refusal :=
  receive s corr (.mirrorAck src.toNat mseq.toNat)

/-- MIRROR_RD (R147, R451, R468). -/
def execMirrorRd (corr : Nat) (src : BitVec 5) (mseq : BitVec 12) (ch : BitVec 2) (line : BitVec 32) (s : State) : Host.Outcome State Fault Refusal :=
  receive s corr (.mirrorRd src.toNat mseq.toNat ch.toNat line.toNat)

/-- MIRROR_DATA (R313). -/
def execMirrorData (corr : Nat) (src : BitVec 5) (mseq : BitVec 12) (burst : Burst) (s : State) : Host.Outcome State Fault Refusal :=
  receive s corr (.mirrorData src.toNat mseq.toNat burst)

/-- REF_TOKEN (R149, R150, R245, R423, R468). -/
def execRefToken (corr : Nat) (num : BitVec 3) (s : State) : Host.Outcome State Fault Refusal := receive s corr (.refToken num.toNat)

/-- TOKEN_HOLD_EXPIRY (R149). -/
def execTokenHoldExpiry (num : BitVec 3) (s : State) : Host.Outcome State Fault Refusal := ringAct s (fun s => s.tokenExpire num.toNat)

/-- TOKEN_RETURN_TIMEOUT (R150). -/
def execTokenReturnTimeout (num : BitVec 3) (s : State) : Host.Outcome State Fault Refusal := ringAct s (fun s => s.tokenLate num.toNat)

/-- FAULT_NOTE (R152, R423, R497). -/
def execFaultNote (corr : Nat) (src : BitVec 5) (cls : BitVec 2) (srcNo : BitVec 8) (t : Tempo) (s : State) : Host.Outcome State Fault Refusal :=
  receive s corr (.faultNote src.toNat cls.toNat srcNo.toNat t)

/-- LINK_DOWN (R154). -/
def execLinkDown (corr : Nat) (src : BitVec 5) (ccw : Bool) (tile : BitVec 5) (s : State) : Host.Outcome State Fault Refusal :=
  receive s corr (.linkDown src.toNat ccw tile.toNat)

/-- LINK_ACK_TIMEOUT (R154). -/
def execLinkAckTimeout (dir : RingDir) (s : State) : Host.Outcome State Fault Refusal := ringAct s (fun s => s.ackTimeout (cwOf dir))

/-- RING_FLIT_ERROR: a flit of this tile's refused by its receiver, or one received that this tile refuses (R137, R154). -/
def execRingFlitError (dir : RingDir) (received : Bool) (s : State) : Host.Outcome State Fault Refusal :=
  ringAct s (fun s => if received then s.emit (.ringError (cwOf dir)) else s.flitError (cwOf dir))

/-- RING_UNKNOWN_TYPE (R140). -/
def execRingUnknownType (type : BitVec 8) (s : State) : Host.Outcome State Fault Refusal := ringAct s (fun s => s.unknownType type.toNat)

/-- RING_DEFLECT (R139). -/
def execRingDeflect (dir : RingDir) (msg : RingMsg) (s : State) : Host.Outcome State Fault Refusal := ringAct s (fun s => s.deflect (cwOf dir) msg)

/-- RSP_TMO_EXPIRY (R155, R315-R317, R319). -/
def execRspTmoExpiry (mseq : BitVec 12) (s : State) : Host.Outcome State Fault Refusal := ringAct s (fun s => s.rspTimeout mseq.toNat)


end Sys2Proof.Machine
end

