-- ==== Sys2Proof/Machine/SchedCmds.lean ====
section
/-! DEFINITION. The commands of scheduling, the issue lattices and read return (R163-R217, R277). -/

namespace Sys2Proof.Machine

open Sys2Proof

/-- PROPOSAL_PLACE (R163, R169, R173-R176). -/
def execProposalPlace (sc : Nat) (s : State) : Host.Outcome State Fault Refusal := actIf (s.subBuilt sc) s (fun s => s.place sc)

/-- LATTICE_TICK (R199-R208, R213-R216). -/
def execLatticeTick (sc : Nat) (s : State) : Host.Outcome State Fault Refusal := actIf (s.subBuilt sc) s (fun s => s.tick sc)

/-- PROPOSAL_LIFE_EXPIRY (R164). -/
def execProposalLifeExpiry (sc : Nat) (s : State) : Host.Outcome State Fault Refusal := actIf (s.subBuilt sc) s (fun s => s.expire sc)

/-- ACCEPT: the oldest ACCEPT verdict of a subchannel arrives (R165, R176, R180, R184). -/
def execAccept (sc : Nat) (s : State) : Host.Outcome State Fault Refusal := actIf (s.subBuilt sc) s (fun s => s.deliver sc true)

/-- REFUSE: the oldest REFUSE verdict of a subchannel arrives (R165, R167, R168). -/
def execRefuse (sc : Nat) (s : State) : Host.Outcome State Fault Refusal := actIf (s.subBuilt sc) s (fun s => s.deliver sc false)

/-- COMMAND_ISSUE: the next accepted command issues (R202, R214, R266-R268, R290). -/
def execCommandIssue (sc : Nat) (upset : LineData) (s : State) : Host.Outcome State Fault Refusal :=
  actIf (s.subBuilt sc) s (fun s => s.issueNext sc upset)

/-- WRITE_ALERT_WINDOW_CLOSE (R87, R170, R217, R447). -/
def execWriteAlertWindowClose (sc : Nat) (s : State) : Host.Outcome State Fault Refusal := actIf (s.subBuilt sc) s (fun s => s.closeAlertWin sc)

/-- DRAIN_START (R177, R178). -/
def execDrainStart (sc : Nat) (s : State) : Host.Outcome State Fault Refusal := actIf (s.subBuilt sc) s (fun s => s.drainBegin sc)

/-- GAMBIT_IDLE_TIMEOUT (R184). -/
def execGambitIdleTimeout (b : Nat) (s : State) : Host.Outcome State Fault Refusal := actIf (s.engBuilt b) s (fun s => s.gambitIdle b)

/-- RT_BUCKET_REFILL (R186). -/
def execRtBucketRefill (sc : Nat) (s : State) : Host.Outcome State Fault Refusal := actIf (s.subBuilt sc) s (fun s => s.refill sc)

/-- READ_DATA_RETURN (R266-R289, R305, R313-R315, R371-R374, R379). -/
def execReadDataReturn (sc : Nat) (burst : Burst) (s : State) : Host.Outcome State Fault Refusal :=
  actIf (s.subBuilt sc) s (fun s => s.readReturn sc burst)


end Sys2Proof.Machine
end

