-- ==== Sys2Proof/Machine/SideCmds.lean ====
section
/-! DEFINITION. The commands of the DIMM sideband and the target sideband's address (R443-R445, R460-R463). -/

namespace Sys2Proof.Machine

open Sys2Proof

/-- SPD_READ_DONE (R444, R461). -/
def execSpdReadDone (c : Nat) (outcome : BitVec 2) (words : List Word) (s : State) : Host.Outcome State Fault Refusal :=
  actIf (s.chanBuilt c) s (fun s => s.spdDone c outcome.toNat words)

/-- PMIC_PGOOD_TIMEOUT (R351, R445). -/
def execPmicPgoodTimeout (c : Nat) (s : State) : Host.Outcome State Fault Refusal := actIf (s.chanBuilt c) s (fun s => s.pmicTimeout c)

/-- PMIC_POWER_GOOD (R445). -/
def execPmicPowerGood (c : Nat) (s : State) : Host.Outcome State Fault Refusal := actIf (s.chanBuilt c) s (fun s => s.pmicGood c)

/-- THERMAL_POLL (R445). -/
def execThermalPoll (mods : List TsPair) (s : State) : Host.Outcome State Fault Refusal := serve s (fun s => s.thermalPoll mods)

/-- SIDE_DXFER_READ: SIDE_DXFER with GO 1 and WR 0 (R462). -/
def execSideDxferRead (agent : BitVec 4) (ch dev : BitVec 2) (reg : BitVec 8) (s : State) : Host.Outcome State Fault Refusal :=
  serve s (fun s => s.portWrite agent Reg.SIDE_DXFER_GO.key (wordOf [(Reg.SIDE_DXFER_GO, 1), (Reg.SIDE_DXFER_CH, ch.toNat),
    (Reg.SIDE_DXFER_DEV, dev.toNat), (Reg.SIDE_DXFER_REG, reg.toNat)]) true true)

/-- SIDE_DXFER_WRITE: SIDE_DXFER with GO 1 and WR 1 (R462). -/
def execSideDxferWrite (agent : BitVec 4) (ch dev : BitVec 2) (reg data : BitVec 8) (s : State) : Host.Outcome State Fault Refusal :=
  serve s (fun s => s.portWrite agent Reg.SIDE_DXFER_GO.key (wordOf [(Reg.SIDE_DXFER_GO, 1), (Reg.SIDE_DXFER_WR, 1),
    (Reg.SIDE_DXFER_CH, ch.toNat), (Reg.SIDE_DXFER_DEV, dev.toNat), (Reg.SIDE_DXFER_REG, reg.toNat), (Reg.SIDE_DXFER_DATA, data.toNat)]) true true)

/-- SIDE_DXFER_DONE (R462). -/
def execSideDxferDone (ack : Bool) (data : BitVec 8) (s : State) : Host.Outcome State Fault Refusal := serve s (fun s => s.dxferDone ack data.toNat)

/-- DYNAMIC_ADDRESS_ASSIGNMENT (R460). -/
def execDynamicAddressAssignment (a : BitVec 7) (s : State) : Host.Outcome State Fault Refusal := serve s (fun s => s.assignAddr a.toNat)


end Sys2Proof.Machine
end

