-- ==== Sys2Proof/Machine/Tap.lean ====
section
/-! DEFINITION. The IEEE 1149.1 test port (R397, R399, R474, R542). -/

namespace Sys2Proof.Machine

open Sys2Proof

/-- The instruction in force: 0 BYPASS, 1 IDCODE, 2 SAMPLE/PRELOAD, 3 EXTEST, 4 SCAN_EN. The codes are the model's own (log entry 48). -/
def State.setIr (s : State) (ir : Nat) : State := { s with tap := { s.tap with ir := ir, hold := none } }

/-- R542: the identification code of the build. -/
def idcodeOf (mfr : BitVec 11) : BitVec 32 := BitVec.ofNat 32 (4 * 2 ^ 28 + 0xB401 * 2 ^ 12 + mfr.toNat * 2 + 1)

/-- BYPASS. -/
def State.tapBypass (s : State) : State := s.setIr 0

/-- IDCODE: the code leaves on TDO. -/
def State.tapIdcode (s : State) : State := (s.setIr 1).emit (.tdo (idcodeOf s.build.mfr))

/-- SAMPLE/PRELOAD: the boundary register takes the levels of the pins. -/
def State.tapSample (s : State) (pins : Nat) : State :=
  let s := s.setIr 2
  { s with tap := { s.tap with boundary := pins } }

/-- A scan instruction takes effect: from now on the tile serves nothing. EXTEST drives the CHn_ pins from the boundary register. -/
def State.tapTakes (s : State) (ir : Nat) : State :=
  let s : State := { s.setIr ir with frozen := true }
  if ir = 3 then s.emit (.boundary s.tap.boundary) else s

/-- EXTEST and SCAN_EN in service: keys are cleared and verified first and the slices stopped; the instruction is held back while VERIFY_FAIL
is 1. -/
def State.tapScan (s : State) (ir : Nat) (v1 v2 : Bool) : State :=
  let s := if s.build.crypt then s.clearKeys 1 v1 v2 else s
  let s := s.haltSlices
  if s.flag Reg.CRYP_KSTAT_VERIFY_FAIL then { s with tap := { s.tap with hold := some ir } } else s.tapTakes ir

/-- A scan instruction. With TILE_RESET_n low the key store is zero already, and a tile in scan has cleared it: it takes effect at once. -/
def scan (s : State) (ir : Nat) (v1 v2 : Bool) : Host.Outcome State Fault Refusal :=
  if s.serving then .next (keepPins s (s.tapScan ir v1 v2)) else .next (s.tapTakes ir)

/-! ## The commands -/

/-- BYPASS. -/
def execBypass (s : State) : Host.Outcome State Fault Refusal := .next s.tapBypass

/-- IDCODE. -/
def execIdcode (s : State) : Host.Outcome State Fault Refusal := .next s.tapIdcode

/-- SAMPLE/PRELOAD. -/
def execSamplePreload (pins : Nat) (s : State) : Host.Outcome State Fault Refusal := .next (s.tapSample pins)

/-- EXTEST. -/
def execExtest (v1 v2 : Bool) (s : State) : Host.Outcome State Fault Refusal := scan s 3 v1 v2

/-- SCAN_EN. -/
def execScanEn (v1 v2 : Bool) (s : State) : Host.Outcome State Fault Refusal := scan s 4 v1 v2

end Sys2Proof.Machine
end

