-- ==== Sys2Proof/Machine/Dispatch.lean ====
section
/-! DEFINITION. One arm per command: each is one call of its meaning. -/

namespace Sys2Proof.Machine

open Sys2Proof

def exec (i : Instr) (s : State) : Host.Outcome State Fault Refusal :=
  match i with
  | .rd p f => Sys2Proof.Machine.execRd p f s
  | .wr p f => Sys2Proof.Machine.execWr p f s
  | .wrp p f => Sys2Proof.Machine.execWrp p f s
  | .rdl p f => Sys2Proof.Machine.execRdl p f s
  | .wru p f => Sys2Proof.Machine.execWru p f s
  | .ulk p f => Sys2Proof.Machine.execUlk p f s
  | .afadd p f => Sys2Proof.Machine.execAfadd p f s
  | .aswp p f => Sys2Proof.Machine.execAswp p f s
  | .acas p f => Sys2Proof.Machine.execAcas p f s
  | .aor p f => Sys2Proof.Machine.execAor p f s
  | .aand p f => Sys2Proof.Machine.execAand p f s
  | .flush p f => Sys2Proof.Machine.execFlush p f s
  | .writeDataFlit p f => Sys2Proof.Machine.execWriteDataFlit p f s
  | .responseSend p upset => Sys2Proof.Machine.execResponseSend p upset s
  | .negativeAcknowledge p seq => Sys2Proof.Machine.execNegativeAcknowledge p seq s
  | .responseRelease p seq => Sys2Proof.Machine.execResponseRelease p seq s
  | .hpResetRise p => Sys2Proof.Machine.execHpResetRise p s
  | .hpResetFall p => Sys2Proof.Machine.execHpResetFall p s
  | .panicRise p => Sys2Proof.Machine.execPanicRise p s
  | .panicFall p => Sys2Proof.Machine.execPanicFall p s
  | .arbiterGrant => Sys2Proof.Machine.execArbiterGrant s
  | .deadlineClamp rid => Sys2Proof.Machine.execDeadlineClamp rid s
  | .lockTimeout k => Sys2Proof.Machine.execLockTimeout k s
  | .proposalPlace sc => Sys2Proof.Machine.execProposalPlace sc s
  | .latticeTick sc => Sys2Proof.Machine.execLatticeTick sc s
  | .proposalLifeExpiry sc => Sys2Proof.Machine.execProposalLifeExpiry sc s
  | .accept sc => Sys2Proof.Machine.execAccept sc s
  | .refuse sc => Sys2Proof.Machine.execRefuse sc s
  | .commandIssue sc upset => Sys2Proof.Machine.execCommandIssue sc upset s
  | .writeAlertWindowClose sc => Sys2Proof.Machine.execWriteAlertWindowClose sc s
  | .drainStart sc => Sys2Proof.Machine.execDrainStart sc s
  | .gambitIdleTimeout b => Sys2Proof.Machine.execGambitIdleTimeout b s
  | .rtBucketRefill sc => Sys2Proof.Machine.execRtBucketRefill sc s
  | .readDataReturn sc burst => Sys2Proof.Machine.execReadDataReturn sc burst s
  | .mrcmdMrr agent ch sck rk ma => Sys2Proof.Machine.execMrcmdMrr agent ch sck rk ma s
  | .mrcmdMrw agent ch sck rk ma wdata => Sys2Proof.Machine.execMrcmdMrw agent ch sck rk ma wdata s
  | .zqcalStartDue sc rk => Sys2Proof.Machine.execZqcalStartDue sc rk s
  | .zqcalLatchDue sc rk => Sys2Proof.Machine.execZqcalLatchDue sc rk s
  | .refreshIncrement sc rk j => Sys2Proof.Machine.execRefreshIncrement sc rk j s
  | .mr4Poll => Sys2Proof.Machine.execMr4Poll s
  | .alertN c reps => Sys2Proof.Machine.execAlertN c reps s
  | .parWinExpiry sc => Sys2Proof.Machine.execParWinExpiry sc s
  | .scrubLineDue c => Sys2Proof.Machine.execScrubLineDue c s
  | .scrubPassStart c => Sys2Proof.Machine.execScrubPassStart c s
  | .trackerWindowExpiry k => Sys2Proof.Machine.execTrackerWindowExpiry k s
  | .deviceCountDecay => Sys2Proof.Machine.execDeviceCountDecay s
  | .eccsInjArm agent w => Sys2Proof.Machine.execEccsInjArm agent w s
  | .rmreq agent ch sck rk bank row => Sys2Proof.Machine.execRmreq agent ch sck rk bank row s
  | .ersreq agent ch sck rk grp => Sys2Proof.Machine.execErsreq agent ch sck rk grp s
  | .remapCopyComplete k rows mirror => Sys2Proof.Machine.execRemapCopyComplete k rows mirror s
  | .castle agent chans => Sys2Proof.Machine.execCastle agent chans s
  | .retire agent chans => Sys2Proof.Machine.execRetire agent chans s
  | .pllLock c => Sys2Proof.Machine.execPllLock c s
  | .pllLockTimeout c => Sys2Proof.Machine.execPllLockTimeout c s
  | .pllLossOfLock c => Sys2Proof.Machine.execPllLossOfLock c s
  | .relockCheckDone c gates runs => Sys2Proof.Machine.execRelockCheckDone c gates runs s
  | .phyZqRecal c pu pd => Sys2Proof.Machine.execPhyZqRecal c pu pd s
  | .tempSample c t => Sys2Proof.Machine.execTempSample c t s
  | .idleGapTrimApply sc => Sys2Proof.Machine.execIdleGapTrimApply sc s
  | .gapInsert sc => Sys2Proof.Machine.execGapInsert sc s
  | .dramInitDone c => Sys2Proof.Machine.execDramInitDone c s
  | .trainStepDone sc res => Sys2Proof.Machine.execTrainStepDone sc res s
  | .pprEntryDone n spare clean => Sys2Proof.Machine.execPprEntryDone n spare clean s
  | .fillLineWrite c => Sys2Proof.Machine.execFillLineWrite c s
  | .spdReadDone c outcome words => Sys2Proof.Machine.execSpdReadDone c outcome words s
  | .pmicPgoodTimeout c => Sys2Proof.Machine.execPmicPgoodTimeout c s
  | .thermalPoll mods => Sys2Proof.Machine.execThermalPoll mods s
  | .sideDxferRead agent ch dev reg => Sys2Proof.Machine.execSideDxferRead agent ch dev reg s
  | .sideDxferWrite agent ch dev reg data => Sys2Proof.Machine.execSideDxferWrite agent ch dev reg data s
  | .epPassStart c => Sys2Proof.Machine.execEpPassStart c s
  | .epRunDone sc rk a b => Sys2Proof.Machine.execEpRunDone sc rk a b s
  | .epProbeWaitExpiry sc rk => Sys2Proof.Machine.execEpProbeWaitExpiry sc rk s
  | .epRunTimeout sc rk => Sys2Proof.Machine.execEpRunTimeout sc rk s
  | .load agent => Sys2Proof.Machine.execLoad agent s
  | .clear agent => Sys2Proof.Machine.execClear agent s
  | .clearAll agent v1 v2 => Sys2Proof.Machine.execClearAll agent v1 v2 s
  | .keySlotChangeComplete k v1 v2 => Sys2Proof.Machine.execKeySlotChangeComplete k v1 v2 s
  | .tamperRise v1 v2 => Sys2Proof.Machine.execTamperRise v1 v2 s
  | .bypass => Sys2Proof.Machine.execBypass s
  | .idcode => Sys2Proof.Machine.execIdcode s
  | .samplePreload pins => Sys2Proof.Machine.execSamplePreload pins s
  | .extest v1 v2 => Sys2Proof.Machine.execExtest v1 v2 s
  | .scanEn v1 v2 => Sys2Proof.Machine.execScanEn v1 v2 s
  | .vreqComplete => Sys2Proof.Machine.execVreqComplete s
  | .vreqTimeout word => Sys2Proof.Machine.execVreqTimeout word s
  | .pwrGoodFall => Sys2Proof.Machine.execPwrGoodFall s
  | .pgoodDownTimeout => Sys2Proof.Machine.execPgoodDownTimeout s
  | .vloopWindow rho => Sys2Proof.Machine.execVloopWindow rho s
  | .idleTimerExpiry => Sys2Proof.Machine.execIdleTimerExpiry s
  | .voteAgree v => Sys2Proof.Machine.execVoteAgree v s
  | .voteRefuse v => Sys2Proof.Machine.execVoteRefuse v s
  | .voteWithdraw v => Sys2Proof.Machine.execVoteWithdraw v s
  | .voteTimeout => Sys2Proof.Machine.execVoteTimeout s
  | .sleepEntryComplete => Sys2Proof.Machine.execSleepEntryComplete s
  | .wakeEvent src => Sys2Proof.Machine.execWakeEvent src s
  | .wakeComplete => Sys2Proof.Machine.execWakeComplete s
  | .coreIdleRegate => Sys2Proof.Machine.execCoreIdleRegate s
  | .tileResetRelease anchor => Sys2Proof.Machine.execTileResetRelease anchor s
  | .tileResetAssert => Sys2Proof.Machine.execTileResetAssert s
  | .bootGo agent => Sys2Proof.Machine.execBootGo agent s
  | .goActedOn => Sys2Proof.Machine.execGoActedOn s
  | .shutdownRequest agent => Sys2Proof.Machine.execShutdownRequest agent s
  | .endgameDrainComplete v1 v2 => Sys2Proof.Machine.execEndgameDrainComplete v1 v2 s
  | .endgameDrainTimeout v1 v2 => Sys2Proof.Machine.execEndgameDrainTimeout v1 v2 s
  | .bistSliceDone res => Sys2Proof.Machine.execBistSliceDone res s
  | .bistSliceBudgetExpiry => Sys2Proof.Machine.execBistSliceBudgetExpiry s
  | .faultReport src loc aux akind addr => Sys2Proof.Machine.execFaultReport src loc aux akind addr s
  | .captureWindowClose v1 v2 => Sys2Proof.Machine.execCaptureWindowClose v1 v2 s
  | .checkTimerExpiry => Sys2Proof.Machine.execCheckTimerExpiry s
  | .faultStatusClear agent high w => Sys2Proof.Machine.execFaultStatusClear agent high w s
  | .firstFaultClear agent => Sys2Proof.Machine.execFirstFaultClear agent s
  | .force agent page w => Sys2Proof.Machine.execForce agent page w s
  | .logPop agent upset => Sys2Proof.Machine.execLogPop agent upset s
  | .bengDataAccess agent wr => Sys2Proof.Machine.execBengDataAccess agent wr s
  | .pprw1Access agent wr => Sys2Proof.Machine.execPprw1Access agent wr s
  | .spddatRead agent => Sys2Proof.Machine.execSpddatRead agent s
  | .commit agent page w => Sys2Proof.Machine.execCommit agent page w s
  | .commitSafePoint page => Sys2Proof.Machine.execCommitSafePoint page s
  | .claim agent page => Sys2Proof.Machine.execClaim agent page s
  | .release agent page => Sys2Proof.Machine.execRelease agent page s
  | .claimIdleTimeout page => Sys2Proof.Machine.execClaimIdleTimeout page s
  | .agentReset agent => Sys2Proof.Machine.execAgentReset agent s
  | .targetResetPattern => Sys2Proof.Machine.execTargetResetPattern s
  | .sidebandWrite bytes => Sys2Proof.Machine.execSidebandWrite bytes s
  | .sidebandRead bytes len upset => Sys2Proof.Machine.execSidebandRead bytes len upset s
  | .registerWrite agent addr w v1 v2 => Sys2Proof.Machine.execRegisterWrite agent addr w v1 v2 s
  | .disc corr dir foreign count => Sys2Proof.Machine.execDisc corr dir foreign count s
  | .discDone corr total => Sys2Proof.Machine.execDiscDone corr total s
  | .discReq corr => Sys2Proof.Machine.execDiscReq corr s
  | .discRepeatTimer => Sys2Proof.Machine.execDiscRepeatTimer s
  | .discLoopTimeout => Sys2Proof.Machine.execDiscLoopTimeout s
  | .mapOffer corr src mseq id refused refuser reason words => Sys2Proof.Machine.execMapOffer corr src mseq id refused refuser reason words s
  | .mapOfferReturn corr id refused => Sys2Proof.Machine.execMapOfferReturn corr id refused s
  | .mapOfferTimeout => Sys2Proof.Machine.execMapOfferTimeout s
  | .mapCommit corr src id => Sys2Proof.Machine.execMapCommit corr src id s
  | .mapSwitch => Sys2Proof.Machine.execMapSwitch s
  | .mapAbort corr src id => Sys2Proof.Machine.execMapAbort corr src id s
  | .mapRetire corr src id => Sys2Proof.Machine.execMapRetire corr src id s
  | .mapRetireGo agent => Sys2Proof.Machine.execMapRetireGo agent s
  | .retTmoExpiry => Sys2Proof.Machine.execRetTmoExpiry s
  | .migrationGo agent rate dst src => Sys2Proof.Machine.execMigrationGo agent rate dst src s
  | .migrationCopyLine => Sys2Proof.Machine.execMigrationCopyLine s
  | .fwdReq corr src mseq dl promo ver ent op f => Sys2Proof.Machine.execFwdReq corr src mseq dl promo ver ent op f s
  | .fwdWd corr src mseq idx data => Sys2Proof.Machine.execFwdWd corr src mseq idx data s
  | .fwdRsp corr src mseq status misroute idx data => Sys2Proof.Machine.execFwdRsp corr src mseq status misroute idx data s
  | .mirrorWr corr src mseq ch line burst => Sys2Proof.Machine.execMirrorWr corr src mseq ch line burst s
  | .mirrorAck corr src mseq => Sys2Proof.Machine.execMirrorAck corr src mseq s
  | .mirrorRd corr src mseq ch line => Sys2Proof.Machine.execMirrorRd corr src mseq ch line s
  | .mirrorData corr src mseq burst => Sys2Proof.Machine.execMirrorData corr src mseq burst s
  | .refToken corr num => Sys2Proof.Machine.execRefToken corr num s
  | .tokenHoldExpiry num => Sys2Proof.Machine.execTokenHoldExpiry num s
  | .tokenReturnTimeout num => Sys2Proof.Machine.execTokenReturnTimeout num s
  | .faultNote corr src cls srcNo t => Sys2Proof.Machine.execFaultNote corr src cls srcNo t s
  | .linkDown corr src ccw tile => Sys2Proof.Machine.execLinkDown corr src ccw tile s
  | .linkAckTimeout dir => Sys2Proof.Machine.execLinkAckTimeout dir s
  | .ringFlitError dir received => Sys2Proof.Machine.execRingFlitError dir received s
  | .ringUnknownType type => Sys2Proof.Machine.execRingUnknownType type s
  | .ringDeflect dir msg => Sys2Proof.Machine.execRingDeflect dir msg s
  | .rspTmoExpiry mseq => Sys2Proof.Machine.execRspTmoExpiry mseq s
  | .pwrGoodRise => Sys2Proof.Machine.execPwrGoodRise s
  | .voutModeReadDone byte => Sys2Proof.Machine.execVoutModeReadDone byte s
  | .pmicPowerGood c => Sys2Proof.Machine.execPmicPowerGood c s
  | .sideDxferDone ack data => Sys2Proof.Machine.execSideDxferDone ack data s
  | .phyImpedanceCalibrationDone c pu pd => Sys2Proof.Machine.execPhyImpedanceCalibrationDone c pu pd s
  | .dynamicAddressAssignment a => Sys2Proof.Machine.execDynamicAddressAssignment a s

end Sys2Proof.Machine
end

