-- ==== Sys2Proof/Machine/Step.lean ====
section
/-! DEFINITION. One step: the command at the front of the queue takes its effect. On an empty queue the block idles for one nanosecond of
Tempo (log entry 5). -/

namespace Sys2Proof.Machine

open Sys2Proof

/-- The tile with nothing commanded: Tempo counts on (R18). -/
def idleStep (s : State) : State := s.advanceLong (s.longTime + 1)

/-- Take the oldest waiting command and run it on the tile with the rest of the queue. -/
def step (s : State) : Host.Outcome State Fault Refusal :=
  match s.pending with
  | [] => .next (idleStep s)
  | i :: rest => exec i { s with pending := rest }

/-- The state with the command a word spells in front of its queue; the table gives no row any bits, so no word spells one. -/
def State.withFetchWord (s : State) (nbits w : Nat) : State :=
  match decodeTableWord nbits w with
  | some i => { s with pending := i :: s.pending }
  | none => s

end Sys2Proof.Machine
end

