-- ==== Sys2Proof/Safety.lean ====
section
/-! DEFINITION. The predicates that claims are stated with: what holds while TILE_RESET_n is low, what a tile that scan has stopped keeps,
which commands reach past either, and when a register page is open to an agent. -/

namespace Sys2Proof.Machine

open Sys2Proof

/-- R537: every register, the key store and the AON retention are at their reset values, and nothing of the host's is held. -/
def State.blank (s : State) : Prop :=
  s.mode = .bringup ∧ s.regs = [] ∧ s.stg = [] ∧ s.views = [] ∧ s.claims = [] ∧ s.copies = [] ∧ s.tabs = [] ∧ s.tabsStg = [] ∧
  s.memReady = false ∧ (∀ p, s.port p = { port0 with rst := (s.port p).rst, panic := (s.port p).panic }) ∧ s.reqs = [] ∧ s.wbuf = [] ∧ s.locks = [] ∧ s.qes = [] ∧ s.subs = [] ∧ s.engs = [] ∧ s.groups = [] ∧
  s.fault = State.reset.fault ∧ s.repair = State.reset.repair ∧ s.crypt.slots = [] ∧ s.crypt.keyw = [] ∧ s.retained = [] ∧
  s.phys = [] ∧ s.trims = [] ∧ s.book = [] ∧ s.bist = State.reset.bist ∧ s.startup = State.reset.startup

/-- While TILE_RESET_n is low the tile is blank (R537). -/
def State.heldInReset (s : State) : Prop := s.resetN = false → s.blank

/-- The commands that act on TILE_RESET_n. -/
def isReset (i : Instr) : Bool :=
  match i with
  | .tileResetRelease _ | .tileResetAssert => true
  | _ => false

/-- The commands of the test port. -/
def isTap (i : Instr) : Bool :=
  match i with
  | .bypass | .idcode | .samplePreload _ | .extest _ _ | .scanEn _ _ => true
  | _ => false

/-- The message a ring command brings, with the words corrected in its flits (R137, R140). -/
def arrivalOf (i : Instr) : Option (Nat × RingIn) :=
  match i with
  | .disc corr dir foreign count => some (corr, .disc (cwOf dir) foreign count.toNat)
  | .discDone corr total => some (corr, .discDone total.toNat)
  | .discReq corr => some (corr, .discReq)
  | .mapOffer corr src mseq id refused refuser reason words =>
    some (corr, .mapOffer src.toNat mseq.toNat id.toNat refused refuser.toNat reason.toNat words)
  | .mapCommit corr src id => some (corr, .mapCommit src.toNat id.toNat)
  | .mapAbort corr src id => some (corr, .mapAbort src.toNat id.toNat)
  | .mapRetire corr src id => some (corr, .mapRetire src.toNat id.toNat)
  | .fwdReq corr src mseq dl promo ver ent op f => some (corr, .fwdReq src.toNat mseq.toNat dl promo ver.toNat ent.toNat op f)
  | .fwdWd corr src mseq idx data => some (corr, .fwdWd src.toNat mseq.toNat idx.toNat data)
  | .fwdRsp corr src mseq status misroute idx data =>
    some (corr, .fwdRsp src.toNat mseq.toNat status.toNat misroute idx.toNat data)
  | .mirrorWr corr src mseq ch line burst => some (corr, .mirrorWr src.toNat mseq.toNat ch.toNat line.toNat burst)
  | .mirrorAck corr src mseq => some (corr, .mirrorAck src.toNat mseq.toNat)
  | .mirrorRd corr src mseq ch line => some (corr, .mirrorRd src.toNat mseq.toNat ch.toNat line.toNat)
  | .mirrorData corr src mseq burst => some (corr, .mirrorData src.toNat mseq.toNat burst)
  | .refToken corr num => some (corr, .refToken num.toNat)
  | .faultNote corr src cls srcNo t => some (corr, .faultNote src.toNat cls.toNat srcNo.toNat t)
  | .linkDown corr src ccw tile => some (corr, .linkDown src.toNat ccw tile.toNat)
  | _ => none

/-- Two states agree on all but time, the test port, what has left the tile and what waits to be commanded. -/
def State.sameTile (s t : State) : Prop :=
  { t with tempo := s.tempo, wraps := s.wraps, tap := s.tap, outputs := s.outputs, pending := s.pending } = s

/-- The register store is in canonical form: keys strictly rising, no entry equal to its register's reset word. -/
def State.regsOk (s : State) : Prop := Tab.wf resetWord s.regs = true

/-- The request command of an opcode (R34). -/
def requestCmd (op : Op) (p : Nat) (f : RqFlit) : Instr :=
  match op with
  | .rd => .rd p f
  | .wr => .wr p f
  | .wrp => .wrp p f
  | .rdl => .rdl p f
  | .wru => .wru p f
  | .ulk => .ulk p f
  | .afadd => .afadd p f
  | .aswp => .aswp p f
  | .acas => .acas p f
  | .aor => .aor p f
  | .aand => .aand p f
  | .flush => .flush p f
  | .other c => .rd p { f with xop := some c }

/-- The tile is awake and serves, and an agent of the management port finds a page that nobody claims (R515, R524). -/
def State.pageFree (s : State) (agent : BitVec 4) (page : Nat) : Prop :=
  s.serving = true ∧ s.mode ≠ .sleep ∧ mgtAgent agent.toNat = true ∧ s.claim page = none

/-- The management port answers OK without data (R516). -/
def State.okAck (s : State) : State := s.emit (.mgt 0 0)

end Sys2Proof.Machine
end

