-- ==== Sys2Proof/Certificates/Slice0/Obligations.lean ====
section
/-! DEFINITION. The statements about the tile: what each family of commands does, what the tile keeps, and where it stops serving. A statement
of a command's effect says `exec c s = .next (s.done u)` with what `u` holds: `u` is the state the command's own effect leads to, and `done`
adds what follows at once (log entry 49); `keepPins s u` where nothing follows. -/

open Sys2Proof Sys2Proof.Machine

/-- A step takes the command at the front of the queue and runs it on the tile with the rest of the queue. -/
def Obligations.StepRunsFront : Prop :=
  ∀ (s : State) (c : Instr) (rest : List Instr), step { s with pending := c :: rest } = exec c { s with pending := rest }

/-- With nothing commanded the tile idles: Tempo counts one nanosecond and nothing else changes (log entry 5). -/
def Obligations.IdleCountsTempo : Prop :=
  ∀ s : State, s.pending = [] → ∃ t, step s = .next t ∧ t.longTime = s.longTime + 1 ∧ { t with tempo := s.tempo, wraps := s.wraps } = s

/-- Commands are taken first in, first out: after n steps the first n of the queue are gone and no other; and no step changes what the
configurator built (R530). -/
def Obligations.StepsKeepBuildAndOrder : Prop :=
  (∀ (n : Nat) (s t : State), Host.Core.run core n s = .next t → t.pending = s.pending.drop n) ∧
  (∀ (n : Nat) (s t : State), Host.Core.run core n s = .next t → t.build = s.build)

/-- TILE_RESET_n falls: everything is at its reset value and every built channel's CHn_RESET_n has fallen (R537). TILE_RESET_n rises: step
1 of start-up; the regulator's VOUT_MODE is read, and the anchor of a built ring no link of which is broken sends DISC with count 0 to its CW
neighbour (R141, R409, R437). A level the pin has already changes nothing. -/
def Obligations.ResetAssertsAndReleases : Prop :=
  (∀ s : State, s.resetN = true → ∃ t, exec .tileResetAssert s = .next t ∧ t.resetN = false ∧ t.blank ∧ t.build = s.build ∧
    t.outputs = s.outputs ++ ((List.range 4).filter s.chanBuilt).map (fun c => .channelReset c false)) ∧
  (∀ (anchor : Bool) (s : State), s.resetN = false → ∃ t, exec (.tileResetRelease anchor) s = .next t ∧ t.resetN = true ∧ t.mode = s.mode ∧
    (∃ (addr speed : Nat) (pec : Bool), .regulator addr speed pec busVoutMode 0 ∈ t.outputs) ∧ t.ring.anchor = anchor ∧
    (s.build.ring = true → anchor = true → s.ring.broken = [] → ∃ m, .ring true m ∈ t.outputs ∧ m.type = 0x01 ∧ m.arg = 0)) ∧
  (∀ s : State, s.resetN = false → exec .tileResetAssert s = .next s) ∧
  (∀ (anchor : Bool) (s : State), s.resetN = true → exec (.tileResetRelease anchor) s = .next s)

/-- The state right after reset is blank (R437, R537). -/
def Obligations.ResetIsBlank : Prop :=
 State.reset.blank ∧ State.reset.heldInReset ∧ State.reset.regsOk

/-- While TILE_RESET_n is low the tile stays at its reset values, whatever is commanded (R537). -/
def Obligations.HeldInResetInvariant : Prop :=
  ∀ s t : State, s.heldInReset → step s = .next t → t.heldInReset

/-- While TILE_RESET_n is low a command other than the reset's and the test port's changes nothing, or names a unit not built. -/
def Obligations.ResetLowIgnores : Prop :=
  ∀ (c : Instr) (s : State), s.resetN = false → isReset c = false → isTap c = false →
    exec c s = .next s ∨ exec c s = .fault .unitNotBuilt

/-- Once EXTEST or SCAN_EN has taken effect the tile serves nothing until TILE_RESET_n: no run of other commands changes it (R542). -/
def Obligations.ScanStopsService : Prop :=
  ∀ (n : Nat) (s t : State), s.frozen = true → s.pending.all (fun c => !isReset c) = true → Host.Core.run core n s = .next t → s.sameTile t

/-- A field reads as what was written to it, cut to its width; a field of another register, and one of the same register that shares no
bit with it, reads as before. -/
def Obligations.FieldReadAfterWrite : Prop :=
  ∀ (s : State) (f g : FRef) (v : Nat), f.lo ≤ f.hi → f.hi < 32 → g.lo ≤ g.hi → g.hi < 32 →
    (s.setFld f v).fld f = v % 2 ^ (f.hi + 1 - f.lo) ∧
    (f.key ≠ g.key ∨ f.hi < g.lo ∨ g.hi < f.lo → (s.setFld f v).fld g = s.fld g)

/-- Every write of a register keeps the register store in canonical form. -/
def Obligations.RegisterStoreCanonical : Prop :=
  ∀ (s : State) (f : FRef) (v : Nat), s.regsOk → (s.setFld f v).regsOk

/-- A request of any opcode (`requestCmd`: RD, WR, WRP, RDL, WRU, ULK, AFADD, ASWP, ACAS, AOR, AAND, FLUSH) whose handshake begins at a
port that may take it is accepted: it waits in the ingress stage, and its deadline is Tempo at the request edge plus its budget in units
of 2 ns (R43). A flit whose opcode field holds a value no row has is accepted as that opcode (`seenOp`, log entry 76). -/
def Obligations.RequestAccepted : Prop :=
  ∀ (op : Op) (p : Nat) (f : RqFlit) (s : State), listedOp op = true → s.serving = true → s.portBuilt p = true → s.inService = true → s.power.vote = none →
    (s.port p).rst = false → (s.port p).retired = false → s.flag (Reg.HPT_PCTL_PEN p) = true → (s.port p).rqHeld = [] →
    (s.waiting p).length < 8 → s.wbuf.all (fun w => w.rid.isSome && decide (w.rid ≠ some s.nextRid)) = true →
    ∃ u : State, exec (requestCmd op p f) s = .next (s.done u) ∧ u.nextRid = s.nextRid + 1 ∧
      ∃ r ∈ u.reqs, r.rid = s.nextRid ∧ r.org = .port p ∧ r.op = seenOp op f ∧ r.flit = f ∧ r.stage = .ingress ∧ r.promo = (s.port p).panic ∧
        r.dl = s.tempo + BitVec.ofNat 40 (2 * s.budget p f)

/-- A request in BRINGUP, ENDGAME or HALT, or at a closed or retired port, is answered at once by the status responder with NOTREADY,
OFFLINE or HALTED (R5, R42). -/
def Obligations.RequestTurnedAway : Prop :=
  ∀ (op : Op) (p : Nat) (f : RqFlit) (s : State) (st : Status), s.serving = true → s.portBuilt p = true → s.mode ≠ .sleep →
    s.power.vote = none → (s.port p).rst = false → s.modeStatus p = some st → (s.port p).rqHeld = [] → (s.port p).statusFlits < 16 →
    s.wbuf = [] →
    ∃ u : State, exec (requestCmd op p f) s = .next (s.done u) ∧
      ∃ x ∈ (u.port p).ready, x.status = st ∧ x.tag = f.tag ∧ x.idx = 0 ∧ x.entry = false ∧ x.data = 0

/-- A write-data flit of a request that waits for it takes one credit and a line of the write data buffer, and the request is answered where
that completes it (R37, R48); one of no request becomes an orphan line (R37); one that does not fit is discarded with HPTn_EVT.WD_BAD, its
credit given back (R38). A flit sent without a credit is held behind its acknowledge (R50), and a port in reset takes none (R60). -/
def Obligations.WriteDataFlitTakesACredit : Prop :=
  ∀ (p : Nat) (f : WdFlit) (s x : State), s.serving = true → s.portBuilt p = true →
    x = s.setPort p { s.port p with creds := (s.port p).creds - 1 } →
    ((s.port p).rst = true → exec (.writeDataFlit p f) s = .next (s.done s)) ∧
    ((s.port p).rst = false → (s.port p).creds = 0 →
      exec (.writeDataFlit p f) s = .next (s.done (s.setPort p { s.port p with wdHeld := (s.port p).wdHeld ++ [f] }))) ∧
    ((s.port p).rst = false → (s.port p).creds ≠ 0 →
      (∀ r : Req, s.wdOwner p f.tag = some r → f.idx.toNat < r.lines → s.hasLine r.rid f.idx.toNat = false →
        exec (.writeDataFlit p f) s = .next (s.done
          (((x.noteData (some r.rid)).pushLine ⟨some p, some r.rid, f.tag, f.idx.toNat, f.data, f.upset⟩).levels.tryAnswer r.rid))) ∧
      (∀ r : Req, s.wdOwner p f.tag = some r → r.lines ≤ f.idx.toNat ∨ s.hasLine r.rid f.idx.toNat = true →
        exec (.writeDataFlit p f) s = .next (s.done ((x.badFlit p).tryAnswer r.rid))) ∧
      (s.wdOwner p f.tag = none →
        exec (.writeDataFlit p f) s = .next (s.done
          (if s.wbuf.any (fun w => w.own == some p && w.rid == none && w.tag == f.tag && w.idx == f.idx.toNat) then x.badFlit p
           else (x.pushLine ⟨some p, none, f.tag, f.idx.toNat, f.data, f.upset⟩).levels))))

/-- RESPONSE_SEND: the next ready flit leaves with the port's next sequence number and is kept until it is released (R55). While the port
repeats under R57 the next kept flit leaves again instead, with its own number, and the last of them ends the repeat. -/
def Obligations.ResponseSentInSequence : Prop :=
  ∀ (p : Nat) (upset : LineData) (f : Rsp) (s : State), s.serving = true → s.portBuilt p = true → (s.port p).rst = false →
    ((s.port p).rep = none → s.nextReady p = some f →
      exec (.responseSend p upset) s = .next (s.done
        (((s.setPort p { s.port p with
            ready := (s.port p).ready.erase f
            sent := (s.port p).sent ++ [{ f with seq := (s.port p).next }]
            next := (s.port p).next + 1 }).sendFlit p { f with seq := (s.port p).next } upset).firstSent p { f with seq := (s.port p).next }))) ∧
    (∀ k : Nat, (s.port p).rep = some k → (s.port p).sent[k]? = some f →
      exec (.responseSend p upset) s = .next (s.done
        ((s.setPort p { s.port p with rep := if k + 1 < (s.port p).sent.length then some (k + 1) else none }).sendFlit p f upset)))

/-- RESPONSE_RELEASE and NEGATIVE_ACKNOWLEDGE at a port out of reset. A release frees every sent entry up to and including the number it
carries, and no other, and ends a run of negative acknowledges (R56, R58). A negative acknowledge of a sent and unreleased number releases
the entries before it, repeats from it, and is counted in HPTn_NAKCNT; the eighth of one number in a row sets HPTn_EVT.NAK_LIMIT and is
reported (R57, R58). Outside that range a release changes nothing, and a negative acknowledge only the count and HPTn_EVT.NAK_RANGE. No
other port changes. At a port in reset neither changes anything (R60). -/
def Obligations.ReleaseAndNegativeAcknowledge : Prop :=
  ∀ (p : Nat) (q : BitVec 12) (s : State), s.serving = true → s.portBuilt p = true → p < 8 →
    ((s.port p).rst = true → exec (.responseRelease p q) s = .next (s.done s) ∧ exec (.negativeAcknowledge p q) s = .next (s.done s)) ∧
    ((s.port p).rst = false → (s.port p).place q = none → exec (.responseRelease p q) s = .next (s.done s) ∧
      exec (.negativeAcknowledge p q) s = .next (s.done ((s.bump (Reg.HPT_NAKCNT_NAKS p)).set1 (Reg.HPT_EVT_NAK_RANGE p)))) ∧
    (∀ k, (s.port p).rst = false → (s.port p).place q = some k →
      (∃ u : State, exec (.responseRelease p q) s = .next (s.done u) ∧ (u.port p).sent = (s.port p).sent.drop (k + 1) ∧
        (u.port p).nakRun = 0 ∧ (u.port p).next = (s.port p).next ∧ (u.port p).ready = (s.port p).ready ∧
        (∀ j, j ≠ p → u.port j = s.port j) ∧ { u with ports := s.ports, regs := s.regs } = s) ∧
      (∃ u : State, exec (.negativeAcknowledge p q) s = .next (s.done u) ∧ (u.port p).sent = (s.port p).sent.drop k ∧
        (u.port p).rep = some 0 ∧ (u.port p).next = (s.port p).next ∧ (u.port p).ready = (s.port p).ready ∧
        u.fld (Reg.HPT_NAKCNT_NAKS p) = satAdd 16 (s.fld (Reg.HPT_NAKCNT_NAKS p)) 1 ∧
        (if (s.port p).nakSeq = some q ∧ (s.port p).nakRun = 7 then
          (u.port p).nakRun = 0 ∧ u.flag (Reg.HPT_EVT_NAK_LIMIT p) = true ∧ ∃ r ∈ u.fault.reports, r.src = 0x04
        else u.fault = s.fault) ∧
        (∀ j, j ≠ p → u.port j = s.port j) ∧ { u with ports := s.ports, regs := s.regs, fault := s.fault } = s))

/-- HP_RESET_RISE: the port is in reset, its ready and unreleased responses, credits, held flits and requests are gone, and
HPTn_EVT.PORT_RESET is set. HP_RESET_FALL: sequence numbers restart at 0, and the port has the credits due to it, none before MEM_READY has
risen (R60, R532). In SLEEP with no wake under way a rise is latched and only held flits are gone (R423). PANIC_RISE: every request of the
port and every queue entry of one is promoted, the rise counted and HPTn_PANSTAT.SEEN set; PANIC_FALL: none is promoted any more (R83, R84,
R105). -/
def Obligations.PortResetAndPanic : Prop :=
  ∀ (p : Nat) (s : State), s.serving = true → s.portBuilt p = true → p < 8 →
    (s.latches = false →
      (∃ u : State, exec (.hpResetRise p) s = .next (s.done u) ∧ u = s.portReset p ∧ (u.port p).rst = true ∧ (u.port p).ready = [] ∧
        (u.port p).sent = [] ∧ (u.port p).creds = 0 ∧ (u.port p).rqHeld = [] ∧ (u.port p).wdHeld = [] ∧ (∀ r ∈ u.reqs, r.org ≠ .port p) ∧
        u.flag (Reg.HPT_EVT_PORT_RESET p) = true) ∧
      (∃ u : State, exec (.hpResetFall p) s = .next (s.done u) ∧ (u.port p).rst = false ∧ (u.port p).next = 0 ∧
        (u.port p).creds = (if s.memRose then s.fld (Reg.HPT_WDCRD_ALLOC p) - s.linesOf p else 0) ∧
        (∀ j, j ≠ p → u.port j = s.port j) ∧ { u with ports := s.ports, outputs := s.outputs } = s)) ∧
    (s.latches = true →
      (∃ u : State, exec (.hpResetRise p) s = .next (s.done u) ∧ (u.port p).rst = true ∧ p ∈ u.power.resets ∧
        (u.port p).sent = (s.port p).sent ∧ { u with ports := s.ports, power := s.power } = s) ∧
      exec (.hpResetFall p) s = .next (s.done (s.setPort p { s.port p with rst := false }))) ∧
    ((s.port p).panic = false → ∃ u : State, exec (.panicRise p) s = .next (s.done u) ∧ (u.port p).panic = true ∧
      (∀ r ∈ u.reqs, r.org = .port p → r.promo = true) ∧ (∀ q ∈ u.qes, q.port = p → q.src = .host → q.promo = true) ∧
      u.flag (Reg.HPT_PANSTAT_SEEN p) = true ∧ u.fld (Reg.HPT_PANSTAT_RISES p) = satAdd 16 (s.fld (Reg.HPT_PANSTAT_RISES p)) 1) ∧
    ((s.port p).panic = true → ∃ u : State, exec (.panicFall p) s = .next (s.done u) ∧ (u.port p).panic = false ∧
      (∀ r ∈ u.reqs, r.org = .port p → r.promo = false) ∧ (∀ q ∈ u.qes, q.port = p → q.src = .host → q.promo = false) ∧
      u.flag (Reg.HPT_PANSTAT_SEEN p) = true) ∧
    ((s.port p).panic = true → exec (.panicRise p) s = .next (s.done s)) ∧
    ((s.port p).panic = false → exec (.panicFall p) s = .next (s.done s))

/-- ARBITER_GRANT. A dead line-slot that stands is used up and counted against its port (R76, R82). Otherwise the port with the earliest key
(`arbPick`) takes the line-slot and its request is decoded, the holder that loses it being counted in HPTn_ARBCNT.PREEMPT (R80); with no
request presented nobody holds the arbiter. -/
def Obligations.ArbiterGrants : Prop :=
  (∀ (d : Dead) (s : State), s.serving = true → s.arbDead = some d → s.deadStands d = true →
    exec .arbiterGrant s = .next (s.done ({ s with arbDead := none }.bump (Reg.HPT_ARBCNT_DEAD d.port)))) ∧
  (∀ (p : Nat) (r : Req) (s x : State), s.serving = true → s.arbDead = none → s.arbPick = some (p, r) →
    (s.arbHolder = none ∨ s.arbHolder = some p → x = { s with arbHolder := some p }.takeLineSlot p r →
      exec .arbiterGrant s = .next (s.done ((x.levels.takeHeldRq p (x.port p).rqHeld.length).touchIdle))) ∧
    (∀ h : Nat, s.arbHolder = some h → h ≠ p → (s.presents h).isSome = true →
      x = { s.bump (Reg.HPT_ARBCNT_PREEMPT h) with arbHolder := some p }.takeLineSlot p r →
      exec .arbiterGrant s = .next (s.done ((x.levels.takeHeldRq p (x.port p).rqHeld.length).touchIdle)))) ∧
  (∀ s : State, s.serving = true → s.arbDead = none → s.arbPick = none → exec .arbiterGrant s = .next (s.done { s with arbHolder := none }))

/-- DEADLINE_CLAMP of a request that has not left the tile: Tempo stands 2^37 + 1 ns after its deadline or later, and the request and its queue
entries are marked; nothing else changes (R79). LOCK_TIMEOUT of an entry in use: Tempo stands at its limit, TMO after its acquire time, or
later, and the lock is broken with LOCKEVT.TMO_BRK and source 0x03 (R94, R95); an entry not in use has none. -/
def Obligations.TempoReachesHostLimits : Prop :=
  (∀ (rid : Nat) (r : Req) (s : State), s.serving = true → s.reqs.find? (fun r => r.rid == rid) = some r → r.clamped = false →
    r.stage ≠ .answered ∨ s.qes.any (fun q => q.rid == rid && q.ofWrite && !q.clamped) = true →
    ∃ u : State, exec (.deadlineClamp rid) s = .next (s.done u) ∧ (∀ x ∈ u.reqs, x.rid = rid → x.clamped = true) ∧
      (∀ x ∈ u.qes, x.rid = rid → x.clamped = true) ∧ reached u.tempo (r.dl + ns (2 ^ 37 + 1)) = true ∧
      { u with reqs := s.reqs, qes := s.qes, tempo := s.tempo, wraps := s.wraps } = s) ∧
  (∀ (i : Nat) (s : State), s.serving = true →
    (∀ l : Lock, tget none s.locks i = some l →
      exec (.lockTimeout i) s = .next (s.done ((s.advanceTo (l.acq + ns (1000 * l.tmo))).breakLock i Reg.GLOB_LOCKEVT_TMO_BRK 0x03))) ∧
    (tget none s.locks i = none → exec (.lockTimeout i) s = .next (s.done s)))

/-- PROPOSAL_PLACE outside SLEEP and HALT: on a running lattice, once the proxy's and the training rows' accesses are placed, the window is
filled (`placeAll`), and a lone candidate of a subchannel whose window is empty becomes its one proposal (R163, R175). In SLEEP and HALT
nothing is placed. -/
def Obligations.LoneCandidateIsProposed : Prop :=
  (∀ (sc : Nat) (c : Cand) (s x y : State), s.serving = true → s.subBuilt sc = true → s.mode ≠ .sleep → s.mode ≠ .halt → s.chUp (sc / 2) = true →
    (s.proxy sc).latticeOn (sc / 2) = true → x = ((s.proxy sc).trainPoint sc 0).trainPoint sc 1 →
    y = (((x.drainEnd sc).turnRound sc).yieldTrain sc).withdrawRefresh sc →
    exec (.proposalPlace sc) s = .next (s.done (x.placeAll sc)) ∧
    (y.cands sc = [c] → (y.sub sc).window = [] → ((x.placeAll sc).sub sc).window = [c.p])) ∧
  (∀ (sc : Nat) (s : State), s.serving = true → s.subBuilt sc = true → s.mode = .sleep ∨ s.mode = .halt →
    exec (.proposalPlace sc) s = .next (s.done s))

/-- LATTICE_TICK of a running lattice advances its tick counter by one, and of one that does not run changes nothing (R203, R204).
PROPOSAL_LIFE_EXPIRY takes from the window exactly the proposals considered PLIFE times, each with a REFUSE verdict of its last reason
(R164). DRAIN_START at WHI writes begins a batch drain and counts it (R177). RT_BUCKET_REFILL: a microsecond after the last the bucket holds
what RATE has given it since it was last brought up to date, DEPTH at most (R186). GAMBIT_IDLE_TIMEOUT of a bank with no candidate proposes
the precharge of its open row with the timer's time as its deadline; a candidate of the bank ends the timer (R184). -/
def Obligations.SchedulerTimeEvents : Prop :=
  (∀ (sc : Nat) (s : State), s.serving = true → s.subBuilt sc = true →
    (s.latticeOn (sc / 2) = true → ∃ u : State, exec (.latticeTick sc) s = .next (s.done u) ∧ (u.sub sc).tick = (s.sub sc).tick + 1) ∧
    (s.latticeOn (sc / 2) = false → exec (.latticeTick sc) s = .next (s.done s)) ∧
    (∃ u : State, exec (.proposalLifeExpiry sc) s = .next (s.done u) ∧
      (u.sub sc).window = (s.sub sc).window.filter (fun p => !decide (s.plife ≤ p.seen)) ∧
      (u.sub sc).verdicts = (s.sub sc).verdicts ++ ((s.sub sc).window.filter (fun p => decide (s.plife ≤ p.seen))).map
        (fun p => ⟨false, p.tag, p.cmd, p.rk, p.bk, p.row, 0, 0, p.why, p.nb⟩) ∧ { u with subs := s.subs } = s) ∧
    (s.latticeOn (sc / 2) = true → (s.sub sc).drain = .read → s.fld Reg.SCHD_WDRN_WHI ≤ (s.writesOf sc).length →
      ∃ u : State, exec (.drainStart sc) s = .next (s.done u) ∧ (u.sub sc).drain = .batch ∧ (u.sub sc).breaks = 0 ∧
        u.fld Reg.SCHD_CNT1_DRAIN = satAdd 8 (s.fld Reg.SCHD_CNT1_DRAIN) 1) ∧
    (∃ u : State, exec (.rtBucketRefill sc) s = .next (s.done u) ∧ s.timer (tmrBucket sc) + 1000 ≤ u.longTime ∧
      u.timer (tmrBucket sc) = s.timer (tmrBucket sc) + 1000 ∧ (u.sub sc).bktAt = u.longTime ∧
      (u.sub sc).bucket = min s.bucketDepth ((s.sub sc).bucket +
        ((s.sub sc).bktFrac + s.fld Reg.SCHD_RTADM_RATE * (u.longTime - (s.sub sc).bktAt)) / 1000) ∧
      { u with subs := s.subs, tempo := s.tempo, wraps := s.wraps, timers := s.timers } = s)) ∧
  (∀ (b row : Nat) (d : Tempo) (s x : State), s.serving = true → s.engBuilt b = true → (s.eng b).idle = some d → (s.eng b).row = some row →
    x = s.advanceTo d →
    (x.qes.any (fun q => q.loc.eng == b && x.phaseCand (b / 64) q) = true →
      exec (.gambitIdleTimeout b) s = .next (s.done (x.setEng b { s.eng b with idle := none }))) ∧
    (x.qes.any (fun q => q.loc.eng == b && x.phaseCand (b / 64) q) = false → (s.eng b).outstanding = false →
      (s.sub (b / 64)).window.length < 8 → s.latticeOn (b / 64 / 2) = true →
      ∃ (u : State) (p : Proposal), exec (.gambitIdleTimeout b) s = .next (s.done u) ∧
        (u.sub (b / 64)).window = (s.sub (b / 64)).window ++ [p] ∧ p.cmd = .pre ∧ p.rk = (b / 32) % 2 ∧ p.bk = b % 32 ∧ p.row = row ∧
        p.dl = d ∧ p.top = false))

/-- ACCEPT and REFUSE: the oldest verdict of its kind reaches the bank engine, whose next proposal may go out. An accepted column command's
entry is accepted, another's waits for its next command, and the engine records the row an ACT opens and that a PRE, RDA or WRA closes; a
refused entry is a candidate again, not before the tick the verdict names, and SCHD_CNT0.REFUSE counts it (R165, R167, R168, R180). Without
such a verdict nothing changes. -/
def Obligations.VerdictsReachTheEngine : Prop :=
  ∀ (sc : Nat) (v : Verdict) (s : State), s.serving = true → s.subBuilt sc = true →
    ((s.sub sc).verdicts.find? (fun v => v.accept == true) = some v → ∃ u : State, exec (.accept sc) s = .next (s.done u) ∧
      (u.sub sc).verdicts = (s.sub sc).verdicts.erase v ∧ (∀ q ∈ u.qes, q.tag = v.tag → q.stage = if v.cmd.isCol then .accepted else .wait) ∧
      (v.cmd ≠ .mrr → v.cmd ≠ .mrw → (u.eng (engOf sc v.rk v.bk)).outstanding = false) ∧
      (v.cmd = .act → (u.eng (engOf sc v.rk v.bk)).row = some v.row) ∧
      (v.cmd = .pre ∨ v.cmd = .rda ∨ v.cmd = .wra → (u.eng (engOf sc v.rk v.bk)).row = none) ∧
      { u with subs := s.subs, engs := s.engs, qes := s.qes } = s) ∧
    ((s.sub sc).verdicts.find? (fun v => v.accept == false) = some v → ∃ u : State, exec (.refuse sc) s = .next (s.done u) ∧
      (u.sub sc).verdicts = (s.sub sc).verdicts.erase v ∧ (∀ q ∈ u.qes, q.tag = v.tag → q.stage = .wait ∧ q.e = v.nxt) ∧
      (v.cmd ≠ .mrr → v.cmd ≠ .mrw → (u.eng (engOf sc v.rk v.bk)).outstanding = false) ∧
      u.fld Reg.SCHD_CNT0_REFUSE = satAdd 16 (s.fld Reg.SCHD_CNT0_REFUSE) 1 ∧
      { u with subs := s.subs, engs := s.engs, qes := s.qes, groups := s.groups, regs := s.regs, fault := s.fault } = s) ∧
    ((s.sub sc).verdicts.find? (fun v => v.accept == true) = none → exec (.accept sc) s = .next (s.done s)) ∧
    ((s.sub sc).verdicts.find? (fun v => v.accept == false) = none → exec (.refuse sc) s = .next (s.done s))

/-- COMMAND_ISSUE: the accepted command with the earliest slot leaves at the pins and is accepted no more. A row, refresh or self-refresh
command does nothing else; a read waits for its data under the erasure mark of that moment; a write goes on as its entry says; a mode register
is set; a ZQ calibration begins or ends (R204, R214, R215, R223, R280). With nothing accepted nothing changes. -/
def Obligations.EarliestSlotIssues : Prop :=
  (∀ (sc : Nat) (i : Issue) (upset : LineData) (s w : State), s.serving = true → s.subBuilt sc = true → (s.sub sc).nextIssue = some i →
    w = (s.setSub sc { s.sub sc with accepted := (s.sub sc).accepted.erase i }).emit (sentCmd sc i.cmd i.rk i.bk i.row i.col) →
    (i ∈ (s.sub sc).accepted ∧ ∀ j ∈ (s.sub sc).accepted, i.slot ≤ j.slot) ∧
    (i.cmd ∈ [.act, .pre, .preab, .refab, .refsb, .rfmab, .rfmsb, .sre, .srx] → exec (.commandIssue sc upset) s = .next (s.done w)) ∧
    (i.cmd = .rd ∨ i.cmd = .rda → ∃ u : State, exec (.commandIssue sc upset) s = .next (s.done u) ∧ u.outputs = w.outputs ∧
      (u.sub sc).reading = (s.sub sc).reading ++ [{ i with er := w.erNow sc i.rk }] ∧ ∀ q ∈ u.qes, q.tag = i.tag → q.stage = .issued) ∧
    (i.cmd = .wr ∨ i.cmd = .wra → exec (.commandIssue sc upset) s = .next (s.done (w.issueWrite sc i upset))) ∧
    (i.cmd = .mrr → exec (.commandIssue sc upset) s = .next (s.done (w.setSub sc { w.sub sc with reading := (w.sub sc).reading ++ [{ i with er := 0 }] }))) ∧
    (i.cmd = .mrw → exec (.commandIssue sc upset) s = .next (s.done (w.emit (.modeSet sc i.rk i.ma i.val)))) ∧
    (i.cmd = .zqs ∨ i.cmd = .zql → exec (.commandIssue sc upset) s = .next (s.done (w.zqIssued sc i)))) ∧
  (∀ (sc : Nat) (upset : LineData) (s : State), s.serving = true → s.subBuilt sc = true → (s.sub sc).accepted = [] →
    exec (.commandIssue sc upset) s = .next (s.done s))

/-- READ_DATA_RETURN decodes the burst of the oldest read of its subchannel (R277), and a mode register read's bytes reach their register.
WRITE_ALERT_WINDOW_CLOSE: the lattice stands at the end of the oldest open window or later, and its write counts as issued (R87, R217). With
no read and no window open nothing changes. -/
def Obligations.OldestReadAndWindowEnd : Prop :=
  (∀ (sc : Nat) (i : Issue) (q : QE) (rest : List Issue) (s x : State), s.serving = true → s.subBuilt sc = true →
    ((s.sub sc).reading = i :: rest → x = s.setSub sc { s.sub sc with reading := rest } → ∀ burst : Burst,
      (i.cmd = .mrr → exec (.readDataReturn sc burst) s = .next (s.done (x.mrrIn sc i burst).settleAll)) ∧
      (i.cmd ≠ .mrr → s.qe? i.tag = some q → q.retries = 0 →
        exec (.readDataReturn sc burst) s = .next (s.done ((x.burstIn sc i q burst).checkFlush.settleAll))) ∧
      (i.cmd ≠ .mrr → s.qe? i.tag = some q → q.retries ≠ 0 →
        exec (.readDataReturn sc burst) s = .next (s.done (((x.burstIn sc i q burst).epResume (sc / 2)).checkFlush.settleAll)))) ∧
    ((s.sub sc).alertWin = i :: rest → x = (s.setSub sc { s.sub sc with alertWin := rest }).tickTo sc (s.timg.alertEnd i.slot) 4096 →
      x.qe? i.tag = some q → exec (.writeAlertWindowClose sc) s = .next (s.done (((x.windowClosed q).drainEnd sc).settleAll)))) ∧
  (∀ (sc : Nat) (burst : Burst) (s : State), s.serving = true → s.subBuilt sc = true →
    ((s.sub sc).reading = [] → exec (.readDataReturn sc burst) s = .next (s.done s)) ∧
    ((s.sub sc).alertWin = [] → exec (.writeAlertWindowClose sc) s = .next (s.done s)))

/-- MRCMD_MRR and MRCMD_MRW on a free TIMG page with no command in progress: where nothing aborts it, GO reads 1, and a proposal with the mode
register's number and value waits for the subchannel's window; otherwise GO reads 0 and TIMG_EVT.MR_ABORT is set (R222, R235).
ZQCAL_START_DUE of an awake rank that is not being calibrated places its ZQCal Start among the lattice's sequence commands, where it waits
while the channel's other rank calibrates; ZQCAL_LATCH_DUE places the Latch of a started calibration. Tempo stands at the time due or later,
and nothing else changes (R223). -/
def Obligations.ModeRegisterAndZqCommands : Prop :=
  (∀ (agent : BitVec 4) (ch : BitVec 2) (sck rk : Bool) (ma wdata : BitVec 8) (s : State), s.pageFree agent 0x11 → s.flag Reg.TIMG_MRCMD_GO = false →
    (s.mrAborts false ch.toNat (b2n sck) (b2n rk) ma.toNat = false → ∃ u : State, exec (.mrcmdMrr agent ch sck rk ma) s = .next (keepPins s u) ∧
      u.flag Reg.TIMG_MRCMD_GO = true ∧ (u.sub (2 * ch.toNat + b2n sck)).maint = (s.sub (2 * ch.toNat + b2n sck)).maint ++
        [⟨s.nextTag, .mrr, b2n rk, 0, 0, false, s.tempo + ns 10000, ma.toNat, 0, 0, false⟩]) ∧
    (s.mrAborts true ch.toNat (b2n sck) (b2n rk) ma.toNat = false → ∃ u : State, exec (.mrcmdMrw agent ch sck rk ma wdata) s = .next (keepPins s u) ∧
      u.flag Reg.TIMG_MRCMD_GO = true ∧ (u.sub (2 * ch.toNat + b2n sck)).maint = (s.sub (2 * ch.toNat + b2n sck)).maint ++
        [⟨s.nextTag, .mrw, b2n rk, 0, 0, false, s.tempo + ns 10000, ma.toNat, wdata.toNat, 0, false⟩]) ∧
    (s.mrAborts false ch.toNat (b2n sck) (b2n rk) ma.toNat = true → ∃ u : State, exec (.mrcmdMrr agent ch sck rk ma) s = .next (keepPins s u) ∧
      u.flag Reg.TIMG_MRCMD_GO = false ∧ u.flag Reg.TIMG_EVT_MR_ABORT = true ∧ u.subs = s.subs) ∧
    (s.mrAborts true ch.toNat (b2n sck) (b2n rk) ma.toNat = true → ∃ u : State, exec (.mrcmdMrw agent ch sck rk ma wdata) s = .next (keepPins s u) ∧
      u.flag Reg.TIMG_MRCMD_GO = false ∧ u.flag Reg.TIMG_EVT_MR_ABORT = true ∧ u.subs = s.subs)) ∧
  (∀ (sc : Nat) (rk : Fin 2) (s : State), s.serving = true → s.subBuilt sc = true →
    (s.dramUp (sc / 2) = true → s.rankAwake sc rk.val = true → (s.sub sc).calibrating rk.val = false →
      exec (.zqcalStartDue sc rk) s = .next (s.done ((s.advanceTo (tget 0 (s.sub sc).zqStart rk.val + ns s.zqInt)).setSub sc
        { s.sub sc with seqs := (s.sub sc).seqs ++ [seqStep (some .zqs) rk.val 0 (some 0) 1] }))) ∧
    ((s.sub sc).zqLatch.contains rk.val = true → (s.sub sc).hasSeq .zql rk.val = false →
      exec (.zqcalLatchDue sc rk) s = .next (s.done
        ((s.advanceTo (tget 0 (s.sub sc).zqStart rk.val + ns (s.fld Reg.TIMG_ZQ_ZQCAL))).setSub sc
          { s.sub sc with seqs := (s.sub sc).seqs ++ [seqStep (some .zql) rk.val 0 (some 0) 1] }))))

/-- REFRESH_INCREMENT of a running group of an awake rank raises its debt by one at the group's next increment; past the largest postponement
the debt stops at one above it, REF_LATE is set and a fault report is made (R239, R240, R242). MR4_POLL with TEMP_EN 1 proposes a read of
mode register 4 for every awake rank of a channel whose DRAM is initialized, and comes due again 16 ms later; with TEMP_EN 0 it does nothing
(R244). -/
def Obligations.RefreshAndTemperature : Prop :=
  (∀ (sc : Nat) (rk : Fin 2) (j : Fin 4) (s : State), s.serving = true → s.subBuilt sc = true →
    (s.group (groupKey sc rk.val j.val)).running = true → s.dramUp (sc / 2) = true → s.rankAwake sc rk.val = true → j.val < s.groupsPer (sc / 2) →
    ∃ u : State, exec (.refreshIncrement sc rk j) s = .next (s.done u) ∧
      { u with tempo := s.tempo, wraps := s.wraps, groups := s.groups, regs := s.regs, fault := s.fault } = s ∧
      (u.group (groupKey sc rk.val j.val)).prevInc = (s.group (groupKey sc rk.val j.val)).prevInc + ns (s.trefi (2 * (sc / 2) + rk.val)) ∧
      ((s.group (groupKey sc rk.val j.val)).debt < s.refP' →
        (u.group (groupKey sc rk.val j.val)).debt = (s.group (groupKey sc rk.val j.val)).debt + 1 ∧ u.regs = s.regs ∧ u.fault = s.fault) ∧
      ((s.refP' : Int) ≤ (s.group (groupKey sc rk.val j.val)).debt →
        (u.group (groupKey sc rk.val j.val)).debt = s.refP' + 1 ∧ u.flag Reg.REFD_EVT_REF_LATE = true ∧ ∃ r ∈ u.fault.reports, r.src = 0x0C)) ∧
  (∀ s : State, s.serving = true →
    (s.flag Reg.REFD_RCTL_TEMP_EN = false → exec .mr4Poll s = .next (s.done s)) ∧
    (s.flag Reg.REFD_RCTL_TEMP_EN = true → ∃ u : State, exec .mr4Poll s = .next (s.done u) ∧
      u.timer tmrMr4 = s.timer tmrMr4 + 16000000 ∧
      (s.mode ≠ .halt → ∀ sc < 8, ∀ rk ∈ s.ranks (sc / 2), s.dramUp (sc / 2) = true → s.rankAwake sc rk = true →
        ∃ m ∈ (u.sub sc).maint, m.cmd = .mrr ∧ m.rk = rk ∧ m.ma = 4 ∧ m.kind = 1 ∧ m.placed = false) ∧
      { u with subs := s.subs, nextTag := s.nextTag, timers := s.timers, tempo := s.tempo, wraps := s.wraps } = s))

/-- ALERT_N on a channel that listens, where no rank's mode registers explain it: the module's status is read, ALERT_UNK is set and a fault
report is made; on one that does not listen it does nothing (R255). PAR_WIN_EXPIRY: the oldest uncorrectable read of a subchannel whose
parity window is over is repaired from the other copy of its line where it has one that can be read and RR_EN is 1, and is otherwise counted,
reported and answered UE (R256, R277, R313). -/
def Obligations.AlertAndParityWindow : Prop :=
  (∀ (c : Nat) (s : State), s.serving = true → s.chanBuilt c = true →
    (s.alertOn c = true → ∃ w : State, exec (.alertN c []) s = .next (s.done w.settleAll) ∧
      w.flag Reg.REFD_EVT_ALERT_UNK = true ∧ (∃ r ∈ w.fault.reports, r.src = 0x11) ∧ .moduleStatus c ∈ w.outputs) ∧
    (s.alertOn c = false → ∀ reps : List AlertRep, exec (.alertN c reps) s = .next (s.done s))) ∧
  (∀ (sc : Nat) (q : QE) (mis : Bool) (rest : List (Nat × Bool)) (s w : State), s.serving = true → s.subBuilt sc = true →
    (s.sub sc).parWait = (q.tag, mis) :: rest → s.qe? q.tag = some q → w = s.setSub sc { s.sub sc with parWait := rest } →
    ((w.flag Reg.RPMR_CFG_RR_EN && w.copyUp q.loc.ch q.mir) = false →
      exec (.parWinExpiry sc) s = .next (s.done (((w.countBad q mis).finishRead q .ue zeroLine).settleAll))) ∧
    ((w.flag Reg.RPMR_CFG_RR_EN && w.copyUp q.loc.ch q.mir) = true →
      exec (.parWinExpiry sc) s = .next (s.done ((w.startRepair { q with grp := if mis then 1 else 0 } q.mir q.mtile).settleAll))))

/-- SCRUB_LINE_DUE of a channel in a pass: Tempo stands at the time the line of ECCS_SCRPOS may be visited or later. The line is visited with a
read of the tile's own and the scrubber moves on; a line above the fill watermark or busy is passed over; on a rank under an En Passant mark
the scrubber yields (R282, R284, R381). SCRUB_PASS_START begins a pass at line 0, at or after the end of the period of the one before (R281,
R284). TRACKER_WINDOW_EXPIRY frees its tracker entry and no other (R286); DEVICE_COUNT_DECAY lowers every non-zero device count by 1 (R288). -/
def Obligations.ScrubTrackerAndDecay : Prop :=
  (∀ (c l : Nat) (s x y : State), s.serving = true → s.chanBuilt c = true → s.flag Reg.ECCS_SCRB_EN = true → s.ownWork = true → s.chUp c = true →
    l = s.fld (Reg.ECCS_SCRPOS_POS c) → x = s.advanceLong (s.scrubDue c l) →
    y = (x.setScrub c { s.scrubOf c with last := x.longTime }).nextScrub c l →
    ((s.scrubOf c).running = true → (s.scrubOf c).busy = false → s.scrubDue c l ≤ x.longTime ∧
      (∀ e, x.erase? (ersIdx (x.placeOf c l).sc (x.placeOf c l).rk) = some e → e.src = 1 → exec (.scrubLineDue c) s = .next (s.done x)) ∧
      ((∀ e, x.erase? (ersIdx (x.placeOf c l).sc (x.placeOf c l).rk) = some e → e.src ≠ 1) →
        (x.fld (Reg.GLOB_FILLWM_WM c) ≤ l ∨ x.scrubSkips (x.placeOf c l) = true → exec (.scrubLineDue c) s = .next (s.done y)) ∧
        (l < x.fld (Reg.GLOB_FILLWM_WM c) → x.scrubSkips (x.placeOf c l) = false →
          ∃ u : State, exec (.scrubLineDue c) s = .next (s.done u) ∧ (u.scrubOf c).busy = true ∧
            (∃ q ∈ u.qes, q.src = .scrub ∧ q.wr = false ∧ q.loc = x.placeOf c l) ∧ u.regs = y.regs))) ∧
    ((s.scrubOf c).running = false → ∃ u : State, exec (.scrubPassStart c) s = .next (s.done u) ∧ (u.scrubOf c).running = true ∧
      (u.scrubOf c).start = u.longTime ∧ (s.scrubOf c).start + (s.scrubOf c).period ≤ u.longTime ∧ u.fld (Reg.ECCS_SCRPOS_POS c) = 0)) ∧
  (∀ (c l : Nat) (x : State), l + 1 < (x.chDec c).capacity → l + 1 < 2 ^ 32 → (x.nextScrub c l).fld (Reg.ECCS_SCRPOS_POS c) = l + 1) ∧
  ((∀ (i : Nat) (t : Track) (s : State), s.serving = true → s.track? i = some t → ∃ u : State, exec (.trackerWindowExpiry i) s = .next (s.done u) ∧
    u.track? i = none ∧ ∀ j, j ≠ i → u.track? j = s.track? j) ∧
  (∀ s : State, s.serving = true → s.fld Reg.ECCS_DEVCFG_DECAY ≠ 0 → Tab.wf (fun _ => 0) s.repair.devCnt = true →
    ∃ u : State, exec .deviceCountDecay s = .next (s.done u) ∧ ∀ i g, u.devCount i g = s.devCount i g - 1))

/-- The writes of the integrity and repair pages that have a row of their own, on a page no other agent claims. ECCS_INJ with a group the
line has arms the injection, with another group does not. RPMR_RMREQ of a row that is not to be remapped proposes it for the PPR list, of one
that is begins its copy to a spare row, GO reading 1. RPMR_ERSREQ erases a lane group of an unmarked rank for good. RPMR_MCTL.RETIRE retires
a channel that serves no entry, and does nothing to one that serves an entry (R290, R298, R304-R306, R309, R320). -/
def Obligations.RepairRequestsAct : Prop :=
  (∀ (agent : BitVec 4) (x : Word) (s : State), s.pageFree agent 0x14 → ∃ u : State, exec (.eccsInjArm agent x) s = .next (keepPins s u.okAck) ∧
    u.flag Reg.ECCS_INJ_ARM = decide (Reg.ECCS_INJ_GROUP.get x ≤ 9) ∧ u.fld Reg.ECCS_INJ_GROUP = Reg.ECCS_INJ_GROUP.get x) ∧
  (∀ (agent : BitVec 4) (ch : BitVec 2) (sck rk : Bool) (bank : BitVec 5) (row : BitVec 18) (i : Nat) (r : RowId) (s : State),
    s.pageFree agent 0x15 → s.chUp ch.toNat = true → r = ⟨ch.toNat, b2n sck, b2n rk, bank.toNat, row.toNat⟩ →
    (s.fbit Reg.RPMR_CFG_CRIT ch.toNat = false → s.inPprList r = false →
      (List.range 16).find? (fun i => (tget none s.repair.props i).isNone) = some i →
      ∃ u : State, exec (.rmreq agent ch sck rk bank row) s = .next (s.done u.okAck) ∧ tget none u.repair.props i = some ⟨r, 2, 0x3FF⟩ ∧
        u.flag Reg.RPMR_EVT_PROP = true) ∧
    (∀ sp : Nat, s.fbit Reg.RPMR_CFG_CRIT ch.toNat = true → s.flag Reg.RPMR_CFG_RM_EN = true →
      (s.repair.remap.filterMap (·.2)).any (fun m => m.id == r) = false →
      (List.range 16).find? (fun i => (tget none s.repair.remap i).isNone) = some i → s.freeSpare r = some sp →
      ∃ u : State, exec (.rmreq agent ch sck rk bank row) s = .next (s.done u.okAck) ∧
        tget none u.repair.remap i = some ⟨r, sp, false, true, r.row⟩)) ∧
  (∀ (agent : BitVec 4) (ch : BitVec 2) (sck rk : Bool) (grp : BitVec 4) (s : State), s.pageFree agent 0x15 → s.chUp ch.toNat = true →
    grp.toNat ≤ 9 → s.erase? (ersIdx (2 * ch.toNat + b2n sck) (b2n rk)) = none →
    ∃ w : State, exec (.ersreq agent ch sck rk grp) s = .next (s.done ((w.clr Reg.RPMR_ERSREQ_GO).fillSettle.wakeWork.okAck)) ∧
      w.erase? (ersIdx (2 * ch.toNat + b2n sck) (b2n rk)) = some ⟨0, grp.toNat⟩ ∧ w.flag Reg.RPMR_EVT_ERASED = true ∧
      ∃ r ∈ w.fault.reports, r.src = 0x1A) ∧
  (∀ (agent : BitVec 4) (c : Fin 4) (s : State), s.pageFree agent 0x15 → s.chUp c.val = true →
    (s.sharesOf c.val = [] → s.secondSharesOf c.val = [] →
      ∃ w : State, exec (.retire agent (BitVec.ofNat 4 (2 ^ c.val))) s = .next (s.done (w.fillSettle.wakeWork.okAck)) ∧ w.chState c.val = 3) ∧
    (s.sharesOf c.val ≠ [] → exec (.retire agent (BitVec.ofNat 4 (2 ^ c.val))) s = .next (s.done (s.fillSettle.wakeWork.okAck))))

/-- CASTLE of a channel that serves goes to the failure of that channel, with firmware's consent recorded while it is settled, or, where
the peer tile of its mirrored shares is awaited, to the loss of that peer (R316, R317, R325). REMAP_COPY_COMPLETE: once nothing of the
bank is under way the entry being copied becomes valid, with source 0x18 and RPMR_EVT.REMAP; while something is, it does nothing (R306,
R321). -/
def Obligations.CastleAndRemap : Prop :=
  (∀ (agent : BitVec 4) (c : Fin 4) (s a : State), s.pageFree agent 0x15 → s.chUp c.val = true →
    a = { s with repair := { s.repair with asked := s.repair.asked.filter (· != c.val) ++ [c.val] } } →
    ∃ w : State, exec (.castle agent (BitVec.ofNat 4 (2 ^ c.val))) s = .next (s.done (w.fillSettle.wakeWork.okAck)) ∧
      { w with repair := { w.repair with asked := [] } } =
        (let x := if s.repair.peerWait && s.crossChannels.contains c.val then a.losePeer else a.chanFails c.val true
         { x with repair := { x.repair with asked := [] } })) ∧
  (∀ (i : Nat) (m : Remap) (rows mirror : List Burst) (s : State), s.serving = true → tget none s.repair.remap i = some m → m.copy = true →
    (s.copyWaits m.id = false → s.latticeOn m.id.ch = true →
      ∃ u : State, exec (.remapCopyComplete i rows mirror) s = .next (s.done u) ∧
        tget none u.repair.remap i = some { m with vld := true, copy := false } ∧ u.flag Reg.RPMR_EVT_REMAP = true ∧
        ∃ r ∈ u.fault.reports, r.src = 0x18) ∧
    (s.copyWaits m.id = true → exec (.remapCopyComplete i rows mirror) s = .next (s.done s)))

/-- The PLL of a channel. PLL_LOCK of one that is being enabled: CHNn_PLL.LOCK reads 1, both tick counters are cleared in BRINGUP and SLEEP and
go on elsewhere, and a relock goes on to its check (R203, R337, R338). PLL_LOCK_TIMEOUT, 20 µs after enable: a second attempt follows the
first; after the second a relock fails the channel, slice S4 leaves the PLL off, and in BRINGUP the channel fails with reason 5; a wake has
one attempt (R339, R426, R455, R469). PLL_LOSS_OF_LOCK of a trained channel in service begins a relock. RELOCK_CHECK_DONE that finds every
gate and lane group ends it, one that does not fails the channel (R338, R339). On a PLL that is not being enabled, or not locked, or a channel
that no check is due for, these do nothing. -/
def Obligations.PllLocksTimesOutAndRelocks : Prop :=
  ∀ (c : Nat) (s x : State), s.serving = true → s.chanBuilt c = true → x = s.advanceTo (s.pllDeadline c) →
    ((s.phy c).pll = .first ∨ (s.phy c).pll = .second →
      (∃ u : State, exec (.pllLock c) s = .next (s.done u) ∧ (u.phy c).pll = .locked ∧ u.flag (Reg.CHN_PLL_LOCK c) = true ∧
        (u.phy c).relock = (if (s.phy c).relock = 0 then 0 else 3) ∧
        ∀ sc ∈ [2 * c, 2 * c + 1], (u.sub sc).tick = if s.mode = .bringup ∨ s.mode = .sleep then 0 else (s.sub sc).tick) ∧
      (s.power.sleep = .waking → exec (.pllLockTimeout c) s = .next (s.done (x.wakePllFails c)))) ∧
    (s.power.sleep ≠ .waking →
      ((s.phy c).pll = .first → ∃ u : State, exec (.pllLockTimeout c) s = .next (s.done u) ∧
        (u.phy c).pll = .second ∧ (u.phy c).relock = if (s.phy c).relock = 1 then 2 else (s.phy c).relock) ∧
      ((s.phy c).pll = .second → (s.phy c).relock ≠ 0 →
        exec (.pllLockTimeout c) s = .next (s.done (((x.setPhy c { s.phy c with pll := .off }).relockFails c false).fillSettle))) ∧
      ((s.phy c).pll = .second → (s.phy c).relock = 0 → s.inS4 = true →
        exec (.pllLockTimeout c) s = .next (s.done (x.setPhy c { s.phy c with pll := .off }))) ∧
      ((s.phy c).pll = .second → (s.phy c).relock = 0 → s.inS4 = false →
        exec (.pllLockTimeout c) s = .next (s.done ((x.bringFail c 5).trainEnd)))) ∧
    ((s.phy c).pll ≠ .first → (s.phy c).pll ≠ .second →
      exec (.pllLock c) s = .next (s.done s) ∧ exec (.pllLockTimeout c) s = .next (s.done s)) ∧
    ((s.phy c).pll = .locked → (s.phy c).phase = .passed → s.chUp c = true → s.inService = true →
      ∃ u : State, exec (.pllLossOfLock c) s = .next (s.done u) ∧ (u.phy c).pll = .first ∧ (u.phy c).relock = 1 ∧
        u.flag (Reg.CHN_PLL_LOCK c) = false) ∧
    ((s.phy c).pll ≠ .locked → exec (.pllLossOfLock c) s = .next (s.done s)) ∧
    (∀ runs : List LaneRun, (s.phy c).relock = 3 →
      ((∀ k < 2, ∀ rk ∈ s.ranks c, ∀ g < 10, ∃ r ∈ runs, r.lane = laneKey k rk g ∧ r.first ≤ -8 ∧ 8 ≤ r.last) →
        ∃ u : State, exec (.relockCheckDone c true runs) s = .next (s.done u) ∧ (u.phy c).relock = 0 ∧ (u.phy c).pll = (s.phy c).pll) ∧
      exec (.relockCheckDone c false runs) s = .next (s.done (s.relockFails c true))) ∧
    (∀ (gates : Bool) (runs : List LaneRun), (s.phy c).relock ≠ 3 → exec (.relockCheckDone c gates runs) s = .next (s.done s))

/-- A PHY's impedance calibration shows its codes and DONE in CHNn_ZQ, a code at either end of its range being an error: the first of start-up
at once (`zqCodes`), those every ZQ_INT in a gap open on both subchannels, until when they wait (R340). TEMP_SAMPLE of a powered sensor: the
sample, held within the sensor's range, joins the sixteen kept and is shown in CHNn_TEMP (R342). IDLE_GAP_TRIM_APPLY in an open gap applies
every trim that waits on the subchannel, and otherwise none. GAP_INSERT with trims that wait, no gap being inserted and no admitted line in the
window, holds new column commands and counts in BOOK_CNT2.GAPINS (R365-R367). -/
def Obligations.PhyCalibrationSamplesAndGaps : Prop :=
  (∀ (c : Nat) (pu pd : BitVec 6) (s : State), s.serving = true → s.chanBuilt c = true →
    ((s.zqCodes c pu.toNat pd.toNat).fld (Reg.CHN_ZQ_PU c) = pu.toNat ∧ (s.zqCodes c pu.toNat pd.toNat).fld (Reg.CHN_ZQ_PD c) = pd.toNat ∧
      (s.zqCodes c pu.toNat pd.toNat).flag (Reg.CHN_ZQ_DONE c) = true ∧
      (s.zqCodes c pu.toNat pd.toNat).flag (Reg.CHN_ZQ_ERR c) = (pu == 0 || pu == 63 || pd == 0 || pd == 63)) ∧
    ((s.phy c).phase = .powered →
      exec (.phyImpedanceCalibrationDone c pu pd) s = .next (s.done ((s.zqCodes c pu.toNat pd.toNat).tryRelease c))) ∧
    ((s.phy c).phase ≠ .powered → exec (.phyImpedanceCalibrationDone c pu pd) s = .next (s.done s)) ∧
    (s.latticeOn c = true → s.flag (Reg.CHN_ZQ_DONE c) = true → ∃ u : State, exec (.phyZqRecal c pu pd) s = .next (s.done u) ∧
      (if s.gapOpen (2 * c) && s.gapOpen (2 * c + 1) then (u.phy c).zqNew = none ∧ u.regs = (s.zqCodes c pu.toNat pd.toNat).regs
       else (u.phy c).zqNew = some (pu.toNat, pd.toNat) ∧ u.regs = s.regs)) ∧
    (s.latticeOn c = false → exec (.phyZqRecal c pu pd) s = .next (s.done s))) ∧
  ((∀ (c : Nat) (t : Int) (s : State), s.serving = true → s.chanBuilt c = true →
    (s.sensorOn c = true → ∃ u : State, exec (.tempSample c t) s = .next (s.done u) ∧
      (u.phy c).samples = (clampTo (-220) 500 t :: (s.phy c).samples).take 16 ∧
      u.flag (Reg.CHN_TEMP_VALID c) = true ∧ u.fld (Reg.CHN_TEMP_T c) = twos 11 (clampTo (-220) 500 t)) ∧
    (s.sensorOn c = false → exec (.tempSample c t) s = .next (s.done s))) ∧
  (∀ (sc : Nat) (s : State), s.serving = true → s.subBuilt sc = true →
    (s.latticeOn (sc / 2) = true → s.gapOpen sc = true → ∃ u : State, exec (.idleGapTrimApply sc) s = .next (s.done u) ∧
      (∀ rk < 2, tget none u.pendTrims (2 * sc + rk) = none) ∧ { u with pendTrims := s.pendTrims, trims := s.trims } = s ∧
      ∀ rk < 2, ∀ t0 k t, tget none s.pendTrims (2 * sc + rk) = some ⟨t0, [(k, t)]⟩ → tget none s.pendTrims (2 * sc + (1 - rk)) = none → u.trim k = t) ∧
    (s.latticeOn (sc / 2) = false ∨ s.gapOpen sc = false → exec (.idleGapTrimApply sc) s = .next (s.done s)) ∧
    (∀ t0, s.pendSince sc = some t0 → (s.sub sc).gapHold = false → (s.sub sc).window.any (fun p => p.tier == 1) = false →
      ∃ u : State, exec (.gapInsert sc) s = .next (s.done u) ∧ (u.sub sc).gapHold = true ∧ reached u.tempo (t0 + ns s.gapWait) = true ∧
        u.fld Reg.BOOK_CNT2_GAPINS = satAdd 16 (s.fld Reg.BOOK_CNT2_GAPINS) 1) ∧
    (s.pendSince sc = none → exec (.gapInsert sc) s = .next (s.done s))))

/-- DRAM_INIT_DONE of a channel out of reset: once its ranks are programmed and calibrated (`initRanks`), training begins at step 1 on both
subchannels, and every refresh group of every rank runs with debt 0 (R223, R239, R341, R345). TRAIN_STEP_DONE: an attempt without a miss gives
its results to the trims and the next rank or step follows; one with a miss is repeated up to RETRY times; after that, where CTL.ERS_OK is 0,
the first failure is recorded and the channel has failed training (R346, R351). Where no such step is in progress they change nothing. -/
def Obligations.TrainingBeginsAndGoesOn : Prop :=
  (∀ (c : Nat) (s : State), s.serving = true → s.chanBuilt c = true →
    ((s.phy c).phase = .released → ∃ u : State, exec (.dramInitDone c) s = .next (s.done u) ∧ (u.phy c).phase = .training ∧
      u.fld Reg.GLOB_STAT_PHASE = 4 ∧
      ∀ sc ∈ [2 * c, 2 * c + 1], u.train sc = ⟨1, 0, 0, []⟩ ∧ ∀ rk ∈ s.ranks c, ∀ j < (s.initRanks c).groupsPer c,
        (u.group (groupKey sc rk j)).running = true ∧ (u.group (groupKey sc rk j)).debt = 0) ∧
    ((s.phy c).phase ≠ .released → exec (.dramInitDone c) s = .next (s.done s))) ∧
  (∀ (sc : Nat) (res : TrainRes) (s : State) (skip : List Nat) (bad : List Miss), s.serving = true → s.subBuilt sc = true →
    skip = ((s.train sc).erase.filter (fun e => (s.trainRanks (s.train sc).step (s.train sc).rk).contains e.1)).map (·.2) →
    bad = s.misses sc (s.train sc).step skip res →
    ((s.phy (sc / 2)).phase = .training → 1 ≤ (s.train sc).step → (s.train sc).step ≤ 7 →
      (bad = [] → exec (.trainStepDone sc res) s = .next (s.done
        (((s.useResult sc (s.train sc).step (s.train sc).rk skip res).trainOn sc).trainEnd))) ∧
      (bad ≠ [] → (s.train sc).tries < s.fld Reg.TRAIN_CTL_RETRY → sc / 2 ∈ s.startup.present →
        ∃ u : State, exec (.trainStepDone sc res) s = .next (s.done u) ∧ u.train sc = { s.train sc with tries := (s.train sc).tries + 1 } ∧
          u.flag Reg.TRAIN_EVT_RETRY = true) ∧
      (∀ (m : Miss) (more : List Miss), bad = m :: more → s.fld Reg.TRAIN_CTL_RETRY ≤ (s.train sc).tries → s.flag Reg.TRAIN_CTL_ERS_OK = false →
        exec (.trainStepDone sc res) s = .next (s.done
          (((s.trainFail sc (s.train sc).rk (s.train sc).step m.1 m.2).dropChannel (sc / 2)).trainEnd)))) ∧
    ((s.phy (sc / 2)).phase ≠ .training → exec (.trainStepDone sc res) s = .next (s.done s.trainEnd)))

/-- PPR_ENTRY_DONE: the entry in progress on its channel is APPLIED where it had the resource and read back clean, NORES without the
resource, FAIL otherwise; the step ends with its last entry. FILL_LINE_WRITE proposes the write of the channel's next fill line. Of an entry
that is not in progress, and while no fill runs, they change nothing (R302, R328, R446). -/
def Obligations.PprResultsAndFillLines : Prop :=
  (∀ (n : Nat) (spare clean : Bool) (s : State), s.serving = true →
    (s.startup.ppr.find? (fun m => s.pprCh m == s.pprCh n) = some n →
      ∃ w : State, exec (.pprEntryDone n spare clean) s = .next (s.done (if w.startup.ppr = [] then w.pprEnd else w)) ∧
        w.startup.ppr = s.startup.ppr.filter (· != n) ∧ w.pprWord n 1 / 2 ^ 30 = (if !spare then 2 else if clean then 1 else 3)) ∧
    (s.startup.ppr.find? (fun m => s.pprCh m == s.pprCh n) ≠ some n → exec (.pprEntryDone n spare clean) s = .next (s.done s))) ∧
  (∀ (c : Nat) (s : State), s.serving = true → s.chanBuilt c = true →
    (s.startup.filling = true → s.startup.fillOn.contains c = true →
      s.latticeOn c = true → s.fbit Reg.GLOB_FILLST_DONE c = false → s.qes.any (fun q => q.src == .fill && q.loc.ch == c) = false →
      ∃ u : State, exec (.fillLineWrite c) s = .next (s.done u) ∧ tget 0 u.startup.fillNext c = tget 0 s.startup.fillNext c + 1 ∧
        ∃ q ∈ u.qes, q.src = .fill ∧ q.wr = true ∧ q.pay = .fill ∧ q.loc = s.placeOf c (tget 0 s.startup.fillNext c)) ∧
    (s.startup.filling = false → exec (.fillLineWrite c) s = .next (s.done s)))

/-- EP_PASS_START: a pass begins on the channel, with a read run of each lane group still to make on each rank, and a write run where
WR_EN is 1; the runs in turn then begin (R369, R370). A run of an En Passant pass in progress. EP_RUN_DONE with sweeps that agree stores
the result; the first two times they do not, the run is made again and DISAGREE is counted; the third time the group is erased. At
EP_PROBE_WAIT_EXPIRY of a read run of a rank that no admitted line waits for, a probe read of the line chosen is proposed, and up to PRATE in
all. EP_RUN_TIMEOUT gives the group up, counted in SKIP (R370, R372, R376-R378). With no pass enabled, or no run in progress, these change
nothing. -/
def Obligations.EnPassantPass : Prop :=
  (∀ (c : Nat) (s : State), s.serving = true → s.chanBuilt c = true →
    (s.flag Reg.BOOK_LCTL_EP_EN = true → s.ownWork = true → s.chUp c = true → (s.phy c).phase = .passed → (s.ep c).running = false →
      ∃ w : State, exec (.epPassStart c) s = .next (s.done (w.epResume c)) ∧ (w.ep c).running = true ∧ (w.ep c).start = w.longTime ∧
        (w.ep c).done = 0 ∧
        ∀ sc ∈ [2 * c, 2 * c + 1], ∀ rk ∈ s.epRanks c, ∃ r, w.epRank? sc rk = some r ∧ r.begun = false ∧
          r.todo = (List.range 10).flatMap (fun g => (g, false) :: (if s.flag Reg.BOOK_LCTL_WR_EN then [(g, true)] else []))) ∧
    (s.flag Reg.BOOK_LCTL_EP_EN = false → exec (.epPassStart c) s = .next (s.done s))) ∧
  (∀ (sc : Nat) (rk : Fin 2) (s : State), s.serving = true → s.subBuilt sc = true →
    (∀ (r : EpRank) (g : Nat) (wr : Bool) (rest : List (Nat × Bool)), s.epRank? sc rk.val = some r → r.begun = true → r.todo = (g, wr) :: rest →
      (∀ (a b : List LaneRun) (e : EyeFit),
        trusted (s.minw (if wr then Reg.TRAIN_CRIT_MINW_WR else Reg.TRAIN_CRIT_MINW_RD)) (eyeFit a [0, 1, 2, 3]) (eyeFit b [0, 1, 2, 3]) = some e →
        exec (.epRunDone sc rk a b) s = .next (s.done
          (((((s.bump Reg.BOOK_CNT0_RUNS).epUnmark sc rk.val).epStore sc rk.val g wr r.th e).epNext sc rk.val false)))) ∧
      (∀ (a b : List LaneRun) (x : State),
        trusted (s.minw (if wr then Reg.TRAIN_CRIT_MINW_WR else Reg.TRAIN_CRIT_MINW_RD)) (eyeFit a [0, 1, 2, 3]) (eyeFit b [0, 1, 2, 3]) = none →
        x = (s.bump Reg.BOOK_CNT0_DISAGREE).set1 Reg.BOOK_EVT_DISAGREE →
        (r.bad < 2 → ∃ u : State, exec (.epRunDone sc rk a b) s = .next (s.done u) ∧ u.flag Reg.BOOK_EVT_DISAGREE = true ∧
          ∃ r', u.epRank? sc rk.val = some r' ∧ r'.bad = r.bad + 1 ∧ r'.todo = r.todo ∧ r'.begun = true) ∧
        (2 ≤ r.bad → exec (.epRunDone sc rk a b) s = .next (s.done
          ((((x.setEpRank sc rk.val (some { r with begun := false })).epErase sc rk.val g wr).epNext sc rk.val wr).releaseFill)))) ∧
      (∀ (x : State) (l : Loc), wr = false → s.qes.any (fun q => q.adm && q.loc.sc == sc && q.loc.rk == rk.val) = false →
        x = s.advanceTo (r.sample + ns (1000 * max 1 (Reg.BOOK_PROBE_PWAIT.get r.probe))) →
        (x.setEpRank sc rk.val (some { r with sample := x.tempo })).probePick sc rk.val = some l →
        ∃ u : State, exec (.epProbeWaitExpiry sc rk) s = .next (s.done u) ∧ (∃ q ∈ u.qes, q.src = .probe ∧ q.wr = false ∧ q.loc = l) ∧
          (Reg.BOOK_PROBE_PRATE.get r.probe ≤ 1 → u.fld Reg.BOOK_CNT1_PROBES = satAdd 16 (s.fld Reg.BOOK_CNT1_PROBES) 1)) ∧
      (∃ w : State, exec (.epRunTimeout sc rk) s = .next (s.done ((w.epUnmark sc rk.val).epNext sc rk.val true)) ∧
        w.fld Reg.BOOK_CNT2_SKIP = satAdd 16 (s.fld Reg.BOOK_CNT2_SKIP) 1 ∧ w.flag Reg.BOOK_EVT_SKIP = true)) ∧
    (s.epRank? sc rk.val = none → (∀ a b : List LaneRun, exec (.epRunDone sc rk a b) s = .next (s.done s)) ∧
      exec (.epProbeWaitExpiry sc rk) s = .next (s.done s) ∧ exec (.epRunTimeout sc rk) s = .next (s.done s)))

/-- SPD_READ_DONE of a module not read yet shows its outcome in SIDE_SPDSTAT and keeps the words of one that answered. PMIC_POWER_GOOD records
the module's power, and CHn_RESET_n may then rise; PMIC_PGOOD_TIMEOUT without it fails the channel with reason 4. THERMAL_POLL shows what the
sensors of each present module answered, one that did not answer keeping the temperature shown (R444, R445, R461). -/
def Obligations.ModuleEventsAreShown : Prop :=
  (∀ (c : Nat) (outcome : BitVec 2) (words : List Word) (s : State), s.serving = true → s.chanBuilt c = true → c < 4 →
    (outcome ≠ 0 → s.fld Reg.SIDE_SPDSTAT_SPD / 4 ^ c % 4 = 0 → ∃ u : State, exec (.spdReadDone c outcome words) s = .next (s.done u) ∧
      u.fld Reg.SIDE_SPDSTAT_SPD / 4 ^ c % 4 = outcome.toNat ∧ (2 ≤ outcome.toNat → u.flag Reg.SIDE_EVT_SPD_ERR = true) ∧
      (outcome ≠ 3 → ∀ i < 256, tget 0 u.startup.spdCopy (256 * c + i) = (nth 0 words i).toNat)) ∧
    (s.fld Reg.SIDE_SPDSTAT_SPD / 4 ^ c % 4 ≠ 0 → exec (.spdReadDone c outcome words) s = .next (s.done s))) ∧
  (∀ (c : Nat) (s : State), s.serving = true → s.chanBuilt c = true → c < 4 →
    ((s.phy c).phase = .powered →
      (∃ u : State, exec (.pmicPowerGood c) s = .next (s.done u) ∧ (u.phy c).pmic = true ∧ u.fbit Reg.SIDE_SPDSTAT_PGOOD c = true) ∧
      ((s.phy c).pmic = false → ∃ w : State, exec (.pmicPgoodTimeout c) s = .next (s.done (w.bringFail c 4).trainEnd) ∧
        w.flag Reg.SIDE_EVT_PMIC_FAIL = true ∧ { w with regs := s.regs, tempo := s.tempo, wraps := s.wraps } = s)) ∧
    ((s.phy c).phase ≠ .powered →
      exec (.pmicPowerGood c) s = .next (s.done s) ∧ exec (.pmicPgoodTimeout c) s = .next (s.done s))) ∧
  (∀ (mods : List TsPair) (s : State), s.serving = true →
    (s.fld Reg.SIDE_DCFG_TSPER ≠ 0 → 3 ≤ s.fld Reg.GLOB_STAT_PHASE → ∃ u : State, exec (.thermalPoll mods) s = .next (keepPins s u) ∧
      ∀ c < 4, c ∈ s.startup.present → ∀ m : TsPair, m = nth ⟨none, none⟩ mods c →
        u.flag (Reg.SIDE_TS_V0 c) = m.ts0.isSome ∧ u.flag (Reg.SIDE_TS_V1 c) = m.ts1.isSome ∧
        u.fld (Reg.SIDE_TS_TS0 c) = (match m.ts0 with | some t => twos 11 t | none => s.fld (Reg.SIDE_TS_TS0 c)) ∧
        u.fld (Reg.SIDE_TS_TS1 c) = (match m.ts1 with | some t => twos 11 t | none => s.fld (Reg.SIDE_TS_TS1 c))) ∧
    (s.fld Reg.SIDE_DCFG_TSPER = 0 → exec (.thermalPoll mods) s = .next s))

/-- What follows every effect (`done`): with no forwarded write waiting for its lines, no write or FLUSH waiting to be answered, no request
withheld at the pins or held for the fill, no drain and no fill under way and BRINGUP over, only the idle timer follows, which starts when the
tile becomes idle and stops when it is not (R31, R100, R146, R177, R414, R446-R448). -/
def Obligations.OnlyIdleTimerFollows : Prop :=
  ∀ s u : State, u.ring.awaits.all (fun a => a.type != 0x08) = true →
    u.reqs.all (fun r => r.stage != .heldFill && r.stage != .flushing && !((r.op == .wr || r.op == .wru) && r.stage == .queued)) = true →
    (∀ p < 8, (u.port p).rqHeld = []) → (∀ sc < 8, (u.sub sc).drain = .read) →
    u.startup.filling = false → u.mode ≠ .bringup →
    s.done u = keepPins s { u with power := { u.power with
      idle := (if u.flag Reg.PWRM_SLP_EN && u.inService && u.isIdle && u.power.vote.isNone then some (u.power.idle.getD u.tempo) else none) } }

/-- SIDE_DXFER on a free page with no transaction under way: GO reads 1 and the transaction leaves on the DIMM sideband; with one under way
the write is ignored. SIDE_DXFER_DONE of a transaction: GO reads 0, ERR tells whether a byte was refused, and a read's byte is in DATA; with
none it does nothing. DYNAMIC_ADDRESS_ASSIGNMENT: the address is shown and I3C reads 1 (R460, R462). -/
def Obligations.SidebandTransfers : Prop :=
  (∀ (agent : BitVec 4) (ch dev : BitVec 2) (reg data : BitVec 8) (s : State), s.pageFree agent 4 →
    (s.flag Reg.SIDE_DXFER_GO = false →
      (∃ u : State, exec (.sideDxferRead agent ch dev reg) s = .next (keepPins s u.okAck) ∧ u.flag Reg.SIDE_DXFER_GO = true ∧
        u.outputs = s.outputs ++ [.dimmBus ch.toNat dev.toNat reg.toNat false 0]) ∧
      (∃ u : State, exec (.sideDxferWrite agent ch dev reg data) s = .next (keepPins s u.okAck) ∧ u.flag Reg.SIDE_DXFER_GO = true ∧
        u.outputs = s.outputs ++ [.dimmBus ch.toNat dev.toNat reg.toNat true data.toNat])) ∧
    (s.flag Reg.SIDE_DXFER_GO = true → exec (.sideDxferRead agent ch dev reg) s = .next (keepPins s s.okAck) ∧
      exec (.sideDxferWrite agent ch dev reg data) s = .next (keepPins s s.okAck))) ∧
  (∀ (ack : Bool) (data : BitVec 8) (s : State), s.serving = true →
    (s.flag Reg.SIDE_DXFER_GO = true →
      ∃ u : State, exec (.sideDxferDone ack data) s = .next (keepPins s u) ∧ u.flag Reg.SIDE_DXFER_GO = false ∧ u.flag Reg.SIDE_DXFER_ERR = !ack ∧
        (ack = true → s.flag Reg.SIDE_DXFER_WR = false → u.fld Reg.SIDE_DXFER_DATA = data.toNat) ∧
        (if ack then u.flag Reg.SIDE_EVT_XFER_DONE else u.flag Reg.SIDE_EVT_XFER_ERR) = true ∧ { u with regs := s.regs } = s) ∧
    (s.flag Reg.SIDE_DXFER_GO = false → exec (.sideDxferDone ack data) s = .next s)) ∧
  (∀ (a : BitVec 7) (s : State), s.serving = true →
    ∃ u : State, exec (.dynamicAddressAssignment a) s = .next (keepPins s u) ∧ u.fld Reg.SIDE_TCFG_DADDR = a.toNat ∧
      u.flag Reg.SIDE_TCFG_I3C = true ∧ { u with regs := s.regs } = s)

/-- The key commands of agent 3 on a free page with TAMPER low and no command in progress, of a tile with encryption. LOAD gives a slot that
is EMPTY, or VALID and not in use, the key of the key words, which are then zero; a VALID slot in use waits, until its last use ends. CLEAR
empties a slot not in use. CLEAR_ALL with no slot in use empties every VALID slot but 0 and verifies the clear. KEY_SLOT_CHANGE_COMPLETE of a
slot no longer in use gives it its new key or empties it. TAMPER's rise empties every slot but 0 at once and verifies the clear; without
encryption it only stops a slice (R394-R397, R399). -/
def Obligations.KeySlotsChange : Prop :=
  (∀ s : State, s.pageFree 3 6 → s.build.crypt = true → s.flag Reg.CRYP_KCMD_BUSY = false → s.crypt.tamper = false → s.anyPending = false →
    s.crypt.clearAll = false →
    (s.fld Reg.CRYP_KSEL_SLOT ≠ 0 → sameHalves s.keyBlock = false → s.bist.keyBad = false →
      ((s.slot (s.fld Reg.CRYP_KSEL_SLOT)).st = .empty → ∃ u : State, exec (.load 3) s = .next (s.done u.okAck) ∧ u.crypt.keyw = [] ∧
        u.slot (s.fld Reg.CRYP_KSEL_SLOT) = { s.slot (s.fld Reg.CRYP_KSEL_SLOT) with st := .valid, key := s.keyBlock } ∧
        u.flag Reg.CRYP_EVT_LOAD_DONE = true) ∧
      ((s.slot (s.fld Reg.CRYP_KSEL_SLOT)).st = .valid → s.slotBusy (s.fld Reg.CRYP_KSEL_SLOT) = false → ∃ u : State,
        exec (.load 3) s = .next (s.done u.okAck) ∧ u.crypt.keyw = [] ∧ u.flag Reg.CRYP_EVT_LOAD_DONE = true ∧
        u.slot (s.fld Reg.CRYP_KSEL_SLOT) = ⟨.valid, (s.slot (s.fld Reg.CRYP_KSEL_SLOT)).ports, s.keyBlock, 0⟩) ∧
      ((s.slot (s.fld Reg.CRYP_KSEL_SLOT)).st = .valid → s.slotBusy (s.fld Reg.CRYP_KSEL_SLOT) = true → ∃ u : State,
        exec (.load 3) s = .next (s.done u.okAck) ∧ u.flag Reg.CRYP_KCMD_BUSY = true ∧
        u.slot (s.fld Reg.CRYP_KSEL_SLOT) = { s.slot (s.fld Reg.CRYP_KSEL_SLOT) with st := .pendLoad, nextKey := s.keyBlock })) ∧
    (s.fld Reg.CRYP_KSEL_SLOT ≠ 0 → (s.slot (s.fld Reg.CRYP_KSEL_SLOT)).st = .valid → s.slotBusy (s.fld Reg.CRYP_KSEL_SLOT) = false →
      ∃ u : State, exec (.clear 3) s = .next (s.done u.okAck) ∧ u.flag Reg.CRYP_EVT_LOAD_DONE = true ∧
        u.slot (s.fld Reg.CRYP_KSEL_SLOT) = ⟨.empty, (s.slot (s.fld Reg.CRYP_KSEL_SLOT)).ports, 0, 0⟩) ∧
    (∀ v1 v2 : Bool, (∀ k, 1 ≤ k → s.slotBusy k = false) → ∃ u : State, exec (.clearAll 3 v1 v2) s = .next (s.done u.okAck) ∧ u.crypt.keyw = [] ∧
      (∀ k, 1 ≤ k → k < 256 → (s.slot k).st = .valid → (u.slot k).st = .empty ∧ (u.slot k).key = 0 ∧ (u.slot k).ports = (s.slot k).ports) ∧
      (if v1 || v2 then u.flag Reg.CRYP_KSTAT_CLEARED ∧ u.fld Reg.CRYP_KSTAT_CAUSE = 5 else u.flag Reg.CRYP_KSTAT_VERIFY_FAIL ∧
        ∃ r ∈ u.fault.reports, r.src = 0x32))) ∧
  (∀ (k : Nat) (v1 v2 : Bool) (s : State), s.serving = true → s.build.crypt = true →
    (s.slotBusy k = false →
      ((s.slot k).st = .pendLoad → ∃ u : State, exec (.keySlotChangeComplete k v1 v2) s = .next (s.done u) ∧
        u.slot k = { s.slot k with st := .valid, key := (s.slot k).nextKey, nextKey := 0 }) ∧
      ((s.slot k).st = .pendClear → ∃ u : State, exec (.keySlotChangeComplete k v1 v2) s = .next (s.done u) ∧
        u.slot k = ⟨.empty, (s.slot k).ports, 0, 0⟩)) ∧
    (s.slotBusy k = true → exec (.keySlotChangeComplete k v1 v2) s = .next (s.done s))) ∧
  (∀ (v1 v2 : Bool) (s : State), s.serving = true →
    (s.build.crypt = true → ∃ w : State, exec (.tamperRise v1 v2) s = .next (s.done w.stopSlice) ∧
      w.crypt.tamper = true ∧ w.crypt.keyw = [] ∧
      (∀ k, 1 ≤ k → k < 256 → w.slot k = ⟨.empty, (s.slot k).ports, 0, 0⟩) ∧
      (if v1 || v2 then w.flag Reg.CRYP_KSTAT_CLEARED ∧ w.fld Reg.CRYP_KSTAT_CAUSE = 2 else w.flag Reg.CRYP_KSTAT_VERIFY_FAIL ∧
        ∃ r ∈ w.fault.reports, r.src = 0x32)) ∧
    (s.build.crypt = false →
      exec (.tamperRise v1 v2) s = .next (s.done ({ s with crypt := { s.crypt with tamper := true } }.stopSlice))))

/-- The test port. BYPASS, IDCODE and SAMPLE/PRELOAD change nothing but the test port, and IDCODE sends the code of R542. EXTEST and
SCAN_EN in service clear the keys first; they take effect where the clear is verified, and from then on the tile serves nothing, EXTEST driving
the boundary register's levels; after a failed verification they are held back. With TILE_RESET_n low, or in scan, they take effect at once. -/
def Obligations.TestPortInstructions : Prop :=
  (∀ s : State, ∃ t : State, exec .bypass s = .next t ∧ t.tap.ir = 0 ∧ { t with tap := s.tap } = s) ∧
  (∀ s : State, ∃ (t : State) (code : BitVec 32), exec .idcode s = .next t ∧ t.tap.ir = 1 ∧
    code.toNat = 4 * 2 ^ 28 + 0xB401 * 2 ^ 12 + s.build.mfr.toNat * 2 + 1 ∧ t.outputs = s.outputs ++ [.tdo code] ∧
    { t with tap := s.tap, outputs := s.outputs } = s) ∧
  (∀ (pins : Nat) (s : State), ∃ t : State, exec (.samplePreload pins) s = .next t ∧ t.tap.boundary = pins ∧ { t with tap := s.tap } = s) ∧
  (∀ (v1 v2 : Bool) (s : State), s.serving = true → s.flag Reg.CRYP_KSTAT_VERIFY_FAIL = false →
    (s.build.crypt = false ∨ (v1 || v2) = true →
      (∃ u : State, exec (.extest v1 v2) s = .next (keepPins s u) ∧ u.frozen = true ∧ u.tap.ir = 3 ∧ .boundary s.tap.boundary ∈ u.outputs ∧
        (s.build.crypt = true → u.crypt.keyw = [])) ∧
      (∃ u : State, exec (.scanEn v1 v2) s = .next (keepPins s u) ∧ u.frozen = true ∧ u.tap.ir = 4 ∧ (s.build.crypt = true → u.crypt.keyw = []))) ∧
    (s.build.crypt = true → (v1 || v2) = false →
      (∃ u : State, exec (.extest v1 v2) s = .next (keepPins s u) ∧ u.frozen = s.frozen ∧ u.tap.hold = some 3) ∧
      (∃ u : State, exec (.scanEn v1 v2) s = .next (keepPins s u) ∧ u.frozen = s.frozen ∧ u.tap.hold = some 4))) ∧
  (∀ (v1 v2 : Bool) (s : State), s.serving = false →
    (∃ t : State, exec (.extest v1 v2) s = .next t ∧ t.frozen = true ∧ t.tap.ir = 3 ∧ .boundary s.tap.boundary ∈ t.outputs ∧
      { t with tap := s.tap, frozen := s.frozen, outputs := s.outputs } = s) ∧
    (∃ t : State, exec (.scanEn v1 v2) s = .next t ∧ t.frozen = true ∧ t.tap.ir = 4 ∧ { t with tap := s.tap, frozen := s.frozen } = s))

/-- The regulator. VREQ_COMPLETE with PWR_GOOD high records the voltage and sends the target that waits; VREQ_TIMEOUT sends the request
once more, and after the second attempt reports source 0x2C and stops the loop, for SLEEP entry 0x2F and for a wake 0x30; with no request they
do nothing. PWR_GOOD's fall outside a request and its absence for 2 ms are reported, a fall within one is not; its rise ends that. VOUT_MODE in
linear format is kept and VMAX asked for; a second failed read sets PWRM_EVT.VMODE. VLOOP_WINDOW shows the demand and at UP or above asks for
one step more (R409-R412, R420, R427). -/
def Obligations.RegulatorEventsAct : Prop :=
  (∀ (v : VReq) (s : State), s.serving = true → s.power.vreq = some v → v.target ≤ 30 → s.power.pgood = true →
    ∃ u : State, exec .vreqComplete s = .next (s.done u) ∧ u.fld Reg.PWRM_VSTAT_VACK = v.target ∧ (s.power.vnext = none → u.power.vreq = none) ∧
      ∀ n, s.power.vnext = some n → ∃ t, u.power.vreq = some ⟨n.target, t, 1, n.why⟩) ∧
  (∀ (v : VReq) (word : Option (BitVec 16)) (s : State), s.serving = true → s.power.vreq = some v →
    (v.tries < 2 → ∃ (u : State) (t : Tempo), exec (.vreqTimeout word) s = .next (s.done u) ∧ u.power.vreq = some ⟨v.target, t, 2, v.why⟩ ∧
      (∀ w, word = some w → u.fld Reg.PWRM_RSTAT_STATUS = w.toNat) ∧ (word = none → u.flag Reg.PWRM_RSTAT_RD_FAIL = true)) ∧
    (2 ≤ v.tries → ∃ u : State, exec (.vreqTimeout word) s = .next (s.done u) ∧ u.flag Reg.PWRM_EVT_VREQ_FAIL = true ∧
      (v.why ≠ 2 → v.why ≠ 3 → u.power.vstop = true) ∧
      ∃ r ∈ u.fault.reports, r.src = (if v.why = 2 then 0x2F else if v.why = 3 then 0x30 else 0x2C))) ∧
  (∀ (word : Option (BitVec 16)) (s : State), s.serving = true → s.power.vreq = none →
    exec .vreqComplete s = .next (s.done s) ∧ exec (.vreqTimeout word) s = .next (s.done s)) ∧
  (∀ s : State, s.serving = true →
    (s.power.pgood = true → s.power.vreq = none → ∃ u : State, exec .pwrGoodFall s = .next (s.done u) ∧
      u.power.pgood = false ∧ u.power.pgLost = true ∧ u.flag Reg.PWRM_EVT_PGOOD_LOST = true ∧ ∃ r ∈ u.fault.reports, r.src = 0x2D) ∧
    (s.power.pgood = true → s.power.vreq.isSome = true → ∃ u : State, exec .pwrGoodFall s = .next (s.done u) ∧
      u.power.pgood = false ∧ u.power.pgLost = false ∧ { u with power := s.power } = s) ∧
    (s.power.pgood = false → ∃ u : State, exec .pwrGoodRise s = .next (s.done u) ∧
      u.power.pgood = true ∧ u.power.pgLost = false ∧ { u with power := s.power } = s) ∧
    (s.power.pgood = false → exec .pwrGoodFall s = .next (s.done s)) ∧ (s.power.pgood = true → exec .pwrGoodRise s = .next (s.done s)) ∧
    (s.power.pgLost = true → ∃ u : State, exec .pgoodDownTimeout s = .next (s.done u) ∧ u.power.pgLost = false ∧
      ∃ r ∈ u.fault.reports, r.src = 0x2E) ∧
    (s.power.pgLost = false → exec .pgoodDownTimeout s = .next (s.done s))) ∧
  (∀ s : State, s.serving = true → s.flag Reg.PWRM_VSTAT_MODE_OK = false → s.power.vmodeFails < 2 →
    (∀ b : BitVec 8, b.toNat / 32 = 0 → 16 ≤ b.toNat → b.toNat ≤ 24 → s.power.vreq = none → ∃ u : State,
      exec (.voutModeReadDone (some b)) s = .next (s.done u) ∧ u.flag Reg.PWRM_VSTAT_MODE_OK = true ∧ u.fld Reg.PWRM_VSTAT_EXP = b.toNat ∧
      u.power.vreq = some ⟨stepCode (s.fld Reg.PWRM_VLIM_VMAX), s.tempo, 1, 0⟩) ∧
    (s.power.vmodeFails = 1 → ∃ u : State, exec (.voutModeReadDone none) s = .next (s.done u) ∧ u.flag Reg.PWRM_EVT_VMODE = true)) ∧
  (∀ (rho : Nat) (s : State), s.serving = true →
    (s.flag Reg.PWRM_VLOOP_EN = true → s.inService = true → s.flag Reg.PWRM_VSTAT_MODE_OK = true →
      s.power.vreq = none → s.power.vstop = false → s.fullDemand = false → s.fld Reg.PWRM_VLOOP_UP ≤ rho →
      s.fld Reg.PWRM_VSTAT_VCMD < stepCode (s.fld Reg.PWRM_VLIM_VMAX) → ∃ (u : State) (t : Tempo), exec (.vloopWindow rho) s = .next (s.done u) ∧
        u.power.vreq = some ⟨s.fld Reg.PWRM_VSTAT_VCMD + 1, t, 1, 1⟩ ∧ u.fld Reg.PWRM_VSTAT_DEMAND = min rho 100) ∧
    (s.flag Reg.PWRM_VLOOP_EN = false → exec (.vloopWindow rho) s = .next (s.done s)))

/-- The SLEEP vote. IDLE_TIMER_EXPIRY of an idle tile begins it with no voter agreed. VOTE_AGREE of a voter with nothing to refuse for
adds it, and the eighth puts the tile in SLEEP. VOTE_REFUSE and VOTE_WITHDRAW of one with a reason, and VOTE_TIMEOUT, end the vote and
record the cause. With no vote under way these four do nothing (R414-R418). -/
def Obligations.SleepVote : Prop :=
  (∀ s : State, s.serving = true → s.flag Reg.PWRM_SLP_EN = true → s.inService = true → s.isIdle = true → s.power.vote = none →
    ∃ u : State, exec .idleTimerExpiry s = .next (s.done u) ∧ u.power.vote.isSome = true ∧ u.power.agreed = 0 ∧ u.mode = s.mode ∧
      u.fld Reg.PWRM_VOTE_AGREED = 0) ∧
  (∀ (v : Nat) (s : State), s.serving = true → s.power.vote.isSome = true → v < 8 →
    (s.power.agreed.testBit v = false → s.voterRefuses v = false → ∃ u : State, exec (.voteAgree v) s = .next (s.done u) ∧
      u.power.agreed = s.power.agreed ||| 2 ^ v ∧
      (s.power.agreed ||| 2 ^ v = 0xFF → u.mode = .sleep ∧ u.sleepFrom = s.mode ∧ u.power.sleep = .entering ∧ u.power.vote = none) ∧
      (s.power.agreed ||| 2 ^ v ≠ 0xFF → u.mode = s.mode ∧ u.power.vote = s.power.vote)) ∧
    (s.power.agreed.testBit v = false → s.voterRefuses v = true → ∃ u : State, exec (.voteRefuse v) s = .next (s.done u) ∧
      u.power.vote = none ∧ u.mode = s.mode ∧ u.fld Reg.PWRM_VOTE_LAST = v ∧ u.flag Reg.PWRM_EVT_REFUSED = true) ∧
    (s.power.agreed.testBit v = true → s.voterRefuses v = true → ∃ u : State, exec (.voteWithdraw v) s = .next (s.done u) ∧
      u.power.vote = none ∧ u.mode = s.mode ∧ u.fld Reg.PWRM_VOTE_LAST = v ∧ u.flag Reg.PWRM_EVT_REFUSED = true)) ∧
  (∀ s : State, s.serving = true →
    (s.power.vote.isSome = true → ∃ u : State, exec .voteTimeout s = .next (s.done u) ∧ u.power.vote = none ∧
      u.mode = s.mode ∧ u.fld Reg.PWRM_VOTE_LAST = 9 ∧ u.fld Reg.PWRM_ABTCNT_TIMEOUT = satAdd 16 (s.fld Reg.PWRM_ABTCNT_TIMEOUT) 1) ∧
    (s.power.vote = none → exec .voteTimeout s = .next (s.done s) ∧ ∀ v : Nat, exec (.voteAgree v) s = .next (s.done s) ∧
      exec (.voteRefuse v) s = .next (s.done s) ∧ exec (.voteWithdraw v) s = .next (s.done s)))

/-- SLEEP and the wake. SLEEP_ENTRY_COMPLETE powers CORE and the PLLs down and counts the entry; a wake event latched meanwhile then takes
effect. A wake source that needs everything starts the wake of all, another wakes CORE alone, after which latched port resets take effect and
waiting requests are acknowledged; one that comes before entry is complete is latched and recorded; outside SLEEP, and during a wake, none does
anything. WAKE_COMPLETE with every PLL locked returns to the mode before SLEEP, and what waited goes on. CORE_IDLE_REGATE powers CORE down
again. A ring message addressed to a sleeping tile enters its receive buffer and wakes everything (R153, R420-R425). -/
def Obligations.SleepAndWake : Prop :=
  (∀ s : State, s.serving = true → s.mode = .sleep → s.power.sleep = .entering →
    (s.power.latched = none → ∃ u : State, exec .sleepEntryComplete s = .next (s.done u) ∧ u.mode = .sleep ∧ u.power.sleep = .asleep ∧
      u.power.coreOn = false ∧ u.power.crypOn = false ∧ u.flag Reg.PWRM_EVT_SLEPT = true ∧
      u.fld Reg.PWRM_CNT_ENTRIES = satAdd 16 (s.fld Reg.PWRM_CNT_ENTRIES) 1 ∧ ∀ c < 4, s.chUp c = true → (u.phy c).pll = .off)) ∧
  (∀ (src : WakeSrc) (s : State), s.serving = true →
    (s.mode = .sleep → s.power.sleep = .asleep → src = .served ∨ src = .ring ∨ src = .work → ∃ w : State,
      exec (.wakeEvent src) s = .next (s.done w.latchedResets.takeAllHeld) ∧ w.power.sleep = .waking ∧ w.power.coreOn = true ∧
      w.power.crypOn = s.build.crypt ∧ w.fld Reg.PWRM_WAKE_SRC = (match src with | .served => 1 | .ring => 3 | _ => 5)) ∧
    (s.mode = .sleep → s.power.sleep = .asleep → src = .offline ∨ src = .sideband ∨ (∃ c, src = .register c) → ∃ w : State,
      exec (.wakeEvent src) s = .next (s.done w.latchedResets.takeAllHeld) ∧ w.power.sleep = .asleep ∧ w.power.coreOn = true ∧
      w.fld Reg.PWRM_WAKE_SRC = (match src with | .offline => 1 | .sideband => 2 | _ => 4)) ∧
    (s.mode = .sleep → s.power.sleep = .entering → ∃ u : State, exec (.wakeEvent src) s = .next (s.done u) ∧ u.power.sleep = .entering ∧
      u.power.latched.isSome = true ∧ u.flag Reg.PWRM_EVT_LATE_WAKE = true ∧ u.fld Reg.PWRM_WAKE_LATE = satAdd 8 (s.fld Reg.PWRM_WAKE_LATE) 1) ∧
    (s.mode ≠ .sleep ∨ s.power.sleep = .waking → exec (.wakeEvent src) s = .next (s.done s))) ∧
  (∀ s : State, s.serving = true →
    (s.wakeReady = true → s.power.sdWake = false → ∃ w : State, exec .wakeComplete s = .next (s.done w.takeAllHeld.touchIdle.drainRx) ∧
      w.mode = s.sleepFrom ∧ w.power.sleep = .awake ∧ w.flag Reg.PWRM_EVT_WOKE = true) ∧
    (s.wakeReady = false → exec .wakeComplete s = .next (s.done s.drainRx))) ∧
  (∀ s : State, s.serving = true → s.mode = .sleep → s.power.sleep = .asleep → s.power.coreOn = true →
    s.reqs.all (fun r => match r.org with | .port _ => false | .ring _ _ => true) = true → ∃ u : State,
      exec .coreIdleRegate s = .next (s.done u) ∧ u.power.coreOn = false ∧ u.power.crypOn = false) ∧
  (∀ s : State, s.serving = true → s.mode ≠ .sleep → exec .coreIdleRegate s = .next (s.done s)) ∧
  (∀ (c : Instr) (corr : Nat) (m : RingIn) (s x : State), s.serving = true → s.build.ring = true → arrivalOf c = some (corr, m) →
    x = s.bump Reg.RING_CNT0_CORR corr →
    (s.mode ≠ .sleep ∨ quietMsg m = true ∨ s.addressed m = false → exec c s = .next (s.done (x.ringTake m))) ∧
    (s.mode = .sleep → quietMsg m = false → s.addressed m = true → s.rxFlits (s.arrivedCw m) + flitCount m ≤ 128 →
      exec c s = .next (s.done ({ x with ring := { x.ring with rx := x.ring.rx ++ [(s.arrivedCw m, m)] } }.wakeEvent 3 true false))))

/-- Start-up, shutdown and the self-test. BOOT_GO from agent 0 is remembered, from another only recorded. GO_ACTED_ON goes to the PHYs
with a valid record, to startup BIST without one. SHUTDOWN_REQUEST ends service; the drain's end, or its timeout, leads to the clear of the
keys and the slices (`endgameSteps`). BIST_SLICE_DONE of ENDGAME records the signature and the next slice runs, or the record is complete;
BIST_SLICE_BUDGET_EXPIRY marks a slice INCOMPLETE. With no slice in progress, no GO to act on and no drain these do nothing (R437-R440,
R464-R475). -/
def Obligations.StartupAndShutdown : Prop :=
  (∀ (agent : BitVec 4) (s : State), s.pageFree agent 0 → s.mode = .bringup → s.startup.go = false →
    ∃ u : State, exec (.bootGo agent) s = .next (keepPins s u.okAck) ∧ (agent = 0 → u.startup.go = true) ∧
      (agent ≠ 0 → u.startup.go = false ∧ u.flag Reg.GLOB_EVT_GO_IGNORED = true)) ∧
  (∀ s : State, s.serving = true →
    (s.goReady = true → ∃ u : State, exec .goActedOn s = .next (s.done u) ∧ u.startup.acted = true ∧
      u.fld Reg.GLOB_STAT_RECORD = b2n s.recordValid ∧
      (s.recordValid = false → u.fld Reg.GLOB_STAT_PHASE = 2 ∧ u.bist.slice = some 0 ∧ u.bist.startup = true ∧
        u.startup.present = (List.range 4).filter (fun c => s.chanBuilt c && s.flag (Reg.CHN_CFG_POP c)))) ∧
    (s.goReady = false → exec .goActedOn s = .next (s.done s))) ∧
  (∀ (agent : BitVec 4) (s : State), s.pageFree agent 5 → agent.toNat < 2 → s.inService = true → ∃ w : State,
    exec (.shutdownRequest agent) s = .next (s.done w.checkFlush.takeAllHeld.okAck) ∧ w.mode = .endgame ∧ w.memReady = false ∧
      w.fld Reg.BIST_STAT_PHASE = 1) ∧
  ((∀ (v1 v2 : Bool) (x : State), (x.endgameSteps v1 v2).fld Reg.BIST_STAT_PHASE = 4 ∧ (x.endgameSteps v1 v2).bist.slice = some 0 ∧
      (x.endgameSteps v1 v2).bist.startup = false ∧ (x.build.crypt = true → (x.endgameSteps v1 v2).crypt.keyw = [])) ∧
    ∀ (v1 v2 : Bool) (s : State), s.serving = true →
      (s.mode = .endgame → s.fld Reg.BIST_STAT_PHASE = 1 →
        (s.drained = true → exec (.endgameDrainComplete v1 v2) s = .next (s.done (s.endgameSteps v1 v2))) ∧
        (s.drained = false → exec (.endgameDrainComplete v1 v2) s = .next (s.done s)) ∧
        (∃ w : State, exec (.endgameDrainTimeout v1 v2) s = .next (s.done (w.endgameSteps v1 v2)) ∧
          w.flag Reg.BIST_EVT_DRAIN_INC = true ∧ w.qes = [] ∧ w.reqs = [])) ∧
      (s.mode ≠ .endgame → exec (.endgameDrainComplete v1 v2) s = .next (s.done s) ∧ exec (.endgameDrainTimeout v1 v2) s = .next (s.done s))) ∧
  (∀ (k : Nat) (res : SliceRes) (s : State), s.serving = true → s.bist.slice = some k → s.bist.startup = false → s.build.crypt = true →
    s.build.ring = true →
    (k < 5 → (∃ u : State, exec (.bistSliceDone res) s = .next (s.done u) ∧ u.bist.slice = some (k + 1) ∧ u.recWord (2 * k + 1) = res.sig) ∧
      (∃ u : State, exec .bistSliceBudgetExpiry s = .next (s.done u) ∧ u.bist.slice = some (k + 1) ∧ u.flag Reg.BIST_EVT_INCOMPLETE = true)) ∧
    (k = 5 → ∃ u : State, exec (.bistSliceDone res) s = .next (s.done u) ∧ u.bist.slice = none ∧ u.flag Reg.BIST_EVT_DONE = true ∧
      u.fld Reg.BIST_STAT_PHASE = 5 ∧ u.recWord 11 = res.sig)) ∧
  (∀ (res : SliceRes) (s : State), s.serving = true → s.bist.slice = none →
    exec (.bistSliceDone res) s = .next (s.done s) ∧ exec .bistSliceBudgetExpiry s = .next (s.done s))

/-- CAPTURE_WINDOW_CLOSE handles the reports of the earliest window one after another, F before U before D before C and then by lower
source number, one record for each source (its escalation apart); the reports of later windows stay. Every report of the window is handled.
With no report it does nothing (R486, R487). -/
def Obligations.WindowsAreHandledInOrder : Prop :=
  ∀ (v1 v2 : Bool) (s : State), s.serving = true →
    (s.fault.reports ≠ [] →
      ∃ (l : List Report) (w : State) (n : Nat), exec (.captureWindowClose v1 v2) s = .next (s.done (l.foldl (fun s r => s.handle v1 v2 r) w)) ∧
        w.fault.reports = s.fault.reports.filter (fun r => windowOf r.stamp ≠ n) ∧ { w with fault := s.fault, tempo := s.tempo, wraps := s.wraps } = s ∧
        l.Pairwise (fun a b => b.cls < a.cls ∨ a.cls = b.cls ∧ a.src ≤ b.src) ∧
        (∀ r ∈ l, ∃ x ∈ s.fault.reports, windowOf x.stamp = n ∧ { r with mult := x.mult } = x) ∧
        (∀ x ∈ s.fault.reports, windowOf x.stamp = n → ∃ r ∈ l, r.src = x.src ∧ r.esc = x.esc)) ∧
    (s.fault.reports = [] → exec (.captureWindowClose v1 v2) s = .next (s.done s))

/-- A report of class F alone in its window: its status bit is set, and the tile is in HALT with MEM_READY low, no lock, no queue entry
and no Check Timer (R488, R494, R495). -/
def Obligations.FatalReportHalts : Prop :=
  ∀ (v1 v2 : Bool) (r : Report) (s : State), s.serving = true → s.fault.reports = [r] → r.cls = 3 → r.src < 64 → s.mode ≠ .halt →
    ∃ u : State, exec (.captureWindowClose v1 v2) s = .next (s.done u) ∧ u.mode = .halt ∧ u.memReady = false ∧ u.qes = [] ∧ u.locks = [] ∧
      u.fault.timers = [] ∧ u.stsBit r.src = true

/-- The collector's other events. FAULT_REPORT of a listed source stamps it with Tempo and nothing else changes; an unlisted number
changes nothing. CHECK_TIMER_EXPIRY reports the earliest timer's source again as class F, and does nothing with no timer. A write of 1 clears
status bits but those of class F, with their timers. FIRST_FAULT_CLEAR empties the first-fault register. FORCE reports the sources whose bits it
sets. LOG_POP answers the oldest record's first word and moves the others to its registers where no stored bit has flipped; with the queue empty
it sets UNDER (R484, R486, R488-R492, R501, R502). -/
def Obligations.FaultRegistersAct : Prop :=
  (∀ (src loc aux : Nat) (akind : Bool) (addr : Nat) (s : State), s.serving = true →
    ((srcRow src).isSome = true → exec (.faultReport src loc aux akind addr) s = .next (keepPins s { s with fault := { s.fault with
      reports := s.fault.reports ++ [⟨s.tempo, src, loc % 256, aux % 2 ^ 16, akind, addr % 2 ^ 46, false, false, false⟩] } })) ∧
    (srcRow src = none → exec (.faultReport src loc aux akind addr) s = .next s)) ∧
  (∀ s : State, s.serving = true →
    (∀ t : ChkTimer, s.firstTimer = some t → ∃ u : State, exec .checkTimerExpiry s = .next (s.done u) ∧
      u.fault.timers = s.fault.timers.erase t ∧ u.flag Reg.FLTC_EVT_ESC = true ∧
      ∃ r ∈ u.fault.reports, r.src = t.src ∧ r.cls = 3 ∧ r.stamp = t.dl) ∧
    (s.firstTimer = none → exec .checkTimerExpiry s = .next (s.done s))) ∧
  (∀ (agent : BitVec 4) (s : State), s.pageFree agent 1 →
    (∀ (high : Bool) (w : Word), ∃ u : State, exec (.faultStatusClear agent high w) s = .next (keepPins s u.okAck) ∧
      ∀ x ∈ srcTable, (u.stsBit x.no = (s.stsBit x.no && !(decide (x.no / 32 = b2n high) && w.getLsbD (x.no % 32) && decide (x.cls ≠ 3)))) ∧
        (s.stsBit x.no = true → u.stsBit x.no = false → ∀ t ∈ u.fault.timers, t.src ≠ x.no)) ∧
    (∃ u : State, exec (.firstFaultClear agent) s = .next (keepPins s u.okAck) ∧ u.flag Reg.FLTC_FFCTL_VLD = false ∧
      (∀ i < 4, u.fld (Reg.FLTC_FF_FF i) = 0) ∧ u.fld (Reg.FLTC_SEEN_SEEN 0) = 0 ∧ u.fld (Reg.FLTC_SEEN_SEEN 1) = 0) ∧
    (∀ (r : FaultRec) (rest : List FaultRec), s.fault.log = r :: rest → ∃ u : State,
      exec (.logPop agent 0) s = .next (keepPins s (u.emit (.mgt r.w0 0))) ∧ u.fault.log = rest ∧ u.word (Reg.FLTC_LOGW_W 1).key = r.w1 ∧
      u.word (Reg.FLTC_LOGW_W 2).key = r.w2 ∧ u.word (Reg.FLTC_LOGW_W 3).key = r.w3) ∧
    (∀ upset : BitVec 128, s.fault.log = [] → ∃ (u : State) (w : Word), exec (.logPop agent upset) s = .next (keepPins s (u.emit (.mgt w 0))) ∧
      u.flag Reg.FLTC_LOGSTAT_UNDER = true ∧ u.fault = s.fault)) ∧
  (∀ (agent : BitVec 4) (page : Nat) (w : Word) (s : State), page < 0x1C → s.pageFree agent page → ∃ u : State,
    exec (.force agent page w) s = .next (keepPins s u.okAck) ∧ ∀ x ∈ srcTable,
      x.page = (if 0x8 ≤ page ∧ page ≤ 0xF then 0x8 else if 0x18 ≤ page ∧ page ≤ 0x1B then 0x18 else page) → w.getLsbD x.bit = true →
      x.cls ≠ 3 ∨ s.flag Reg.FLTC_CFG_FORCE_F = true → ∃ r ∈ u.fault.reports, r.src = x.no ∧ r.forced = true ∧ r.stamp = s.tempo)

/-- Claims. CLAIM of a free page takes it; its owner's RELEASE, the idle timeout, and the reset of its agent free it and drop what was
staged on it; another agent's claim is refused, and its release does nothing. No other page's claim changes (R523-R525). -/
def Obligations.ClaimsAreTakenAndFreed : Prop :=
  (∀ (agent : BitVec 4) (page : Nat) (s : State), s.serving = true → s.mode ≠ .sleep → mgtAgent agent.toNat = true → page < 0x1C →
    page ≠ 6 ∨ agent = 3 →
    (s.claim page = none → ∃ u : State, exec (.claim agent page) s = .next (keepPins s u.okAck) ∧ u.claim page = some ⟨agent.toNat, s.tempo⟩ ∧
      ∀ p, p ≠ page → u.claim p = s.claim p) ∧
    (∀ c : Claim, s.claim page = some c → c.agent ≠ agent.toNat → exec (.claim agent page) s = .next (keepPins s (s.emit (.mgt 0 1))) ∧
      exec (.release agent page) s = .next (keepPins s s.okAck)) ∧
    (∀ c : Claim, s.claim page = some c → c.agent = agent.toNat → ∃ u : State, exec (.release agent page) s = .next (keepPins s u.okAck) ∧
      u.claim page = none ∧ u.stg = s.stg.filter (fun e => e.1 / 0x1000 != page) ∧ ∀ p, p ≠ page → u.claim p = s.claim p)) ∧
  (∀ (page : Nat) (s : State), s.serving = true →
    (∀ c : Claim, page < 0x1C → s.claim page = some c → ∃ u : State,
      exec (.claimIdleTimeout page) s = .next (keepPins s u) ∧ u.claim page = none ∧ u.stg = s.stg.filter (fun e => e.1 / 0x1000 != page) ∧
      u.flag Reg.GLOB_CLAIMSTAT_BRK = true ∧ u.fld Reg.GLOB_CLAIMSTAT_CAUSE = 2 ∧ u.fld Reg.GLOB_CLAIMSTAT_PAGE = page) ∧
    (s.claim page = none → exec (.claimIdleTimeout page) s = .next s)) ∧
  (∀ s : State, s.serving = true →
    (∀ a : BitVec 2, ∃ u : State, exec (.agentReset a) s = .next (keepPins s u) ∧
      ∀ p < 0x1C, u.claim p = (s.claim p).filter (fun c => c.agent != a.toNat)) ∧
    (∃ u : State, exec .targetResetPattern s = .next (keepPins s u) ∧ ∀ p < 0x1C, u.claim p = (s.claim p).filter (fun c => c.agent != 2)))

/-- A write of an ordinary register on a free page: writable bits take the new value and bits written 1 of a write-1-to-clear field clear,
at once; staged bits take it in the staged view alone; every other bit stays. An agent the port does not accept is answered DECLINED and
nothing else happens (R9, R515, R516, R521). -/
def Obligations.RegisterWriteFollowsAccessKind : Prop :=
  (∀ (agent : BitVec 4) (p off : Nat) (w : Word) (v1 v2 : Bool) (s : State), s.pageFree agent p → s.pageBuilt p = true → p < 0x1C → 0x40 ≤ off →
    off < 0x1000 → off % 4 = 0 → p ≠ 6 → ¬ (p = 0x13 ∧ off = 0x044) → ¬ (p = 0x15 ∧ (off = 0x06C ∨ off = 0x070)) →
    s.ownWrite agent.toNat p off w v1 v2 = none →
    ∃ x : State, exec (.registerWrite agent (BitVec.ofNat 17 (p * 0x1000 + off)) w v1 v2) s =
        .next (s.done ((x.triggers agent.toNat p off w).wakeWork.okAck)) ∧
      x.word (regKey p off) = (s.word (regKey p off) &&& ~~~accMask p off .rw &&& ~~~(accMask p off .w1c &&& w)) ||| (w &&& accMask p off .rw) ∧
      (accMask p off .rs ≠ 0 → x.stagedWord (regKey p off) =
        (s.stagedWord (regKey p off) &&& ~~~accMask p off .rs) ||| (w &&& accMask p off .rs)) ∧
      { x with regs := s.regs, stg := s.stg } = s) ∧
  (∀ (agent : BitVec 4) (addr : BitVec 17) (w : Word) (v1 v2 : Bool) (s : State), s.serving = true → mgtAgent agent.toNat = false →
    exec (.registerWrite agent addr w v1 v2) s = .next (s.done (s.emit (.mgt 0 2))))

/-- The registers that stand for selected words. BENG_DATA and RPMR_PPRW1 stage the word a write gives and answer the selected one to a
read, SIDE_SPDDAT answers the selected word; each advances its index where AINC is 1 (R197, R328, R461). -/
def Obligations.DataRegistersStepTheirIndex : Prop :=
  (∀ (agent : BitVec 4) (w : Word) (s : State), s.pageFree agent 0x13 → s.fld Reg.BENG_IDX_SPACE = 0 → s.fld Reg.BENG_IDX_INDEX < 1024 →
    (∃ u : State, exec (.bengDataAccess agent (some w)) s = .next (keepPins s u.okAck) ∧
      u.tabWord bengReset false (s.fld Reg.BENG_IDX_INDEX) = w.toNat % 16 ∧
      u.fld Reg.BENG_IDX_INDEX = if s.flag Reg.BENG_IDX_AINC then s.fld Reg.BENG_IDX_INDEX + 1 else s.fld Reg.BENG_IDX_INDEX) ∧
    (∃ u : State, exec (.bengDataAccess agent none) s = .next (keepPins s (u.emit (.mgt (s.bengData (s.view agent.toNat 0x13)) 0))) ∧
      u.fld Reg.BENG_IDX_INDEX = if s.flag Reg.BENG_IDX_AINC then s.fld Reg.BENG_IDX_INDEX + 1 else s.fld Reg.BENG_IDX_INDEX)) ∧
  (∀ (agent : BitVec 4) (w : Word) (s : State), s.pageFree agent 0x15 →
    (∃ u : State, exec (.pprw1Access agent (some w)) s = .next (keepPins s u.okAck) ∧
      u.tabWord (fun _ => 0) false (pprKey (s.fld Reg.RPMR_PPRIDX_ENTRY) 1) = (w &&& accMask 0x15 0x070 .rs).toNat ∧
      u.fld Reg.RPMR_PPRIDX_ENTRY = if s.flag Reg.RPMR_PPRIDX_AINC then (s.fld Reg.RPMR_PPRIDX_ENTRY + 1) % 64 else s.fld Reg.RPMR_PPRIDX_ENTRY) ∧
    (∃ u : State, exec (.pprw1Access agent none) s = .next (keepPins s (u.emit (.mgt (s.pprData (s.view agent.toNat 0x15) 1) 0))) ∧
      u.fld Reg.RPMR_PPRIDX_ENTRY = if s.flag Reg.RPMR_PPRIDX_AINC then (s.fld Reg.RPMR_PPRIDX_ENTRY + 1) % 64 else s.fld Reg.RPMR_PPRIDX_ENTRY)) ∧
  (∀ (agent : BitVec 4) (s : State), s.pageFree agent 4 → ∃ u : State, exec (.spddatRead agent) s = .next (keepPins s (u.emit (.mgt s.spdData 0))) ∧
    u.fld Reg.SIDE_SPDIDX_IDX = if s.flag Reg.SIDE_SPDIDX_AINC then (s.fld Reg.SIDE_SPDIDX_IDX + 1) % 256 else s.fld Reg.SIDE_SPDIDX_IDX)

/-- COMMIT of a page without checks of its own takes a copy of its staged words, which waits where it changes something; COMMIT_SAFE_POINT
brings the copy into force once the page is at its safe point. A TIMG copy out of range is refused. A transfer on the target sideband, which
wakes CORE in SLEEP, is answered DECLINED where it spells no address, and otherwise reaches its register as agent 2 (R212, R422, R522, R527,
R528). -/
def Obligations.CommitAndSideband : Prop :=
  (∀ (agent : BitVec 4) (page : Nat) (w : Word) (s : State), s.pageFree agent page →
    (page ∈ [0, 1, 2, 3, 4, 0x14, 0x17] → s.copyChanges (s.stagedOf page) = true → accMask page 8 .rs = 0 → ∃ u : State,
      exec (.commit agent page w) s = .next (s.done u.okAck) ∧ u.copy page = some (s.stagedOf page) ∧ u.regs = s.regs) ∧
    (page = 0x11 → s.timgOk (s.stagedOf 0x11) = false → ∃ u : State, exec (.commit agent page w) s = .next (s.done u.okAck) ∧
      u.copy page = s.copy page ∧ u.flag Reg.TIMG_EVT_REFUSED = true)) ∧
  (∀ (page : Nat) (s : State), s.serving = true →
    (∀ c : Copy, s.copy page = some c → page ≠ 7 → heldPage page = false →
      (s.atSafePoint page = true → ¬ (page = 2 ∧ (s.power.idle.isSome = true ∨ s.power.vote.isSome = true)) →
        exec (.commitSafePoint page) s = .next (s.done (s.applyCopy page c)) ∧
        (page ∈ [0, 3, 4, 0x13, 0x14, 0x17] → (s.applyCopy page c).copy page = none)) ∧
      (s.atSafePoint page = false → exec (.commitSafePoint page) s = .next (s.done s))) ∧
    (s.copy page = none → exec (.commitSafePoint page) s = .next (s.done s))) ∧
  (∀ (bytes : List (BitVec 8)) (s x : State), s.serving = true → x = s.wakeEvent 2 false false →
    (bytes.length ≠ 7 ∨ sideAddr bytes = none → exec (.sidebandWrite bytes) s = .next (s.done (x.emit (.sideband 2 0)))) ∧
    (∀ a, bytes.length = 7 → sideAddr bytes = some a → ∃ (w : Word) (st : Nat) (y : State),
      (∀ i < 4, (w.toNat / 256 ^ i) % 256 = (nth 0 bytes (3 + i)).toNat) ∧ x.busWrite 2 a w 2 true true = (st, y) ∧
      exec (.sidebandWrite bytes) s = .next (s.done (y.emit (.sideband (BitVec.ofNat 2 st) 0)))) ∧
    (∀ (n : Nat) (upset : BitVec 128),
      (bytes.length ≠ 3 ∨ n ≠ 4 ∧ n ≠ 5 ∨ sideAddr bytes = none →
        exec (.sidebandRead bytes n upset) s = .next (keepPins s (x.emit (.sideband 2 0)))) ∧
      (∀ a, bytes.length = 3 → n = 4 ∨ n = 5 → sideAddr bytes = some a → ∃ (w : Word) (st : Nat) (y : State), x.busRead 2 a 2 upset = (st, w, y) ∧
        exec (.sidebandRead bytes n upset) s = .next (keepPins s (y.emit (.sideband (BitVec.ofNat 2 st) w))))))

/-- Numbering a ring none of whose links is broken. A tile takes the CW DISC's count plus 1 as its number and sends the message on so; back at
the anchor on the CW ring it is followed by one on the CCW ring, and with the same count on that one discovery ends; with 32 or more it
fails; a foreign anchor's stops it. DISC_DONE tells another tile the ring's size. DISC_REQ and the repeat timer make the anchor start an attempt,
the loop timeout fails it; elsewhere DISC_REQ passes by (R141-R143). -/
def Obligations.DiscoveryNumbersTiles : Prop :=
  ∀ (corr : Nat) (s x : State), s.serving = true → s.build.ring = true → s.mode ≠ .sleep → s.ring.broken = [] → x = s.bump Reg.RING_CNT0_CORR corr →
    (∀ count : BitVec 6, s.ring.anchor = false → s.flag Reg.RING_STAT_NUMBERED = false → count.toNat < 31 → ∃ u : State,
      exec (.disc corr .cw false count) s = .next (s.done u) ∧ u.fld Reg.RING_STAT_TILE_NO = count.toNat + 1 ∧
      ∃ m, .ring true m ∈ u.outputs ∧ m.type = 0x01 ∧ m.arg = count.toNat + 1) ∧
    (∀ count : BitVec 6, s.ring.anchor = true → s.ring.discRun = true → s.ring.discWait = false →
      (count.toNat < 32 → ∃ u : State, exec (.disc corr .cw false count) s = .next (s.done u) ∧ u.ring.discCw = some count.toNat ∧
        u.ring.discRun = true ∧ ∃ m, .ring false m ∈ u.outputs ∧ m.type = 0x01 ∧ m.arg = 0) ∧
      (s.ring.discCw = some count.toNat → count.toNat < 32 → ∃ u : State, exec (.disc corr .ccw false count) s = .next (s.done u) ∧
        u.ring.discRun = false ∧ u.flag Reg.RING_STAT_NUMBERED = true ∧ u.fld Reg.RING_STAT_TILES = count.toNat + 1 ∧
        u.fld Reg.RING_STAT_TILE_NO = 0) ∧
      (∀ dir : RingDir, 32 ≤ count.toNat → ∃ u : State, exec (.disc corr dir false count) s = .next (s.done u) ∧ u.ring.discWait = true ∧
        u.flag Reg.RING_EVT_OVERSIZE = true)) ∧
    (∀ (dir : RingDir) (count : BitVec 6), s.ring.anchor = true → ∃ u : State, exec (.disc corr dir true count) s = .next (s.done u) ∧
      u.ring.discStop = true ∧ u.flag Reg.RING_EVT_MULTI_ANCHOR = true) ∧
    (∀ total : BitVec 6, (s.ring.anchor = false → ∃ u : State, exec (.discDone corr total) s = .next (s.done u) ∧
        u.flag Reg.RING_STAT_NUMBERED = true ∧ u.fld Reg.RING_STAT_TILES = total.toNat) ∧
      (s.ring.anchor = true → exec (.discDone corr total) s = .next (s.done x))) ∧
    (s.ring.anchor = false → exec (.discReq corr) s = .next (s.done x)) ∧
    (s.ring.anchor = true → s.ring.discStop = false →
      (s.ring.discRun = false → ∃ u : State, exec (.discReq corr) s = .next (s.done u) ∧ u.ring.discRun = true ∧
        ∃ m, .ring true m ∈ u.outputs ∧ m.type = 0x01 ∧ m.arg = 0) ∧
      (s.ring.discRun = true → s.ring.discWait = true → ∃ u : State, exec .discRepeatTimer s = .next (s.done u) ∧ u.ring.discRun = true ∧
        u.ring.discWait = false ∧ ∃ m, .ring true m ∈ u.outputs ∧ m.type = 0x01 ∧ m.arg = 0)) ∧
    (s.ring.anchor = true → s.ring.discRun = true → s.ring.discWait = false → ∃ u : State, exec .discLoopTimeout s = .next (s.done u) ∧
      u.ring.discWait = true ∧ u.flag Reg.RING_EVT_DISC_FAIL = true)

/-- Links and losses. A link learnt broken is noted; one of this tile's own, the other not broken, is declared on the other ring, once LINK_TMO has
passed since the last message left on it. A refused flit, the last this tile sent there, is sent again and counted, and the eighth in a row
breaks the link; one that this tile refuses is reported to its sender. A message of an unknown type is dropped and counted, a deflected one of
this tile's goes round again. An unanswered mirror message is sent a second time; an unanswered forwarded request is lost, with source 0x24
(R137, R139, R140, R154, R155). -/
def Obligations.LinksAndLosses : Prop :=
  ∀ s : State, s.serving = true → s.build.ring = true →
    (∀ (corr : Nat) (src : BitVec 5) (ccw : Bool) (tile : BitVec 5), s.mode ≠ .sleep → s.ring.broken.contains (!ccw, tile.toNat) = false → ∃ u : State,
      exec (.linkDown corr src ccw tile) s = .next (s.done u) ∧ (!ccw, tile.toNat) ∈ u.ring.broken ∧ u.flag Reg.RING_EVT_LINK_DOWN = true) ∧
    (∀ dir : RingDir, s.ring.broken.contains (cwOf dir, s.tileNo) = false → s.ring.broken.contains (!cwOf dir, s.tileNo) = false →
      s.bist.ringBad = false → ∃ u : State, exec (.linkAckTimeout dir) s = .next (s.done u) ∧ (cwOf dir, s.tileNo) ∈ u.ring.broken ∧
        u.flag Reg.RING_EVT_LINK_DOWN = true ∧ u.flag (if cwOf dir then Reg.RING_STAT_CWO_UP else Reg.RING_STAT_CCWO_UP) = false ∧
        (∃ m, .ring (!cwOf dir) m ∈ u.outputs ∧ m.type = 0x12 ∧ m.bc = true) ∧
        ∀ m t, s.lastOn (cwOf dir) = some (m, t) → reached u.tempo (t + ns (1000 * s.fld Reg.RING_CTL_LINK_TMO)) = true) ∧
    (∀ dir : RingDir,
      (∀ m t, s.lastOn (cwOf dir) = some (m, t) → (if cwOf dir then s.ring.errCw else s.ring.errCcw) < 7 → ∃ (u : State) (d : BitVec 144),
        exec (.ringFlitError dir false) s = .next (s.done u) ∧ (ringFlits m).getLast? = some d ∧
        u.outputs = s.outputs ++ [.ringFlit (cwOf dir) d] ∧ u.fld Reg.RING_CNT0_RETRY = satAdd 16 (s.fld Reg.RING_CNT0_RETRY) 1) ∧
      (7 ≤ (if cwOf dir then s.ring.errCw else s.ring.errCcw) → ∃ u : State, exec (.ringFlitError dir false) s = .next (s.done u) ∧
        (cwOf dir, s.tileNo) ∈ u.ring.broken ∧ u.fld Reg.RING_CNT0_RETRY = s.fld Reg.RING_CNT0_RETRY) ∧
      exec (.ringFlitError dir true) s = .next (s.done (s.emit (.ringError (cwOf dir))))) ∧
    (∀ type : BitVec 8, (knownType type.toNat = false → exec (.ringUnknownType type) s = .next (s.done (s.bump Reg.RING_CNT0_RETRY))) ∧
      (knownType type.toNat = true → exec (.ringUnknownType type) s = .next (s.done s))) ∧
    (∀ (dir : RingDir) (msg : RingMsg),
      (msg.src = s.tileNo → msg.bc = false →
        exec (.ringDeflect dir msg) s = .next (s.done ((s.bump Reg.RING_CNT1_DEFLECT).emitRing (cwOf dir) msg))) ∧
      (msg.src ≠ s.tileNo → exec (.ringDeflect dir msg) s = .next (s.done s))) ∧
    (∀ (mseq : BitVec 12) (a : Await), s.ring.awaits.find? (fun a => a.mseq == mseq.toNat) = some a →
      (a.type = 0x0B ∨ a.type = 0x0D → a.again = false → s.ring.broken = [] → ∃ (u : State) (cw : Bool),
        exec (.rspTmoExpiry mseq) s = .next (s.done u) ∧ u.outputs = s.outputs ++ [.ring cw a.msg] ∧ u.flag Reg.RING_EVT_MIR_RESEND = true ∧
        ∀ x ∈ u.ring.awaits, x.mseq = mseq.toNat → x.again = true) ∧
      (a.type = 0x08 → (s.req? a.forWhat).isSome = true → ∃ u : State, exec (.rspTmoExpiry mseq) s = .next (s.done u) ∧
        u.flag Reg.RING_EVT_FWD_LOST = true ∧ ∃ r ∈ u.fault.reports, r.src = 0x24)) ∧
    (∀ mseq : BitVec 12, s.ring.awaits.find? (fun a => a.mseq == mseq.toNat) = none → exec (.rspTmoExpiry mseq) s = .next (s.done s))

/-- Agreeing on a map. An offer this tile has nothing against is held and passed on unrefused; one it refuses carries its number and
reason, and nothing is held; one refused already passes on as it is. The offering tile commits when its offer returns without refusal, and aborts
on a refusal or a timeout. A commit of the held offer begins the switch; an abort drops it (R116, R118, R119, R151). -/
def Obligations.MapsAreAgreed : Prop :=
  ∀ s : State, s.serving = true → s.build.ring = true → s.mode ≠ .sleep →
    (∀ (corr : Nat) (src : BitVec 5) (mseq : BitVec 12) (id : BitVec 8) (refuser : BitVec 5) (reason : BitVec 4) (words : List Word) (x : State),
      x = s.bump Reg.RING_CNT0_CORR corr →
      (x.offerRefusal src.toNat id.toNat words = none → s.ring.applied.contains (src.toNat, id.toNat) = false → ∃ (u : State) (m : RingMsg),
        exec (.mapOffer corr src mseq id false refuser reason words) s = .next (s.done (u.emitRing true m)) ∧
        u.ring.offer = some ⟨id.toNat, src.toNat, words, false, s.tempo, false⟩ ∧ m.type = 0x04 ∧ m.src = src.toNat ∧ m.arg / 2 ^ 8 % 2 = 0 ∧
        m.arg % 2 ^ 8 = id.toNat) ∧
      (∀ r, x.offerRefusal src.toNat id.toNat words = some r → ∃ m : RingMsg,
        exec (.mapOffer corr src mseq id false refuser reason words) s = .next (s.done (x.emitRing true m)) ∧
        m.type = 0x04 ∧ m.src = src.toNat ∧ m.arg = id.toNat + 2 ^ 8 + s.tileNo * 2 ^ 9 + r * 2 ^ 14) ∧
      (∃ m : RingMsg, exec (.mapOffer corr src mseq id true refuser reason words) s = .next (s.done (x.emitRing true m)) ∧
        m.type = 0x04 ∧ m.src = src.toNat ∧ m.arg = id.toNat + 2 ^ 8 + refuser.toNat * 2 ^ 9 + reason.toNat * 2 ^ 14)) ∧
    (∀ (corr : Nat) (o : Offer) (id : BitVec 8), s.ring.offer = some o → o.mine = true → o.id = id.toNat →
      (∃ u : State, exec (.mapOfferReturn corr id false) s = .next (s.done u) ∧ u.ring.offer = none ∧
        ∃ w, u.ring.switch = some w ∧ w.words = o.words) ∧
      (∃ u : State, exec (.mapOfferReturn corr id true) s = .next (s.done u) ∧ u.ring.offer = none ∧ u.copy 7 = none ∧
        u.ring.switch = s.ring.switch)) ∧
    (∀ o : Offer, s.ring.offer = some o → o.mine = true → ∃ u : State, exec .mapOfferTimeout s = .next (s.done u) ∧ u.ring.offer = none ∧
      u.copy 7 = none ∧ u.ring.switch = s.ring.switch) ∧
    (s.ring.offer = none → exec .mapOfferTimeout s = .next (s.done s)) ∧
    (∀ (corr : Nat) (src : BitVec 5) (id : BitVec 8) (o : Offer), src.toNat ≠ s.tileNo → s.ring.offer = some o → o.src = src.toNat → o.id = id.toNat →
      (s.ring.applied.contains (src.toNat, id.toNat) = false → ∃ u : State, exec (.mapCommit corr src id) s = .next (s.done u) ∧
        u.ring.offer = none ∧ u.ring.switch = some ⟨s.changedBy o.words, o.words, s.tempo, s.age⟩) ∧
      (∃ u : State, exec (.mapAbort corr src id) s = .next (s.done u) ∧ u.ring = { s.ring with offer := none }))

/-- A map takes effect and is retired; a range migrates. MAP_SWITCH, once the older requests have issued, gives every changed entry its
new words and releases what was held; before that it does nothing. MAP_RETIRE of another tile, AMAP_RETIRE.GO and RET_TMO at the offering tile
discard the retained versions. MIGRATION_GO starts a migration, one that runs keeping its entries; each MIGRATION_COPY_LINE moves on by one line
of this tile's share, or ends it, or does nothing while a line is being copied (R118, R119, R123, R125, R130, R133). -/
def Obligations.MapsSwitchRetireAndMigrate : Prop :=
  (∀ (w : Switch) (s : State), s.serving = true → s.ring.switch = some w →
    (s.mapDrained w = true → ∃ (u : State) (c : Req → Bool),
      exec .mapSwitch s = .next (s.done (u.decodeHeld c)) ∧ u.ring.switch = none ∧ u.flag Reg.AMAP_EVT_COMMITTED = true ∧ u.reqs = s.reqs ∧
      ∀ e ∈ w.changed, e < 16 → ∀ i < 12, i ≠ 2 → u.word (blockKey e i) = nth 0 w.words (12 * e + i)) ∧
    (s.mapDrained w = false → exec .mapSwitch s = .next (s.done s))) ∧
  (∀ s : State, s.serving = true → s.build.ring = true → s.mode ≠ .sleep →
    (∀ (corr : Nat) (src : BitVec 5) (id : BitVec 8), src.toNat ≠ s.tileNo → s.ring.applied.contains (src.toNat + 64, id.toNat) = false →
      ∃ u : State, exec (.mapRetire corr src id) s = .next (s.done u) ∧ u.retained = [] ∧ u.flag Reg.AMAP_EVT_RETIRED = true) ∧
    (∀ t, s.ring.offeredLast = true → s.ring.retire = some t →
      (∃ u : State, exec .retTmoExpiry s = .next (s.done u) ∧ u.retained = [] ∧ u.ring.retire = none ∧ u.flag Reg.AMAP_EVT_RETIRED = true) ∧
      ∀ agent : BitVec 4, s.pageFree agent 7 → ∃ u : State, exec (.mapRetireGo agent) s = .next (s.done u.okAck) ∧ u.retained = [] ∧
        u.ring.retire = none ∧ u.flag Reg.AMAP_EVT_RETIRED = true) ∧
    (s.ring.retire = none → exec .retTmoExpiry s = .next (s.done s))) ∧
  (∀ (agent rate dst src : BitVec 4) (s : State), s.pageFree agent 7 →
    (s.mig = none → ∃ u : State,
      exec (.migrationGo agent rate dst src) s = .next (s.done u.okAck) ∧ u.flag Reg.AMAP_MIGSTAT_DONE = false ∧
      u.mig = some ⟨src.toNat, dst.toNat, BitVec.ofNat 46 ((s.entry src.toNat).base * 2 ^ 14), false, 0, 0⟩) ∧
    (∀ g : Migration, s.mig = some g → ∃ u : State, exec (.migrationGo agent rate dst src) s = .next (s.done u.okAck) ∧ u.mig = some g ∧
      u.flag Reg.AMAP_MIGCTL_GO = true ∧ { u with regs := s.regs } = s)) ∧
  (∀ (g : Migration) (s : State), s.serving = true → s.mig = some g →
    (g.busy = false → (s.entry g.src).vld = false ∨ nextOwn (s.entry g.src) s.tileNo 80 g.next.toNat = none → ∃ u : State,
      exec .migrationCopyLine s = .next (s.done u) ∧ u.mig = none ∧ u.flag Reg.AMAP_EVT_MIG_DONE = true ∧ u.flag Reg.AMAP_MIGCTL_GO = false) ∧
    (∀ a, g.busy = false → (s.entry g.src).vld = true → nextOwn (s.entry g.src) s.tileNo 80 g.next.toNat = some a → ∃ u : State,
      exec .migrationCopyLine s = .next (s.done u) ∧
      u.mig = some { g with next := BitVec.ofNat 46 (a + 1), busy := true, cur := BitVec.ofNat 46 a, age := s.age }) ∧
    (g.busy = true → exec .migrationCopyLine s = .next (s.done s)))

/-- Requests between tiles. A forwarded request is answered at once in BRINGUP, ENDGAME or HALT, held while its entry switches, answered DECODE
with misroute where this tile's entry does not name it, and served where it does, at its version; the answer leaves on a ring where none of the
links is broken. Its lines enter the write data buffer. The answer becomes an ordinary response of the port that waits for it, one for the whole
request where its status says so; an answer that nothing waits for is dropped (R42, R119, R122, R146). -/
def Obligations.ForwardedRequests : Prop :=
  ∀ (corr : Nat) (src : BitVec 5) (mseq : BitVec 12) (s x : State), s.serving = true → s.build.ring = true → s.mode ≠ .sleep →
    x = s.bump Reg.RING_CNT0_CORR corr →
    (∀ (dl : Tempo) (promo : Bool) (ver : BitVec 8) (ent : BitVec 4) (op : Op) (f : RqFlit), s.reqs.all (fun r => r.rid != s.nextRid) = true →
      (∀ st, s.fwdStatus = some st → s.bist.ringBad = false → s.ring.broken = [] → ∃ (u : State) (cw : Bool) (m : RingMsg),
        exec (.fwdReq corr src mseq dl promo ver ent op f) s = .next (s.done u) ∧ .ring cw m ∈ u.outputs ∧ m.type = 0x0A ∧ m.dst = src.toNat ∧
        m.arg = mseq.toNat + st.code * 2 ^ 12) ∧
      (s.fwdStatus = none → x.switchHolds f.addr = true → ∃ u : State, exec (.fwdReq corr src mseq dl promo ver ent op f) s = .next (s.done u) ∧
        ∃ r ∈ u.reqs, r.rid = s.nextRid ∧ r.stage = .heldMap ∧ r.op = op ∧ r.flit = f ∧ r.org = .ring src.toNat mseq.toNat) ∧
      (s.fwdStatus = none → x.switchHolds f.addr = false → s.bist.ringBad = false → s.ring.broken = [] →
        (∀ e m ch cb, x.lookup f.addr = .here e m ch cb → e ≠ ent.toNat ∨ m.ver ≠ ver.toNat) →
        ∃ (u : State) (cw : Bool) (m : RingMsg), exec (.fwdReq corr src mseq dl promo ver ent op f) s = .next (s.done u) ∧
          .ring cw m ∈ u.outputs ∧ m.type = 0x0A ∧ m.dst = src.toNat ∧ m.arg = mseq.toNat + 4 * 2 ^ 12 + 2 ^ 16) ∧
      (∀ (m : MapEntry) (ch cb : Nat), s.fwdStatus = none → x.switchHolds f.addr = false → x.lookup f.addr = .here ent.toNat m ch cb →
        m.ver = ver.toNat → ∃ (r : Req) (w : State), exec (.fwdReq corr src mseq dl promo ver ent op f) s = .next (s.done (w.serveHere r true)) ∧
          r ∈ w.reqs ∧ r.op = op ∧ r.flit = f ∧ r.dl = dl ∧ r.org = .ring src.toNat mseq.toNat)) ∧
    (∀ (idx : BitVec 2) (data : LineData) (r : Req),
      x.reqs.find? (fun r => r.org == .ring src.toNat mseq.toNat && carriesData r.op) = some r → idx.toNat < r.lines →
      x.wbuf.any (fun w => w.rid == some r.rid && w.idx == idx.toNat) = false →
      exec (.fwdWd corr src mseq idx data) s =
        .next (s.done ((x.pushLine ⟨none, some r.rid, r.flit.tag, idx.toNat, data, 0⟩).levels.tryAnswer r.rid))) ∧
    (∀ (status : BitVec 4) (mis : Bool) (idx : BitVec 2) (data : LineData) (st : Status), st = statusOf status.toNat →
      (∀ (a : Await) (r : Req), s.awaitOf 0x08 mseq.toNat = some a → s.req? a.forWhat = some r →
        (∀ p : Nat, r.org = .port p → st.whole = false → ∃ u : State,
          exec (.fwdRsp corr src mseq status mis idx data) s = .next (s.done u) ∧ ∃ f ∈ (u.port p).ready, f.rid = r.rid ∧ f.tag = r.flit.tag ∧
            f.idx = idx.toNat ∧ f.status = st ∧ f.misroute = mis ∧ f.data = if st.code ≤ 1 then data else zeroLine) ∧
        (∀ y : State, st.whole = true → r.rsv = r.owed →
          y = (if st = .decode ∧ mis = true then (x.dropAwait mseq.toNat).bump Reg.AMAP_MISCNT_MIS else x.dropAwait mseq.toNat) →
          exec (.fwdRsp corr src mseq status mis idx data) s = .next (s.done
            ((y.answer r.rid st mis).freeLines (fun w => w.rid == some r.rid && carriesData r.op && !st.discards))))) ∧
      (s.awaitOf 0x08 mseq.toNat = none → exec (.fwdRsp corr src mseq status mis idx data) s = .next (s.done x)))

/-- Mirror traffic. MIRROR_WR and MIRROR_RD at a channel that serves place the write of the carried burst, and the read, at the same line;
at one that does not, and in ENDGAME and HALT, they are dropped. MIRROR_ACK ends its await and lets the write, or the line of a migration, it
belongs to complete; MIRROR_DATA goes to the read that waits for it; either that nothing waits for is dropped (R87, R147, R312, R313, R468). -/
def Obligations.MirrorTraffic : Prop :=
  ∀ (corr : Nat) (src : BitVec 5) (mseq : BitVec 12) (s x : State), s.serving = true → s.build.ring = true → s.mode ≠ .sleep →
    x = s.bump Reg.RING_CNT0_CORR corr →
    (∀ (ch : BitVec 2) (line : BitVec 32) (burst : Burst), s.chUp ch.toNat = true → s.mode ≠ .endgame → s.mode ≠ .halt →
      (∃ u : State, exec (.mirrorWr corr src mseq ch line burst) s = .next (s.done u) ∧
        ∃ q ∈ u.qes, q.src = .mirrorWr src.toNat mseq.toNat ∧ q.wr = true ∧ q.pay = .stored burst ∧ q.loc = s.placeOf ch.toNat line.toNat) ∧
      (∃ u : State, exec (.mirrorRd corr src mseq ch line) s = .next (s.done u) ∧
        ∃ q ∈ u.qes, q.src = .mirrorRd src.toNat mseq.toNat ∧ q.wr = false ∧ q.loc = s.placeOf ch.toNat line.toNat)) ∧
    (∀ (ch : BitVec 2) (line : BitVec 32) (burst : Burst), s.chUp ch.toNat = false ∨ s.mode = .endgame ∨ s.mode = .halt →
      exec (.mirrorWr corr src mseq ch line burst) s = .next (s.done x) ∧ exec (.mirrorRd corr src mseq ch line) s = .next (s.done x)) ∧
    (∀ a : Await, x.awaitOf 0x0B mseq.toNat = some a →
      (a.forWhat ≠ 0 → exec (.mirrorAck corr src mseq) s =
        .next (s.done (((x.dropAwait mseq.toNat).mapQE a.forWhat (fun q => { q with acks := q.acks - 1 })).sweep))) ∧
      (a.forWhat = 0 → exec (.mirrorAck corr src mseq) s = .next (s.done (x.dropAwait mseq.toNat).migStep))) ∧
    (x.awaitOf 0x0B mseq.toNat = none → exec (.mirrorAck corr src mseq) s = .next (s.done x)) ∧
    (∀ burst : Burst,
      (∀ a : Await, x.awaitOf 0x0D mseq.toNat = some a →
        exec (.mirrorData corr src mseq burst) s = .next (s.done ((x.dropAwait mseq.toNat).mirrorResult a.forWhat (some burst)))) ∧
      (x.awaitOf 0x0D mseq.toNat = none → exec (.mirrorData corr src mseq burst) s = .next (s.done x)))

/-- Refresh tokens on a ring none of whose links is broken. A token is held while an all-bank refresh could start with it, and goes on to the CW
neighbour otherwise, in SLEEP and ENDGAME at once; its hold's expiry sends it on, and does nothing for one not held. The anchor issues one again
that has not returned in time, and removes a duplicate of one it holds (R149, R150, R423, R468). -/
def Obligations.TokensGoRound : Prop :=
  ∀ (num : BitVec 3) (s : State), s.serving = true → s.build.ring = true → s.ring.broken = [] →
    (∀ corr : Nat, s.ring.tokens.any (fun t => t.1 == num.toNat) = false → s.ring.tokBack.contains num.toNat = false →
      (s.mode ≠ .sleep → s.mode ≠ .endgame →
        ∃ (w u : State), exec (.refToken corr num) s = .next (s.done u) ∧ w.ring.tokens = s.ring.tokens ++ [(num.toNat, s.tempo)] ∧
          (w.refabWaiting = true → u = w) ∧
          (w.refabWaiting = false → u.ring.tokens = [] ∧ ∃ m, .ring true m ∈ u.outputs ∧ m.type = 0x10 ∧ m.arg = num.toNat)) ∧
      (s.mode = .sleep ∨ s.mode = .endgame →
        ∃ u : State, exec (.refToken corr num) s = .next (s.done u) ∧ u.ring.tokens = s.ring.tokens ∧
          ∃ m, .ring true m ∈ u.outputs ∧ m.type = 0x10 ∧ m.arg = num.toNat)) ∧
    (∀ corr : Nat, s.ring.tokens.any (fun t => t.1 == num.toNat) = true → s.ring.anchor = true →
      ∃ u : State, exec (.refToken corr num) s = .next (s.done u) ∧ u.ring.tokens = s.ring.tokens ∧ u.outputs = s.outputs) ∧
    (s.ring.tokens.any (fun t => t.1 == num.toNat) = true → ∃ u : State, exec (.tokenHoldExpiry num) s = .next (s.done u) ∧
      u.ring.tokens = s.ring.tokens.filter (fun t => t.1 != num.toNat) ∧ ∃ m, .ring true m ∈ u.outputs ∧ m.type = 0x10 ∧ m.arg = num.toNat) ∧
    (s.ring.tokens.any (fun t => t.1 == num.toNat) = false → exec (.tokenHoldExpiry num) s = .next (s.done s)) ∧
    (s.ring.anchor = true → s.ring.tokOut.any (fun t => t.1 == num.toNat) = true → ∃ u : State,
      exec (.tokenReturnTimeout num) s = .next (s.done u) ∧ u.flag Reg.RING_EVT_TOK_REGEN = true ∧
        ∃ m, .ring true m ∈ u.outputs ∧ m.type = 0x10 ∧ m.arg = num.toNat) ∧
    (s.ring.tokOut.any (fun t => t.1 == num.toNat) = false → exec (.tokenReturnTimeout num) s = .next (s.done s))

/-- FAULT_NOTE of another tile sets RING_EVT.NOTE and shows the note in RING_NOTE and RING_NOTET, in SLEEP too; beyond the words corrected on the
way nothing else changes. This tile's own only counts those words (R139, R152, R497). -/
def Obligations.FaultNoteOnlyShows : Prop :=
  ∀ (corr : Nat) (src : BitVec 5) (cls : BitVec 2) (srcNo : BitVec 8) (t : Tempo) (s : State), s.serving = true → s.build.ring = true →
    (src.toNat ≠ s.tileNo → ∃ u : State, exec (.faultNote corr src cls srcNo t) s = .next (s.done u) ∧ u.flag Reg.RING_EVT_NOTE = true ∧
      u.fld Reg.RING_NOTE_TILE = src.toNat ∧ u.fld Reg.RING_NOTE_SRC = srcNo.toNat ∧ u.fld Reg.RING_NOTE_CLASS = cls.toNat ∧
      u.fld Reg.RING_NOTET_TEMPO = t.toNat / 256 ∧ { u with regs := s.regs } = s ∧
      (∀ g : FRef, g.lo ≤ g.hi → g.hi < 32 →
        [Reg.RING_CNT0_CORR, Reg.RING_NOTE_TILE, Reg.RING_NOTE_SRC, Reg.RING_NOTE_CLASS, Reg.RING_NOTET_TEMPO, Reg.RING_EVT_NOTE].all
          (fun f => decide (f.key ≠ g.key) || decide (f.hi < g.lo) || decide (g.hi < f.lo)) = true → u.fld g = s.fld g)) ∧
    (src.toNat = s.tileNo → exec (.faultNote corr src cls srcNo t) s = .next (s.done (s.bump Reg.RING_CNT0_CORR corr)))

/-- R33: len 0b00, 0b01 and 0b10 stand for 1, 2 and 4 lines of a read or write, and 0b11 is illegal for every opcode but FLUSH, which
ignores len (R35). A value of the opcode field that no row has is illegal (R34). -/
def Obligations.LengthEncoding : Prop :=
  (∀ r : Req, r.op = .rd ∨ r.op = .wr → (r.flit.len = 0 → r.lines = 1) ∧ (r.flit.len = 1 → r.lines = 2) ∧ (r.flit.len = 2 → r.lines = 4)) ∧
  (∀ r : Req, r.op ≠ .flush → r.flit.len = 3 → reqIllegal r = true) ∧
  (∀ r : Req, listedOp r.op = false → reqIllegal r = true)

/-- R114: with bank hashing on, the selected bank group bits are XORed with row bits [2:0] and the selected bank bits with row bits [4:3];
row, column, subchannel and rank are as without hashing. -/
def Obligations.BankHash : Prop :=
  ∀ (d : ChDec) (c l : Nat), d.bhash = true →
    ∃ x : Loc, x = { d with bhash := false }.loc c l ∧ d.loc c l = { x with bk := 4 * (x.bk / 4 ^^^ x.row % 8) + (x.bk % 4 ^^^ x.row / 8 % 4) }
end

