-- ==== Sys2Proof/Laws/Tab.lean ====
section
/-! SUPPORT. Sparse tables: what a key reads as after a write, and that a write keeps the canonical form. -/

namespace Sys2Proof.Machine

theorem tget_tdel {α : Type} (d : α) (t : Tab α) (k j : Nat) : tget d (tdel k t) j = if j = k then d else tget d t j := by
  induction t with
  | nil => simp [tget, tdel]
  | cons a t ih =>
    obtain ⟨x, v⟩ := a
    simp only [tdel]
    split
    · rw [ih]; split
      · rfl
      · rename_i h1 h2; simp [tget]; omega
    · simp only [tget]; split
      · split
        · omega
        · rfl
      · exact ih

theorem tget_tins {α : Type} (d : α) (t : Tab α) (k j : Nat) (v : α) (h : ∀ e ∈ t, e.1 ≠ k) :
    tget d (tins k v t) j = if j = k then v else tget d t j := by
  induction t with
  | nil => simp only [tins, tget, eq_comm]
  | cons a t ih =>
    obtain ⟨x, w⟩ := a
    have hx : x ≠ k := h (x, w) (by simp)
    have ih := ih (fun e he => h e (by simp [he]))
    simp only [tins]
    split
    · simp only [tget]; by_cases h1 : k = j <;> simp [h1, eq_comm]
    · simp only [tget]; split
      · split
        · omega
        · rfl
      · exact ih

theorem tdel_ne {α : Type} (t : Tab α) (k : Nat) : ∀ e ∈ tdel k t, e.1 ≠ k := by
  induction t with
  | nil => simp [tdel]
  | cons a t ih =>
    obtain ⟨x, v⟩ := a
    simp only [tdel]
    split
    · exact ih
    · intro e he
      simp only [List.mem_cons] at he
      rcases he with rfl | he
      · assumption
      · exact ih e he

/-- Reading a table after a write. -/
@[simp] theorem tget_tput {α : Type} [DecidableEq α] (d : α) (t : Tab α) (k j : Nat) (v : α) :
    tget d (tput d k v t) j = if j = k then v else tget d t j := by
  unfold tput; split
  · subst v; rw [tget_tdel]
  · rw [tget_tins _ _ _ _ _ (tdel_ne t k), tget_tdel]; split <;> simp_all

theorem tget_tput_ne {α : Type} [DecidableEq α] (d e : α) (t : Tab α) (k j : Nat) (v : α) (h : j ≠ k) :
    tget d (tput e k v t) j = tget d t j := by
  unfold tput; split
  · rw [tget_tdel, if_neg h]
  · rw [tget_tins _ _ _ _ _ (tdel_ne t k), tget_tdel, if_neg h, if_neg h]

/-! ## The canonical form -/

/-- The canonical form, said of all pairs at once. -/
def Tab.good {α : Type} (d : Nat → α) (t : Tab α) : Prop := t.Pairwise (fun a b => a.1 < b.1) ∧ ∀ e ∈ t, e.2 ≠ d e.1

theorem Tab.wf_iff_good {α : Type} [DecidableEq α] (d : Nat → α) (t : Tab α) : Tab.wf d t = true ↔ Tab.good d t := by
  induction t with
  | nil => simp [Tab.wf, Tab.good]
  | cons a t ih =>
    cases t with
    | nil => obtain ⟨k, v⟩ := a; simp [Tab.wf, Tab.good]
    | cons b t =>
      obtain ⟨k, v⟩ := a; obtain ⟨k', v'⟩ := b
      simp only [Tab.wf, Bool.and_eq_true, decide_eq_true_eq, ih]
      simp only [Tab.good, List.pairwise_cons, List.mem_cons, forall_eq_or_imp]
      constructor
      · rintro ⟨⟨h1, h2⟩, ⟨h3, h4⟩, h5, h6⟩
        exact ⟨⟨⟨h2, fun e he => Nat.lt_trans h2 (h3 e he)⟩, h3, h4⟩, h1, h5, h6⟩
      · rintro ⟨⟨⟨h2, _⟩, h3, h4⟩, h1, h5, h6⟩
        exact ⟨⟨h1, h2⟩, ⟨h3, h4⟩, h5, h6⟩

theorem mem_tdel {α : Type} (k : Nat) (t : Tab α) (e : Nat × α) (h : e ∈ tdel k t) : e ∈ t ∧ e.1 ≠ k := by
  refine ⟨?_, tdel_ne t k e h⟩
  induction t with
  | nil => exact h
  | cons a t ih =>
    obtain ⟨x, v⟩ := a
    simp only [tdel] at h
    split at h
    · exact List.mem_cons_of_mem _ (ih h)
    · rcases List.mem_cons.1 h with rfl | h
      · exact List.mem_cons_self
      · exact List.mem_cons_of_mem _ (ih h)

theorem Tab.good_tdel {α : Type} (d : Nat → α) (k : Nat) (t : Tab α) (h : Tab.good d t) : Tab.good d (tdel k t) := by
  refine ⟨?_, fun e he => h.2 e (mem_tdel k t e he).1⟩
  replace h := h.1
  induction t with
  | nil => exact List.Pairwise.nil
  | cons a t ih =>
    obtain ⟨x, v⟩ := a
    rw [List.pairwise_cons] at h
    simp only [tdel]
    split
    · exact ih h.2
    · exact List.pairwise_cons.2 ⟨fun e he => h.1 e (mem_tdel k t e he).1, ih h.2⟩

theorem mem_tins {α : Type} (k : Nat) (v : α) (t : Tab α) (e : Nat × α) (h : e ∈ tins k v t) : e = (k, v) ∨ e ∈ t := by
  induction t with
  | nil => simpa [tins] using h
  | cons a t ih =>
    obtain ⟨x, w⟩ := a
    simp only [tins] at h
    split at h
    · rcases List.mem_cons.1 h with h | h
      · exact .inl h
      · exact .inr h
    · rcases List.mem_cons.1 h with rfl | h
      · exact .inr List.mem_cons_self
      · rcases ih h with h | h
        · exact .inl h
        · exact .inr (List.mem_cons_of_mem _ h)

theorem Tab.good_tins {α : Type} (d : Nat → α) (k : Nat) (v : α) (t : Tab α) (h : Tab.good d t) (hk : ∀ e ∈ t, e.1 ≠ k) (hv : v ≠ d k) :
    Tab.good d (tins k v t) := by
  refine ⟨?_, fun e he => ?_⟩
  · replace h := h.1
    induction t with
    | nil => simp [tins]
    | cons a t ih =>
      obtain ⟨x, w⟩ := a
      have hx : x ≠ k := hk (x, w) List.mem_cons_self
      rw [List.pairwise_cons] at h
      simp only [tins]
      split
      · rename_i hlt
        refine List.pairwise_cons.2 ⟨fun e he => ?_, List.pairwise_cons.2 h⟩
        rcases List.mem_cons.1 he with rfl | he
        · exact hlt
        · exact Nat.lt_trans hlt (h.1 e he)
      · refine List.pairwise_cons.2 ⟨fun e he => ?_, ih (fun e he => hk e (List.mem_cons_of_mem _ he)) h.2⟩
        rcases mem_tins k v t e he with rfl | he
        · show x < k; omega
        · exact h.1 e he
  · rcases mem_tins k v t e he with rfl | he
    · exact hv
    · exact h.2 e he

/-- A write keeps the canonical form. -/
theorem Tab.wf_tput {α : Type} [DecidableEq α] (d : Nat → α) (k : Nat) (v : α) (t : Tab α) (h : Tab.wf d t = true) :
    Tab.wf d (tput (d k) k v t) = true := by
  rw [Tab.wf_iff_good] at *
  unfold tput
  split
  · exact Tab.good_tdel d k t h
  · exact Tab.good_tins d k v _ (Tab.good_tdel d k t h) (tdel_ne t k) (by assumption)

end Sys2Proof.Machine
end

