-- ==== Sys2Proof/Laws/State.lean ====
section
/-! SUPPORT. The accessors of the state over its updates: what an update leaves as it was, one lemma per field and update, and what it
writes. -/

namespace Sys2Proof.Machine

open Sys2Proof

/-! ## What an update writes -/

@[simp] theorem State.emit_outputs' (s : State) (o : Output) : (s.emit o).outputs = s.outputs ++ [o] := rfl

@[simp] theorem State.setPort_port (s : State) (i j : Nat) (x : Port) : (s.setPort i x).port j = if j = i then x else s.port j := by
  simp [State.port, State.setPort]

@[simp] theorem State.setSub_sub (s : State) (i j : Nat) (x : Sub) : (s.setSub i x).sub j = if j = i then x else s.sub j := by
  simp [State.sub, State.setSub]

@[simp] theorem State.setEng_eng (s : State) (i j : Nat) (x : Eng) : (s.setEng i x).eng j = if j = i then x else s.eng j := by
  simp [State.eng, State.setEng]

@[simp] theorem State.setGroup_group (s : State) (i j : Nat) (x : Group) : (s.setGroup i x).group j = if j = i then x else s.group j := by
  simp [State.group, State.setGroup]

@[simp] theorem State.setPhy_phy (s : State) (i j : Nat) (x : Phy) : (s.setPhy i x).phy j = if j = i then x else s.phy j := by
  simp [State.phy, State.setPhy]

/-! ## What an update leaves -/

@[simp] theorem State.setWord_mode (s : State) (k : Nat) (w : Word) : (s.setWord k w).mode = s.mode := rfl
@[simp] theorem State.setWord_build (s : State) (k : Nat) (w : Word) : (s.setWord k w).build = s.build := rfl
@[simp] theorem State.setWord_resetN (s : State) (k : Nat) (w : Word) : (s.setWord k w).resetN = s.resetN := rfl
@[simp] theorem State.setWord_frozen (s : State) (k : Nat) (w : Word) : (s.setWord k w).frozen = s.frozen := rfl
@[simp] theorem State.setWord_tempo (s : State) (k : Nat) (w : Word) : (s.setWord k w).tempo = s.tempo := rfl
@[simp] theorem State.setWord_reqs (s : State) (k : Nat) (w : Word) : (s.setWord k w).reqs = s.reqs := rfl
@[simp] theorem State.setWord_wbuf (s : State) (k : Nat) (w : Word) : (s.setWord k w).wbuf = s.wbuf := rfl
@[simp] theorem State.setWord_locks (s : State) (k : Nat) (w : Word) : (s.setWord k w).locks = s.locks := rfl
@[simp] theorem State.setWord_qes (s : State) (k : Nat) (w : Word) : (s.setWord k w).qes = s.qes := rfl
@[simp] theorem State.setWord_ports (s : State) (k : Nat) (w : Word) : (s.setWord k w).ports = s.ports := rfl
@[simp] theorem State.setWord_subs (s : State) (k : Nat) (w : Word) : (s.setWord k w).subs = s.subs := rfl
@[simp] theorem State.setWord_engs (s : State) (k : Nat) (w : Word) : (s.setWord k w).engs = s.engs := rfl
@[simp] theorem State.setWord_groups (s : State) (k : Nat) (w : Word) : (s.setWord k w).groups = s.groups := rfl
@[simp] theorem State.setWord_fault (s : State) (k : Nat) (w : Word) : (s.setWord k w).fault = s.fault := rfl
@[simp] theorem State.setWord_ring (s : State) (k : Nat) (w : Word) : (s.setWord k w).ring = s.ring := rfl
@[simp] theorem State.setWord_repair (s : State) (k : Nat) (w : Word) : (s.setWord k w).repair = s.repair := rfl
@[simp] theorem State.setWord_crypt (s : State) (k : Nat) (w : Word) : (s.setWord k w).crypt = s.crypt := rfl
@[simp] theorem State.setWord_power (s : State) (k : Nat) (w : Word) : (s.setWord k w).power = s.power := rfl
@[simp] theorem State.setWord_startup (s : State) (k : Nat) (w : Word) : (s.setWord k w).startup = s.startup := rfl
@[simp] theorem State.setWord_bist (s : State) (k : Nat) (w : Word) : (s.setWord k w).bist = s.bist := rfl
@[simp] theorem State.setWord_phys (s : State) (k : Nat) (w : Word) : (s.setWord k w).phys = s.phys := rfl
@[simp] theorem State.setWord_outputs (s : State) (k : Nat) (w : Word) : (s.setWord k w).outputs = s.outputs := rfl
@[simp] theorem State.setWord_pending (s : State) (k : Nat) (w : Word) : (s.setWord k w).pending = s.pending := rfl
@[simp] theorem State.setWord_serving (s : State) (k : Nat) (w : Word) : (s.setWord k w).serving = s.serving := rfl
@[simp] theorem State.setWord_port (s : State) (k : Nat) (w : Word) (j : Nat) : (s.setWord k w).port j = s.port j := rfl
@[simp] theorem State.setWord_sub (s : State) (k : Nat) (w : Word) (j : Nat) : (s.setWord k w).sub j = s.sub j := rfl
@[simp] theorem State.setWord_eng (s : State) (k : Nat) (w : Word) (j : Nat) : (s.setWord k w).eng j = s.eng j := rfl
@[simp] theorem State.setWord_group (s : State) (k : Nat) (w : Word) (j : Nat) : (s.setWord k w).group j = s.group j := rfl
@[simp] theorem State.setWord_phy (s : State) (k : Nat) (w : Word) (j : Nat) : (s.setWord k w).phy j = s.phy j := rfl

@[simp] theorem State.setFld_mode (s : State) (f : FRef) (v : Nat) : (s.setFld f v).mode = s.mode := rfl
@[simp] theorem State.setFld_build (s : State) (f : FRef) (v : Nat) : (s.setFld f v).build = s.build := rfl
@[simp] theorem State.setFld_resetN (s : State) (f : FRef) (v : Nat) : (s.setFld f v).resetN = s.resetN := rfl
@[simp] theorem State.setFld_frozen (s : State) (f : FRef) (v : Nat) : (s.setFld f v).frozen = s.frozen := rfl
@[simp] theorem State.setFld_tempo (s : State) (f : FRef) (v : Nat) : (s.setFld f v).tempo = s.tempo := rfl
@[simp] theorem State.setFld_reqs (s : State) (f : FRef) (v : Nat) : (s.setFld f v).reqs = s.reqs := rfl
@[simp] theorem State.setFld_wbuf (s : State) (f : FRef) (v : Nat) : (s.setFld f v).wbuf = s.wbuf := rfl
@[simp] theorem State.setFld_locks (s : State) (f : FRef) (v : Nat) : (s.setFld f v).locks = s.locks := rfl
@[simp] theorem State.setFld_qes (s : State) (f : FRef) (v : Nat) : (s.setFld f v).qes = s.qes := rfl
@[simp] theorem State.setFld_ports (s : State) (f : FRef) (v : Nat) : (s.setFld f v).ports = s.ports := rfl
@[simp] theorem State.setFld_subs (s : State) (f : FRef) (v : Nat) : (s.setFld f v).subs = s.subs := rfl
@[simp] theorem State.setFld_engs (s : State) (f : FRef) (v : Nat) : (s.setFld f v).engs = s.engs := rfl
@[simp] theorem State.setFld_groups (s : State) (f : FRef) (v : Nat) : (s.setFld f v).groups = s.groups := rfl
@[simp] theorem State.setFld_fault (s : State) (f : FRef) (v : Nat) : (s.setFld f v).fault = s.fault := rfl
@[simp] theorem State.setFld_ring (s : State) (f : FRef) (v : Nat) : (s.setFld f v).ring = s.ring := rfl
@[simp] theorem State.setFld_repair (s : State) (f : FRef) (v : Nat) : (s.setFld f v).repair = s.repair := rfl
@[simp] theorem State.setFld_crypt (s : State) (f : FRef) (v : Nat) : (s.setFld f v).crypt = s.crypt := rfl
@[simp] theorem State.setFld_power (s : State) (f : FRef) (v : Nat) : (s.setFld f v).power = s.power := rfl
@[simp] theorem State.setFld_startup (s : State) (f : FRef) (v : Nat) : (s.setFld f v).startup = s.startup := rfl
@[simp] theorem State.setFld_bist (s : State) (f : FRef) (v : Nat) : (s.setFld f v).bist = s.bist := rfl
@[simp] theorem State.setFld_phys (s : State) (f : FRef) (v : Nat) : (s.setFld f v).phys = s.phys := rfl
@[simp] theorem State.setFld_outputs (s : State) (f : FRef) (v : Nat) : (s.setFld f v).outputs = s.outputs := rfl
@[simp] theorem State.setFld_pending (s : State) (f : FRef) (v : Nat) : (s.setFld f v).pending = s.pending := rfl
@[simp] theorem State.setFld_serving (s : State) (f : FRef) (v : Nat) : (s.setFld f v).serving = s.serving := rfl
@[simp] theorem State.setFld_port (s : State) (f : FRef) (v : Nat) (j : Nat) : (s.setFld f v).port j = s.port j := rfl
@[simp] theorem State.setFld_sub (s : State) (f : FRef) (v : Nat) (j : Nat) : (s.setFld f v).sub j = s.sub j := rfl
@[simp] theorem State.setFld_eng (s : State) (f : FRef) (v : Nat) (j : Nat) : (s.setFld f v).eng j = s.eng j := rfl
@[simp] theorem State.setFld_group (s : State) (f : FRef) (v : Nat) (j : Nat) : (s.setFld f v).group j = s.group j := rfl
@[simp] theorem State.setFld_phy (s : State) (f : FRef) (v : Nat) (j : Nat) : (s.setFld f v).phy j = s.phy j := rfl

@[simp] theorem State.set1_mode (s : State) (f : FRef) : (s.set1 f).mode = s.mode := rfl
@[simp] theorem State.set1_build (s : State) (f : FRef) : (s.set1 f).build = s.build := rfl
@[simp] theorem State.set1_resetN (s : State) (f : FRef) : (s.set1 f).resetN = s.resetN := rfl
@[simp] theorem State.set1_frozen (s : State) (f : FRef) : (s.set1 f).frozen = s.frozen := rfl
@[simp] theorem State.set1_tempo (s : State) (f : FRef) : (s.set1 f).tempo = s.tempo := rfl
@[simp] theorem State.set1_reqs (s : State) (f : FRef) : (s.set1 f).reqs = s.reqs := rfl
@[simp] theorem State.set1_wbuf (s : State) (f : FRef) : (s.set1 f).wbuf = s.wbuf := rfl
@[simp] theorem State.set1_locks (s : State) (f : FRef) : (s.set1 f).locks = s.locks := rfl
@[simp] theorem State.set1_qes (s : State) (f : FRef) : (s.set1 f).qes = s.qes := rfl
@[simp] theorem State.set1_ports (s : State) (f : FRef) : (s.set1 f).ports = s.ports := rfl
@[simp] theorem State.set1_subs (s : State) (f : FRef) : (s.set1 f).subs = s.subs := rfl
@[simp] theorem State.set1_engs (s : State) (f : FRef) : (s.set1 f).engs = s.engs := rfl
@[simp] theorem State.set1_groups (s : State) (f : FRef) : (s.set1 f).groups = s.groups := rfl
@[simp] theorem State.set1_fault (s : State) (f : FRef) : (s.set1 f).fault = s.fault := rfl
@[simp] theorem State.set1_ring (s : State) (f : FRef) : (s.set1 f).ring = s.ring := rfl
@[simp] theorem State.set1_repair (s : State) (f : FRef) : (s.set1 f).repair = s.repair := rfl
@[simp] theorem State.set1_crypt (s : State) (f : FRef) : (s.set1 f).crypt = s.crypt := rfl
@[simp] theorem State.set1_power (s : State) (f : FRef) : (s.set1 f).power = s.power := rfl
@[simp] theorem State.set1_startup (s : State) (f : FRef) : (s.set1 f).startup = s.startup := rfl
@[simp] theorem State.set1_bist (s : State) (f : FRef) : (s.set1 f).bist = s.bist := rfl
@[simp] theorem State.set1_phys (s : State) (f : FRef) : (s.set1 f).phys = s.phys := rfl
@[simp] theorem State.set1_outputs (s : State) (f : FRef) : (s.set1 f).outputs = s.outputs := rfl
@[simp] theorem State.set1_pending (s : State) (f : FRef) : (s.set1 f).pending = s.pending := rfl
@[simp] theorem State.set1_serving (s : State) (f : FRef) : (s.set1 f).serving = s.serving := rfl
@[simp] theorem State.set1_port (s : State) (f : FRef) (j : Nat) : (s.set1 f).port j = s.port j := rfl
@[simp] theorem State.set1_sub (s : State) (f : FRef) (j : Nat) : (s.set1 f).sub j = s.sub j := rfl
@[simp] theorem State.set1_eng (s : State) (f : FRef) (j : Nat) : (s.set1 f).eng j = s.eng j := rfl
@[simp] theorem State.set1_group (s : State) (f : FRef) (j : Nat) : (s.set1 f).group j = s.group j := rfl
@[simp] theorem State.set1_phy (s : State) (f : FRef) (j : Nat) : (s.set1 f).phy j = s.phy j := rfl

@[simp] theorem State.clr_mode (s : State) (f : FRef) : (s.clr f).mode = s.mode := rfl
@[simp] theorem State.clr_build (s : State) (f : FRef) : (s.clr f).build = s.build := rfl
@[simp] theorem State.clr_resetN (s : State) (f : FRef) : (s.clr f).resetN = s.resetN := rfl
@[simp] theorem State.clr_frozen (s : State) (f : FRef) : (s.clr f).frozen = s.frozen := rfl
@[simp] theorem State.clr_tempo (s : State) (f : FRef) : (s.clr f).tempo = s.tempo := rfl
@[simp] theorem State.clr_reqs (s : State) (f : FRef) : (s.clr f).reqs = s.reqs := rfl
@[simp] theorem State.clr_wbuf (s : State) (f : FRef) : (s.clr f).wbuf = s.wbuf := rfl
@[simp] theorem State.clr_locks (s : State) (f : FRef) : (s.clr f).locks = s.locks := rfl
@[simp] theorem State.clr_qes (s : State) (f : FRef) : (s.clr f).qes = s.qes := rfl
@[simp] theorem State.clr_ports (s : State) (f : FRef) : (s.clr f).ports = s.ports := rfl
@[simp] theorem State.clr_subs (s : State) (f : FRef) : (s.clr f).subs = s.subs := rfl
@[simp] theorem State.clr_engs (s : State) (f : FRef) : (s.clr f).engs = s.engs := rfl
@[simp] theorem State.clr_groups (s : State) (f : FRef) : (s.clr f).groups = s.groups := rfl
@[simp] theorem State.clr_fault (s : State) (f : FRef) : (s.clr f).fault = s.fault := rfl
@[simp] theorem State.clr_ring (s : State) (f : FRef) : (s.clr f).ring = s.ring := rfl
@[simp] theorem State.clr_repair (s : State) (f : FRef) : (s.clr f).repair = s.repair := rfl
@[simp] theorem State.clr_crypt (s : State) (f : FRef) : (s.clr f).crypt = s.crypt := rfl
@[simp] theorem State.clr_power (s : State) (f : FRef) : (s.clr f).power = s.power := rfl
@[simp] theorem State.clr_startup (s : State) (f : FRef) : (s.clr f).startup = s.startup := rfl
@[simp] theorem State.clr_bist (s : State) (f : FRef) : (s.clr f).bist = s.bist := rfl
@[simp] theorem State.clr_phys (s : State) (f : FRef) : (s.clr f).phys = s.phys := rfl
@[simp] theorem State.clr_outputs (s : State) (f : FRef) : (s.clr f).outputs = s.outputs := rfl
@[simp] theorem State.clr_pending (s : State) (f : FRef) : (s.clr f).pending = s.pending := rfl
@[simp] theorem State.clr_serving (s : State) (f : FRef) : (s.clr f).serving = s.serving := rfl
@[simp] theorem State.clr_port (s : State) (f : FRef) (j : Nat) : (s.clr f).port j = s.port j := rfl
@[simp] theorem State.clr_sub (s : State) (f : FRef) (j : Nat) : (s.clr f).sub j = s.sub j := rfl
@[simp] theorem State.clr_eng (s : State) (f : FRef) (j : Nat) : (s.clr f).eng j = s.eng j := rfl
@[simp] theorem State.clr_group (s : State) (f : FRef) (j : Nat) : (s.clr f).group j = s.group j := rfl
@[simp] theorem State.clr_phy (s : State) (f : FRef) (j : Nat) : (s.clr f).phy j = s.phy j := rfl

@[simp] theorem State.bump_mode (s : State) (f : FRef) (n : Nat) : (s.bump f n).mode = s.mode := rfl
@[simp] theorem State.bump_build (s : State) (f : FRef) (n : Nat) : (s.bump f n).build = s.build := rfl
@[simp] theorem State.bump_resetN (s : State) (f : FRef) (n : Nat) : (s.bump f n).resetN = s.resetN := rfl
@[simp] theorem State.bump_frozen (s : State) (f : FRef) (n : Nat) : (s.bump f n).frozen = s.frozen := rfl
@[simp] theorem State.bump_tempo (s : State) (f : FRef) (n : Nat) : (s.bump f n).tempo = s.tempo := rfl
@[simp] theorem State.bump_reqs (s : State) (f : FRef) (n : Nat) : (s.bump f n).reqs = s.reqs := rfl
@[simp] theorem State.bump_wbuf (s : State) (f : FRef) (n : Nat) : (s.bump f n).wbuf = s.wbuf := rfl
@[simp] theorem State.bump_locks (s : State) (f : FRef) (n : Nat) : (s.bump f n).locks = s.locks := rfl
@[simp] theorem State.bump_qes (s : State) (f : FRef) (n : Nat) : (s.bump f n).qes = s.qes := rfl
@[simp] theorem State.bump_ports (s : State) (f : FRef) (n : Nat) : (s.bump f n).ports = s.ports := rfl
@[simp] theorem State.bump_subs (s : State) (f : FRef) (n : Nat) : (s.bump f n).subs = s.subs := rfl
@[simp] theorem State.bump_engs (s : State) (f : FRef) (n : Nat) : (s.bump f n).engs = s.engs := rfl
@[simp] theorem State.bump_groups (s : State) (f : FRef) (n : Nat) : (s.bump f n).groups = s.groups := rfl
@[simp] theorem State.bump_fault (s : State) (f : FRef) (n : Nat) : (s.bump f n).fault = s.fault := rfl
@[simp] theorem State.bump_ring (s : State) (f : FRef) (n : Nat) : (s.bump f n).ring = s.ring := rfl
@[simp] theorem State.bump_repair (s : State) (f : FRef) (n : Nat) : (s.bump f n).repair = s.repair := rfl
@[simp] theorem State.bump_crypt (s : State) (f : FRef) (n : Nat) : (s.bump f n).crypt = s.crypt := rfl
@[simp] theorem State.bump_power (s : State) (f : FRef) (n : Nat) : (s.bump f n).power = s.power := rfl
@[simp] theorem State.bump_startup (s : State) (f : FRef) (n : Nat) : (s.bump f n).startup = s.startup := rfl
@[simp] theorem State.bump_bist (s : State) (f : FRef) (n : Nat) : (s.bump f n).bist = s.bist := rfl
@[simp] theorem State.bump_phys (s : State) (f : FRef) (n : Nat) : (s.bump f n).phys = s.phys := rfl
@[simp] theorem State.bump_outputs (s : State) (f : FRef) (n : Nat) : (s.bump f n).outputs = s.outputs := rfl
@[simp] theorem State.bump_pending (s : State) (f : FRef) (n : Nat) : (s.bump f n).pending = s.pending := rfl
@[simp] theorem State.bump_serving (s : State) (f : FRef) (n : Nat) : (s.bump f n).serving = s.serving := rfl
@[simp] theorem State.bump_port (s : State) (f : FRef) (n : Nat) (j : Nat) : (s.bump f n).port j = s.port j := rfl
@[simp] theorem State.bump_sub (s : State) (f : FRef) (n : Nat) (j : Nat) : (s.bump f n).sub j = s.sub j := rfl
@[simp] theorem State.bump_eng (s : State) (f : FRef) (n : Nat) (j : Nat) : (s.bump f n).eng j = s.eng j := rfl
@[simp] theorem State.bump_group (s : State) (f : FRef) (n : Nat) (j : Nat) : (s.bump f n).group j = s.group j := rfl
@[simp] theorem State.bump_phy (s : State) (f : FRef) (n : Nat) (j : Nat) : (s.bump f n).phy j = s.phy j := rfl

@[simp] theorem State.setBit_mode (s : State) (f : FRef) (i : Nat) (b : Bool) : (s.setBit f i b).mode = s.mode := rfl
@[simp] theorem State.setBit_build (s : State) (f : FRef) (i : Nat) (b : Bool) : (s.setBit f i b).build = s.build := rfl
@[simp] theorem State.setBit_resetN (s : State) (f : FRef) (i : Nat) (b : Bool) : (s.setBit f i b).resetN = s.resetN := rfl
@[simp] theorem State.setBit_frozen (s : State) (f : FRef) (i : Nat) (b : Bool) : (s.setBit f i b).frozen = s.frozen := rfl
@[simp] theorem State.setBit_tempo (s : State) (f : FRef) (i : Nat) (b : Bool) : (s.setBit f i b).tempo = s.tempo := rfl
@[simp] theorem State.setBit_reqs (s : State) (f : FRef) (i : Nat) (b : Bool) : (s.setBit f i b).reqs = s.reqs := rfl
@[simp] theorem State.setBit_wbuf (s : State) (f : FRef) (i : Nat) (b : Bool) : (s.setBit f i b).wbuf = s.wbuf := rfl
@[simp] theorem State.setBit_locks (s : State) (f : FRef) (i : Nat) (b : Bool) : (s.setBit f i b).locks = s.locks := rfl
@[simp] theorem State.setBit_qes (s : State) (f : FRef) (i : Nat) (b : Bool) : (s.setBit f i b).qes = s.qes := rfl
@[simp] theorem State.setBit_ports (s : State) (f : FRef) (i : Nat) (b : Bool) : (s.setBit f i b).ports = s.ports := rfl
@[simp] theorem State.setBit_subs (s : State) (f : FRef) (i : Nat) (b : Bool) : (s.setBit f i b).subs = s.subs := rfl
@[simp] theorem State.setBit_engs (s : State) (f : FRef) (i : Nat) (b : Bool) : (s.setBit f i b).engs = s.engs := rfl
@[simp] theorem State.setBit_groups (s : State) (f : FRef) (i : Nat) (b : Bool) : (s.setBit f i b).groups = s.groups := rfl
@[simp] theorem State.setBit_fault (s : State) (f : FRef) (i : Nat) (b : Bool) : (s.setBit f i b).fault = s.fault := rfl
@[simp] theorem State.setBit_ring (s : State) (f : FRef) (i : Nat) (b : Bool) : (s.setBit f i b).ring = s.ring := rfl
@[simp] theorem State.setBit_repair (s : State) (f : FRef) (i : Nat) (b : Bool) : (s.setBit f i b).repair = s.repair := rfl
@[simp] theorem State.setBit_crypt (s : State) (f : FRef) (i : Nat) (b : Bool) : (s.setBit f i b).crypt = s.crypt := rfl
@[simp] theorem State.setBit_power (s : State) (f : FRef) (i : Nat) (b : Bool) : (s.setBit f i b).power = s.power := rfl
@[simp] theorem State.setBit_startup (s : State) (f : FRef) (i : Nat) (b : Bool) : (s.setBit f i b).startup = s.startup := rfl
@[simp] theorem State.setBit_bist (s : State) (f : FRef) (i : Nat) (b : Bool) : (s.setBit f i b).bist = s.bist := rfl
@[simp] theorem State.setBit_phys (s : State) (f : FRef) (i : Nat) (b : Bool) : (s.setBit f i b).phys = s.phys := rfl
@[simp] theorem State.setBit_outputs (s : State) (f : FRef) (i : Nat) (b : Bool) : (s.setBit f i b).outputs = s.outputs := rfl
@[simp] theorem State.setBit_pending (s : State) (f : FRef) (i : Nat) (b : Bool) : (s.setBit f i b).pending = s.pending := rfl
@[simp] theorem State.setBit_serving (s : State) (f : FRef) (i : Nat) (b : Bool) : (s.setBit f i b).serving = s.serving := rfl
@[simp] theorem State.setBit_port (s : State) (f : FRef) (i : Nat) (b : Bool) (j : Nat) : (s.setBit f i b).port j = s.port j := rfl
@[simp] theorem State.setBit_sub (s : State) (f : FRef) (i : Nat) (b : Bool) (j : Nat) : (s.setBit f i b).sub j = s.sub j := rfl
@[simp] theorem State.setBit_eng (s : State) (f : FRef) (i : Nat) (b : Bool) (j : Nat) : (s.setBit f i b).eng j = s.eng j := rfl
@[simp] theorem State.setBit_group (s : State) (f : FRef) (i : Nat) (b : Bool) (j : Nat) : (s.setBit f i b).group j = s.group j := rfl
@[simp] theorem State.setBit_phy (s : State) (f : FRef) (i : Nat) (b : Bool) (j : Nat) : (s.setBit f i b).phy j = s.phy j := rfl

@[simp] theorem State.emit_mode (s : State) (o : Output) : (s.emit o).mode = s.mode := rfl
@[simp] theorem State.emit_build (s : State) (o : Output) : (s.emit o).build = s.build := rfl
@[simp] theorem State.emit_resetN (s : State) (o : Output) : (s.emit o).resetN = s.resetN := rfl
@[simp] theorem State.emit_frozen (s : State) (o : Output) : (s.emit o).frozen = s.frozen := rfl
@[simp] theorem State.emit_tempo (s : State) (o : Output) : (s.emit o).tempo = s.tempo := rfl
@[simp] theorem State.emit_reqs (s : State) (o : Output) : (s.emit o).reqs = s.reqs := rfl
@[simp] theorem State.emit_wbuf (s : State) (o : Output) : (s.emit o).wbuf = s.wbuf := rfl
@[simp] theorem State.emit_locks (s : State) (o : Output) : (s.emit o).locks = s.locks := rfl
@[simp] theorem State.emit_qes (s : State) (o : Output) : (s.emit o).qes = s.qes := rfl
@[simp] theorem State.emit_ports (s : State) (o : Output) : (s.emit o).ports = s.ports := rfl
@[simp] theorem State.emit_subs (s : State) (o : Output) : (s.emit o).subs = s.subs := rfl
@[simp] theorem State.emit_engs (s : State) (o : Output) : (s.emit o).engs = s.engs := rfl
@[simp] theorem State.emit_groups (s : State) (o : Output) : (s.emit o).groups = s.groups := rfl
@[simp] theorem State.emit_regs (s : State) (o : Output) : (s.emit o).regs = s.regs := rfl
@[simp] theorem State.emit_fault (s : State) (o : Output) : (s.emit o).fault = s.fault := rfl
@[simp] theorem State.emit_ring (s : State) (o : Output) : (s.emit o).ring = s.ring := rfl
@[simp] theorem State.emit_repair (s : State) (o : Output) : (s.emit o).repair = s.repair := rfl
@[simp] theorem State.emit_crypt (s : State) (o : Output) : (s.emit o).crypt = s.crypt := rfl
@[simp] theorem State.emit_power (s : State) (o : Output) : (s.emit o).power = s.power := rfl
@[simp] theorem State.emit_startup (s : State) (o : Output) : (s.emit o).startup = s.startup := rfl
@[simp] theorem State.emit_bist (s : State) (o : Output) : (s.emit o).bist = s.bist := rfl
@[simp] theorem State.emit_phys (s : State) (o : Output) : (s.emit o).phys = s.phys := rfl
@[simp] theorem State.emit_pending (s : State) (o : Output) : (s.emit o).pending = s.pending := rfl
@[simp] theorem State.emit_serving (s : State) (o : Output) : (s.emit o).serving = s.serving := rfl
@[simp] theorem State.emit_port (s : State) (o : Output) (j : Nat) : (s.emit o).port j = s.port j := rfl
@[simp] theorem State.emit_sub (s : State) (o : Output) (j : Nat) : (s.emit o).sub j = s.sub j := rfl
@[simp] theorem State.emit_eng (s : State) (o : Output) (j : Nat) : (s.emit o).eng j = s.eng j := rfl
@[simp] theorem State.emit_group (s : State) (o : Output) (j : Nat) : (s.emit o).group j = s.group j := rfl
@[simp] theorem State.emit_phy (s : State) (o : Output) (j : Nat) : (s.emit o).phy j = s.phy j := rfl
@[simp] theorem State.emit_fld (s : State) (o : Output) (g' : FRef) : (s.emit o).fld g' = s.fld g' := rfl
@[simp] theorem State.emit_flag (s : State) (o : Output) (g' : FRef) : (s.emit o).flag g' = s.flag g' := rfl
@[simp] theorem State.emit_word (s : State) (o : Output) (j : Nat) : (s.emit o).word j = s.word j := rfl

@[simp] theorem State.raise_mode (s : State) (n : Nat) (x : Place) : (s.raise n x).mode = s.mode := rfl
@[simp] theorem State.raise_build (s : State) (n : Nat) (x : Place) : (s.raise n x).build = s.build := rfl
@[simp] theorem State.raise_resetN (s : State) (n : Nat) (x : Place) : (s.raise n x).resetN = s.resetN := rfl
@[simp] theorem State.raise_frozen (s : State) (n : Nat) (x : Place) : (s.raise n x).frozen = s.frozen := rfl
@[simp] theorem State.raise_tempo (s : State) (n : Nat) (x : Place) : (s.raise n x).tempo = s.tempo := rfl
@[simp] theorem State.raise_reqs (s : State) (n : Nat) (x : Place) : (s.raise n x).reqs = s.reqs := rfl
@[simp] theorem State.raise_wbuf (s : State) (n : Nat) (x : Place) : (s.raise n x).wbuf = s.wbuf := rfl
@[simp] theorem State.raise_locks (s : State) (n : Nat) (x : Place) : (s.raise n x).locks = s.locks := rfl
@[simp] theorem State.raise_qes (s : State) (n : Nat) (x : Place) : (s.raise n x).qes = s.qes := rfl
@[simp] theorem State.raise_ports (s : State) (n : Nat) (x : Place) : (s.raise n x).ports = s.ports := rfl
@[simp] theorem State.raise_subs (s : State) (n : Nat) (x : Place) : (s.raise n x).subs = s.subs := rfl
@[simp] theorem State.raise_engs (s : State) (n : Nat) (x : Place) : (s.raise n x).engs = s.engs := rfl
@[simp] theorem State.raise_groups (s : State) (n : Nat) (x : Place) : (s.raise n x).groups = s.groups := rfl
@[simp] theorem State.raise_regs (s : State) (n : Nat) (x : Place) : (s.raise n x).regs = s.regs := rfl
@[simp] theorem State.raise_ring (s : State) (n : Nat) (x : Place) : (s.raise n x).ring = s.ring := rfl
@[simp] theorem State.raise_repair (s : State) (n : Nat) (x : Place) : (s.raise n x).repair = s.repair := rfl
@[simp] theorem State.raise_crypt (s : State) (n : Nat) (x : Place) : (s.raise n x).crypt = s.crypt := rfl
@[simp] theorem State.raise_power (s : State) (n : Nat) (x : Place) : (s.raise n x).power = s.power := rfl
@[simp] theorem State.raise_startup (s : State) (n : Nat) (x : Place) : (s.raise n x).startup = s.startup := rfl
@[simp] theorem State.raise_bist (s : State) (n : Nat) (x : Place) : (s.raise n x).bist = s.bist := rfl
@[simp] theorem State.raise_phys (s : State) (n : Nat) (x : Place) : (s.raise n x).phys = s.phys := rfl
@[simp] theorem State.raise_outputs (s : State) (n : Nat) (x : Place) : (s.raise n x).outputs = s.outputs := rfl
@[simp] theorem State.raise_pending (s : State) (n : Nat) (x : Place) : (s.raise n x).pending = s.pending := rfl
@[simp] theorem State.raise_serving (s : State) (n : Nat) (x : Place) : (s.raise n x).serving = s.serving := rfl
@[simp] theorem State.raise_port (s : State) (n : Nat) (x : Place) (j : Nat) : (s.raise n x).port j = s.port j := rfl
@[simp] theorem State.raise_sub (s : State) (n : Nat) (x : Place) (j : Nat) : (s.raise n x).sub j = s.sub j := rfl
@[simp] theorem State.raise_eng (s : State) (n : Nat) (x : Place) (j : Nat) : (s.raise n x).eng j = s.eng j := rfl
@[simp] theorem State.raise_group (s : State) (n : Nat) (x : Place) (j : Nat) : (s.raise n x).group j = s.group j := rfl
@[simp] theorem State.raise_phy (s : State) (n : Nat) (x : Place) (j : Nat) : (s.raise n x).phy j = s.phy j := rfl
@[simp] theorem State.raise_fld (s : State) (n : Nat) (x : Place) (g' : FRef) : (s.raise n x).fld g' = s.fld g' := rfl
@[simp] theorem State.raise_flag (s : State) (n : Nat) (x : Place) (g' : FRef) : (s.raise n x).flag g' = s.flag g' := rfl
@[simp] theorem State.raise_word (s : State) (n : Nat) (x : Place) (j : Nat) : (s.raise n x).word j = s.word j := rfl

@[simp] theorem State.setPort_mode (s : State) (p : Nat) (x : Port) : (s.setPort p x).mode = s.mode := rfl
@[simp] theorem State.setPort_build (s : State) (p : Nat) (x : Port) : (s.setPort p x).build = s.build := rfl
@[simp] theorem State.setPort_resetN (s : State) (p : Nat) (x : Port) : (s.setPort p x).resetN = s.resetN := rfl
@[simp] theorem State.setPort_frozen (s : State) (p : Nat) (x : Port) : (s.setPort p x).frozen = s.frozen := rfl
@[simp] theorem State.setPort_tempo (s : State) (p : Nat) (x : Port) : (s.setPort p x).tempo = s.tempo := rfl
@[simp] theorem State.setPort_reqs (s : State) (p : Nat) (x : Port) : (s.setPort p x).reqs = s.reqs := rfl
@[simp] theorem State.setPort_wbuf (s : State) (p : Nat) (x : Port) : (s.setPort p x).wbuf = s.wbuf := rfl
@[simp] theorem State.setPort_locks (s : State) (p : Nat) (x : Port) : (s.setPort p x).locks = s.locks := rfl
@[simp] theorem State.setPort_qes (s : State) (p : Nat) (x : Port) : (s.setPort p x).qes = s.qes := rfl
@[simp] theorem State.setPort_subs (s : State) (p : Nat) (x : Port) : (s.setPort p x).subs = s.subs := rfl
@[simp] theorem State.setPort_engs (s : State) (p : Nat) (x : Port) : (s.setPort p x).engs = s.engs := rfl
@[simp] theorem State.setPort_groups (s : State) (p : Nat) (x : Port) : (s.setPort p x).groups = s.groups := rfl
@[simp] theorem State.setPort_regs (s : State) (p : Nat) (x : Port) : (s.setPort p x).regs = s.regs := rfl
@[simp] theorem State.setPort_fault (s : State) (p : Nat) (x : Port) : (s.setPort p x).fault = s.fault := rfl
@[simp] theorem State.setPort_ring (s : State) (p : Nat) (x : Port) : (s.setPort p x).ring = s.ring := rfl
@[simp] theorem State.setPort_repair (s : State) (p : Nat) (x : Port) : (s.setPort p x).repair = s.repair := rfl
@[simp] theorem State.setPort_crypt (s : State) (p : Nat) (x : Port) : (s.setPort p x).crypt = s.crypt := rfl
@[simp] theorem State.setPort_power (s : State) (p : Nat) (x : Port) : (s.setPort p x).power = s.power := rfl
@[simp] theorem State.setPort_startup (s : State) (p : Nat) (x : Port) : (s.setPort p x).startup = s.startup := rfl
@[simp] theorem State.setPort_bist (s : State) (p : Nat) (x : Port) : (s.setPort p x).bist = s.bist := rfl
@[simp] theorem State.setPort_phys (s : State) (p : Nat) (x : Port) : (s.setPort p x).phys = s.phys := rfl
@[simp] theorem State.setPort_outputs (s : State) (p : Nat) (x : Port) : (s.setPort p x).outputs = s.outputs := rfl
@[simp] theorem State.setPort_pending (s : State) (p : Nat) (x : Port) : (s.setPort p x).pending = s.pending := rfl
@[simp] theorem State.setPort_serving (s : State) (p : Nat) (x : Port) : (s.setPort p x).serving = s.serving := rfl
@[simp] theorem State.setPort_sub (s : State) (p : Nat) (x : Port) (j : Nat) : (s.setPort p x).sub j = s.sub j := rfl
@[simp] theorem State.setPort_eng (s : State) (p : Nat) (x : Port) (j : Nat) : (s.setPort p x).eng j = s.eng j := rfl
@[simp] theorem State.setPort_group (s : State) (p : Nat) (x : Port) (j : Nat) : (s.setPort p x).group j = s.group j := rfl
@[simp] theorem State.setPort_phy (s : State) (p : Nat) (x : Port) (j : Nat) : (s.setPort p x).phy j = s.phy j := rfl
@[simp] theorem State.setPort_fld (s : State) (p : Nat) (x : Port) (g' : FRef) : (s.setPort p x).fld g' = s.fld g' := rfl
@[simp] theorem State.setPort_flag (s : State) (p : Nat) (x : Port) (g' : FRef) : (s.setPort p x).flag g' = s.flag g' := rfl
@[simp] theorem State.setPort_word (s : State) (p : Nat) (x : Port) (j : Nat) : (s.setPort p x).word j = s.word j := rfl

@[simp] theorem State.setSub_mode (s : State) (i : Nat) (x : Sub) : (s.setSub i x).mode = s.mode := rfl
@[simp] theorem State.setSub_build (s : State) (i : Nat) (x : Sub) : (s.setSub i x).build = s.build := rfl
@[simp] theorem State.setSub_resetN (s : State) (i : Nat) (x : Sub) : (s.setSub i x).resetN = s.resetN := rfl
@[simp] theorem State.setSub_frozen (s : State) (i : Nat) (x : Sub) : (s.setSub i x).frozen = s.frozen := rfl
@[simp] theorem State.setSub_tempo (s : State) (i : Nat) (x : Sub) : (s.setSub i x).tempo = s.tempo := rfl
@[simp] theorem State.setSub_reqs (s : State) (i : Nat) (x : Sub) : (s.setSub i x).reqs = s.reqs := rfl
@[simp] theorem State.setSub_wbuf (s : State) (i : Nat) (x : Sub) : (s.setSub i x).wbuf = s.wbuf := rfl
@[simp] theorem State.setSub_locks (s : State) (i : Nat) (x : Sub) : (s.setSub i x).locks = s.locks := rfl
@[simp] theorem State.setSub_qes (s : State) (i : Nat) (x : Sub) : (s.setSub i x).qes = s.qes := rfl
@[simp] theorem State.setSub_ports (s : State) (i : Nat) (x : Sub) : (s.setSub i x).ports = s.ports := rfl
@[simp] theorem State.setSub_engs (s : State) (i : Nat) (x : Sub) : (s.setSub i x).engs = s.engs := rfl
@[simp] theorem State.setSub_groups (s : State) (i : Nat) (x : Sub) : (s.setSub i x).groups = s.groups := rfl
@[simp] theorem State.setSub_regs (s : State) (i : Nat) (x : Sub) : (s.setSub i x).regs = s.regs := rfl
@[simp] theorem State.setSub_fault (s : State) (i : Nat) (x : Sub) : (s.setSub i x).fault = s.fault := rfl
@[simp] theorem State.setSub_ring (s : State) (i : Nat) (x : Sub) : (s.setSub i x).ring = s.ring := rfl
@[simp] theorem State.setSub_repair (s : State) (i : Nat) (x : Sub) : (s.setSub i x).repair = s.repair := rfl
@[simp] theorem State.setSub_crypt (s : State) (i : Nat) (x : Sub) : (s.setSub i x).crypt = s.crypt := rfl
@[simp] theorem State.setSub_power (s : State) (i : Nat) (x : Sub) : (s.setSub i x).power = s.power := rfl
@[simp] theorem State.setSub_startup (s : State) (i : Nat) (x : Sub) : (s.setSub i x).startup = s.startup := rfl
@[simp] theorem State.setSub_bist (s : State) (i : Nat) (x : Sub) : (s.setSub i x).bist = s.bist := rfl
@[simp] theorem State.setSub_phys (s : State) (i : Nat) (x : Sub) : (s.setSub i x).phys = s.phys := rfl
@[simp] theorem State.setSub_outputs (s : State) (i : Nat) (x : Sub) : (s.setSub i x).outputs = s.outputs := rfl
@[simp] theorem State.setSub_pending (s : State) (i : Nat) (x : Sub) : (s.setSub i x).pending = s.pending := rfl
@[simp] theorem State.setSub_serving (s : State) (i : Nat) (x : Sub) : (s.setSub i x).serving = s.serving := rfl
@[simp] theorem State.setSub_port (s : State) (i : Nat) (x : Sub) (j : Nat) : (s.setSub i x).port j = s.port j := rfl
@[simp] theorem State.setSub_eng (s : State) (i : Nat) (x : Sub) (j : Nat) : (s.setSub i x).eng j = s.eng j := rfl
@[simp] theorem State.setSub_group (s : State) (i : Nat) (x : Sub) (j : Nat) : (s.setSub i x).group j = s.group j := rfl
@[simp] theorem State.setSub_phy (s : State) (i : Nat) (x : Sub) (j : Nat) : (s.setSub i x).phy j = s.phy j := rfl
@[simp] theorem State.setSub_fld (s : State) (i : Nat) (x : Sub) (g' : FRef) : (s.setSub i x).fld g' = s.fld g' := rfl
@[simp] theorem State.setSub_flag (s : State) (i : Nat) (x : Sub) (g' : FRef) : (s.setSub i x).flag g' = s.flag g' := rfl
@[simp] theorem State.setSub_word (s : State) (i : Nat) (x : Sub) (j : Nat) : (s.setSub i x).word j = s.word j := rfl

@[simp] theorem State.setEng_mode (s : State) (i : Nat) (x : Eng) : (s.setEng i x).mode = s.mode := rfl
@[simp] theorem State.setEng_build (s : State) (i : Nat) (x : Eng) : (s.setEng i x).build = s.build := rfl
@[simp] theorem State.setEng_resetN (s : State) (i : Nat) (x : Eng) : (s.setEng i x).resetN = s.resetN := rfl
@[simp] theorem State.setEng_frozen (s : State) (i : Nat) (x : Eng) : (s.setEng i x).frozen = s.frozen := rfl
@[simp] theorem State.setEng_tempo (s : State) (i : Nat) (x : Eng) : (s.setEng i x).tempo = s.tempo := rfl
@[simp] theorem State.setEng_reqs (s : State) (i : Nat) (x : Eng) : (s.setEng i x).reqs = s.reqs := rfl
@[simp] theorem State.setEng_wbuf (s : State) (i : Nat) (x : Eng) : (s.setEng i x).wbuf = s.wbuf := rfl
@[simp] theorem State.setEng_locks (s : State) (i : Nat) (x : Eng) : (s.setEng i x).locks = s.locks := rfl
@[simp] theorem State.setEng_qes (s : State) (i : Nat) (x : Eng) : (s.setEng i x).qes = s.qes := rfl
@[simp] theorem State.setEng_ports (s : State) (i : Nat) (x : Eng) : (s.setEng i x).ports = s.ports := rfl
@[simp] theorem State.setEng_subs (s : State) (i : Nat) (x : Eng) : (s.setEng i x).subs = s.subs := rfl
@[simp] theorem State.setEng_groups (s : State) (i : Nat) (x : Eng) : (s.setEng i x).groups = s.groups := rfl
@[simp] theorem State.setEng_regs (s : State) (i : Nat) (x : Eng) : (s.setEng i x).regs = s.regs := rfl
@[simp] theorem State.setEng_fault (s : State) (i : Nat) (x : Eng) : (s.setEng i x).fault = s.fault := rfl
@[simp] theorem State.setEng_ring (s : State) (i : Nat) (x : Eng) : (s.setEng i x).ring = s.ring := rfl
@[simp] theorem State.setEng_repair (s : State) (i : Nat) (x : Eng) : (s.setEng i x).repair = s.repair := rfl
@[simp] theorem State.setEng_crypt (s : State) (i : Nat) (x : Eng) : (s.setEng i x).crypt = s.crypt := rfl
@[simp] theorem State.setEng_power (s : State) (i : Nat) (x : Eng) : (s.setEng i x).power = s.power := rfl
@[simp] theorem State.setEng_startup (s : State) (i : Nat) (x : Eng) : (s.setEng i x).startup = s.startup := rfl
@[simp] theorem State.setEng_bist (s : State) (i : Nat) (x : Eng) : (s.setEng i x).bist = s.bist := rfl
@[simp] theorem State.setEng_phys (s : State) (i : Nat) (x : Eng) : (s.setEng i x).phys = s.phys := rfl
@[simp] theorem State.setEng_outputs (s : State) (i : Nat) (x : Eng) : (s.setEng i x).outputs = s.outputs := rfl
@[simp] theorem State.setEng_pending (s : State) (i : Nat) (x : Eng) : (s.setEng i x).pending = s.pending := rfl
@[simp] theorem State.setEng_serving (s : State) (i : Nat) (x : Eng) : (s.setEng i x).serving = s.serving := rfl
@[simp] theorem State.setEng_port (s : State) (i : Nat) (x : Eng) (j : Nat) : (s.setEng i x).port j = s.port j := rfl
@[simp] theorem State.setEng_sub (s : State) (i : Nat) (x : Eng) (j : Nat) : (s.setEng i x).sub j = s.sub j := rfl
@[simp] theorem State.setEng_group (s : State) (i : Nat) (x : Eng) (j : Nat) : (s.setEng i x).group j = s.group j := rfl
@[simp] theorem State.setEng_phy (s : State) (i : Nat) (x : Eng) (j : Nat) : (s.setEng i x).phy j = s.phy j := rfl
@[simp] theorem State.setEng_fld (s : State) (i : Nat) (x : Eng) (g' : FRef) : (s.setEng i x).fld g' = s.fld g' := rfl
@[simp] theorem State.setEng_flag (s : State) (i : Nat) (x : Eng) (g' : FRef) : (s.setEng i x).flag g' = s.flag g' := rfl
@[simp] theorem State.setEng_word (s : State) (i : Nat) (x : Eng) (j : Nat) : (s.setEng i x).word j = s.word j := rfl

@[simp] theorem State.setGroup_mode (s : State) (i : Nat) (x : Group) : (s.setGroup i x).mode = s.mode := rfl
@[simp] theorem State.setGroup_build (s : State) (i : Nat) (x : Group) : (s.setGroup i x).build = s.build := rfl
@[simp] theorem State.setGroup_resetN (s : State) (i : Nat) (x : Group) : (s.setGroup i x).resetN = s.resetN := rfl
@[simp] theorem State.setGroup_frozen (s : State) (i : Nat) (x : Group) : (s.setGroup i x).frozen = s.frozen := rfl
@[simp] theorem State.setGroup_tempo (s : State) (i : Nat) (x : Group) : (s.setGroup i x).tempo = s.tempo := rfl
@[simp] theorem State.setGroup_reqs (s : State) (i : Nat) (x : Group) : (s.setGroup i x).reqs = s.reqs := rfl
@[simp] theorem State.setGroup_wbuf (s : State) (i : Nat) (x : Group) : (s.setGroup i x).wbuf = s.wbuf := rfl
@[simp] theorem State.setGroup_locks (s : State) (i : Nat) (x : Group) : (s.setGroup i x).locks = s.locks := rfl
@[simp] theorem State.setGroup_qes (s : State) (i : Nat) (x : Group) : (s.setGroup i x).qes = s.qes := rfl
@[simp] theorem State.setGroup_ports (s : State) (i : Nat) (x : Group) : (s.setGroup i x).ports = s.ports := rfl
@[simp] theorem State.setGroup_subs (s : State) (i : Nat) (x : Group) : (s.setGroup i x).subs = s.subs := rfl
@[simp] theorem State.setGroup_engs (s : State) (i : Nat) (x : Group) : (s.setGroup i x).engs = s.engs := rfl
@[simp] theorem State.setGroup_regs (s : State) (i : Nat) (x : Group) : (s.setGroup i x).regs = s.regs := rfl
@[simp] theorem State.setGroup_fault (s : State) (i : Nat) (x : Group) : (s.setGroup i x).fault = s.fault := rfl
@[simp] theorem State.setGroup_ring (s : State) (i : Nat) (x : Group) : (s.setGroup i x).ring = s.ring := rfl
@[simp] theorem State.setGroup_repair (s : State) (i : Nat) (x : Group) : (s.setGroup i x).repair = s.repair := rfl
@[simp] theorem State.setGroup_crypt (s : State) (i : Nat) (x : Group) : (s.setGroup i x).crypt = s.crypt := rfl
@[simp] theorem State.setGroup_power (s : State) (i : Nat) (x : Group) : (s.setGroup i x).power = s.power := rfl
@[simp] theorem State.setGroup_startup (s : State) (i : Nat) (x : Group) : (s.setGroup i x).startup = s.startup := rfl
@[simp] theorem State.setGroup_bist (s : State) (i : Nat) (x : Group) : (s.setGroup i x).bist = s.bist := rfl
@[simp] theorem State.setGroup_phys (s : State) (i : Nat) (x : Group) : (s.setGroup i x).phys = s.phys := rfl
@[simp] theorem State.setGroup_outputs (s : State) (i : Nat) (x : Group) : (s.setGroup i x).outputs = s.outputs := rfl
@[simp] theorem State.setGroup_pending (s : State) (i : Nat) (x : Group) : (s.setGroup i x).pending = s.pending := rfl
@[simp] theorem State.setGroup_serving (s : State) (i : Nat) (x : Group) : (s.setGroup i x).serving = s.serving := rfl
@[simp] theorem State.setGroup_port (s : State) (i : Nat) (x : Group) (j : Nat) : (s.setGroup i x).port j = s.port j := rfl
@[simp] theorem State.setGroup_sub (s : State) (i : Nat) (x : Group) (j : Nat) : (s.setGroup i x).sub j = s.sub j := rfl
@[simp] theorem State.setGroup_eng (s : State) (i : Nat) (x : Group) (j : Nat) : (s.setGroup i x).eng j = s.eng j := rfl
@[simp] theorem State.setGroup_phy (s : State) (i : Nat) (x : Group) (j : Nat) : (s.setGroup i x).phy j = s.phy j := rfl
@[simp] theorem State.setGroup_fld (s : State) (i : Nat) (x : Group) (g' : FRef) : (s.setGroup i x).fld g' = s.fld g' := rfl
@[simp] theorem State.setGroup_flag (s : State) (i : Nat) (x : Group) (g' : FRef) : (s.setGroup i x).flag g' = s.flag g' := rfl
@[simp] theorem State.setGroup_word (s : State) (i : Nat) (x : Group) (j : Nat) : (s.setGroup i x).word j = s.word j := rfl

@[simp] theorem State.setPhy_mode (s : State) (i : Nat) (x : Phy) : (s.setPhy i x).mode = s.mode := rfl
@[simp] theorem State.setPhy_build (s : State) (i : Nat) (x : Phy) : (s.setPhy i x).build = s.build := rfl
@[simp] theorem State.setPhy_resetN (s : State) (i : Nat) (x : Phy) : (s.setPhy i x).resetN = s.resetN := rfl
@[simp] theorem State.setPhy_frozen (s : State) (i : Nat) (x : Phy) : (s.setPhy i x).frozen = s.frozen := rfl
@[simp] theorem State.setPhy_tempo (s : State) (i : Nat) (x : Phy) : (s.setPhy i x).tempo = s.tempo := rfl
@[simp] theorem State.setPhy_reqs (s : State) (i : Nat) (x : Phy) : (s.setPhy i x).reqs = s.reqs := rfl
@[simp] theorem State.setPhy_wbuf (s : State) (i : Nat) (x : Phy) : (s.setPhy i x).wbuf = s.wbuf := rfl
@[simp] theorem State.setPhy_locks (s : State) (i : Nat) (x : Phy) : (s.setPhy i x).locks = s.locks := rfl
@[simp] theorem State.setPhy_qes (s : State) (i : Nat) (x : Phy) : (s.setPhy i x).qes = s.qes := rfl
@[simp] theorem State.setPhy_ports (s : State) (i : Nat) (x : Phy) : (s.setPhy i x).ports = s.ports := rfl
@[simp] theorem State.setPhy_subs (s : State) (i : Nat) (x : Phy) : (s.setPhy i x).subs = s.subs := rfl
@[simp] theorem State.setPhy_engs (s : State) (i : Nat) (x : Phy) : (s.setPhy i x).engs = s.engs := rfl
@[simp] theorem State.setPhy_groups (s : State) (i : Nat) (x : Phy) : (s.setPhy i x).groups = s.groups := rfl
@[simp] theorem State.setPhy_regs (s : State) (i : Nat) (x : Phy) : (s.setPhy i x).regs = s.regs := rfl
@[simp] theorem State.setPhy_fault (s : State) (i : Nat) (x : Phy) : (s.setPhy i x).fault = s.fault := rfl
@[simp] theorem State.setPhy_ring (s : State) (i : Nat) (x : Phy) : (s.setPhy i x).ring = s.ring := rfl
@[simp] theorem State.setPhy_repair (s : State) (i : Nat) (x : Phy) : (s.setPhy i x).repair = s.repair := rfl
@[simp] theorem State.setPhy_crypt (s : State) (i : Nat) (x : Phy) : (s.setPhy i x).crypt = s.crypt := rfl
@[simp] theorem State.setPhy_power (s : State) (i : Nat) (x : Phy) : (s.setPhy i x).power = s.power := rfl
@[simp] theorem State.setPhy_startup (s : State) (i : Nat) (x : Phy) : (s.setPhy i x).startup = s.startup := rfl
@[simp] theorem State.setPhy_bist (s : State) (i : Nat) (x : Phy) : (s.setPhy i x).bist = s.bist := rfl
@[simp] theorem State.setPhy_outputs (s : State) (i : Nat) (x : Phy) : (s.setPhy i x).outputs = s.outputs := rfl
@[simp] theorem State.setPhy_pending (s : State) (i : Nat) (x : Phy) : (s.setPhy i x).pending = s.pending := rfl
@[simp] theorem State.setPhy_serving (s : State) (i : Nat) (x : Phy) : (s.setPhy i x).serving = s.serving := rfl
@[simp] theorem State.setPhy_port (s : State) (i : Nat) (x : Phy) (j : Nat) : (s.setPhy i x).port j = s.port j := rfl
@[simp] theorem State.setPhy_sub (s : State) (i : Nat) (x : Phy) (j : Nat) : (s.setPhy i x).sub j = s.sub j := rfl
@[simp] theorem State.setPhy_eng (s : State) (i : Nat) (x : Phy) (j : Nat) : (s.setPhy i x).eng j = s.eng j := rfl
@[simp] theorem State.setPhy_group (s : State) (i : Nat) (x : Phy) (j : Nat) : (s.setPhy i x).group j = s.group j := rfl
@[simp] theorem State.setPhy_fld (s : State) (i : Nat) (x : Phy) (g' : FRef) : (s.setPhy i x).fld g' = s.fld g' := rfl
@[simp] theorem State.setPhy_flag (s : State) (i : Nat) (x : Phy) (g' : FRef) : (s.setPhy i x).flag g' = s.flag g' := rfl
@[simp] theorem State.setPhy_word (s : State) (i : Nat) (x : Phy) (j : Nat) : (s.setPhy i x).word j = s.word j := rfl

@[simp] theorem State.mapQE_mode (s : State) (i : Nat) (g : QE → QE) : (s.mapQE i g).mode = s.mode := rfl
@[simp] theorem State.mapQE_build (s : State) (i : Nat) (g : QE → QE) : (s.mapQE i g).build = s.build := rfl
@[simp] theorem State.mapQE_resetN (s : State) (i : Nat) (g : QE → QE) : (s.mapQE i g).resetN = s.resetN := rfl
@[simp] theorem State.mapQE_frozen (s : State) (i : Nat) (g : QE → QE) : (s.mapQE i g).frozen = s.frozen := rfl
@[simp] theorem State.mapQE_tempo (s : State) (i : Nat) (g : QE → QE) : (s.mapQE i g).tempo = s.tempo := rfl
@[simp] theorem State.mapQE_reqs (s : State) (i : Nat) (g : QE → QE) : (s.mapQE i g).reqs = s.reqs := rfl
@[simp] theorem State.mapQE_wbuf (s : State) (i : Nat) (g : QE → QE) : (s.mapQE i g).wbuf = s.wbuf := rfl
@[simp] theorem State.mapQE_locks (s : State) (i : Nat) (g : QE → QE) : (s.mapQE i g).locks = s.locks := rfl
@[simp] theorem State.mapQE_ports (s : State) (i : Nat) (g : QE → QE) : (s.mapQE i g).ports = s.ports := rfl
@[simp] theorem State.mapQE_subs (s : State) (i : Nat) (g : QE → QE) : (s.mapQE i g).subs = s.subs := rfl
@[simp] theorem State.mapQE_engs (s : State) (i : Nat) (g : QE → QE) : (s.mapQE i g).engs = s.engs := rfl
@[simp] theorem State.mapQE_groups (s : State) (i : Nat) (g : QE → QE) : (s.mapQE i g).groups = s.groups := rfl
@[simp] theorem State.mapQE_regs (s : State) (i : Nat) (g : QE → QE) : (s.mapQE i g).regs = s.regs := rfl
@[simp] theorem State.mapQE_fault (s : State) (i : Nat) (g : QE → QE) : (s.mapQE i g).fault = s.fault := rfl
@[simp] theorem State.mapQE_ring (s : State) (i : Nat) (g : QE → QE) : (s.mapQE i g).ring = s.ring := rfl
@[simp] theorem State.mapQE_repair (s : State) (i : Nat) (g : QE → QE) : (s.mapQE i g).repair = s.repair := rfl
@[simp] theorem State.mapQE_crypt (s : State) (i : Nat) (g : QE → QE) : (s.mapQE i g).crypt = s.crypt := rfl
@[simp] theorem State.mapQE_power (s : State) (i : Nat) (g : QE → QE) : (s.mapQE i g).power = s.power := rfl
@[simp] theorem State.mapQE_startup (s : State) (i : Nat) (g : QE → QE) : (s.mapQE i g).startup = s.startup := rfl
@[simp] theorem State.mapQE_bist (s : State) (i : Nat) (g : QE → QE) : (s.mapQE i g).bist = s.bist := rfl
@[simp] theorem State.mapQE_phys (s : State) (i : Nat) (g : QE → QE) : (s.mapQE i g).phys = s.phys := rfl
@[simp] theorem State.mapQE_outputs (s : State) (i : Nat) (g : QE → QE) : (s.mapQE i g).outputs = s.outputs := rfl
@[simp] theorem State.mapQE_pending (s : State) (i : Nat) (g : QE → QE) : (s.mapQE i g).pending = s.pending := rfl
@[simp] theorem State.mapQE_serving (s : State) (i : Nat) (g : QE → QE) : (s.mapQE i g).serving = s.serving := rfl
@[simp] theorem State.mapQE_port (s : State) (i : Nat) (g : QE → QE) (j : Nat) : (s.mapQE i g).port j = s.port j := rfl
@[simp] theorem State.mapQE_sub (s : State) (i : Nat) (g : QE → QE) (j : Nat) : (s.mapQE i g).sub j = s.sub j := rfl
@[simp] theorem State.mapQE_eng (s : State) (i : Nat) (g : QE → QE) (j : Nat) : (s.mapQE i g).eng j = s.eng j := rfl
@[simp] theorem State.mapQE_group (s : State) (i : Nat) (g : QE → QE) (j : Nat) : (s.mapQE i g).group j = s.group j := rfl
@[simp] theorem State.mapQE_phy (s : State) (i : Nat) (g : QE → QE) (j : Nat) : (s.mapQE i g).phy j = s.phy j := rfl
@[simp] theorem State.mapQE_fld (s : State) (i : Nat) (g : QE → QE) (g' : FRef) : (s.mapQE i g).fld g' = s.fld g' := rfl
@[simp] theorem State.mapQE_flag (s : State) (i : Nat) (g : QE → QE) (g' : FRef) : (s.mapQE i g).flag g' = s.flag g' := rfl
@[simp] theorem State.mapQE_word (s : State) (i : Nat) (g : QE → QE) (j : Nat) : (s.mapQE i g).word j = s.word j := rfl

@[simp] theorem State.mapReq_mode (s : State) (i : Nat) (g : Req → Req) : (s.mapReq i g).mode = s.mode := rfl
@[simp] theorem State.mapReq_build (s : State) (i : Nat) (g : Req → Req) : (s.mapReq i g).build = s.build := rfl
@[simp] theorem State.mapReq_resetN (s : State) (i : Nat) (g : Req → Req) : (s.mapReq i g).resetN = s.resetN := rfl
@[simp] theorem State.mapReq_frozen (s : State) (i : Nat) (g : Req → Req) : (s.mapReq i g).frozen = s.frozen := rfl
@[simp] theorem State.mapReq_tempo (s : State) (i : Nat) (g : Req → Req) : (s.mapReq i g).tempo = s.tempo := rfl
@[simp] theorem State.mapReq_wbuf (s : State) (i : Nat) (g : Req → Req) : (s.mapReq i g).wbuf = s.wbuf := rfl
@[simp] theorem State.mapReq_locks (s : State) (i : Nat) (g : Req → Req) : (s.mapReq i g).locks = s.locks := rfl
@[simp] theorem State.mapReq_qes (s : State) (i : Nat) (g : Req → Req) : (s.mapReq i g).qes = s.qes := rfl
@[simp] theorem State.mapReq_ports (s : State) (i : Nat) (g : Req → Req) : (s.mapReq i g).ports = s.ports := rfl
@[simp] theorem State.mapReq_subs (s : State) (i : Nat) (g : Req → Req) : (s.mapReq i g).subs = s.subs := rfl
@[simp] theorem State.mapReq_engs (s : State) (i : Nat) (g : Req → Req) : (s.mapReq i g).engs = s.engs := rfl
@[simp] theorem State.mapReq_groups (s : State) (i : Nat) (g : Req → Req) : (s.mapReq i g).groups = s.groups := rfl
@[simp] theorem State.mapReq_regs (s : State) (i : Nat) (g : Req → Req) : (s.mapReq i g).regs = s.regs := rfl
@[simp] theorem State.mapReq_fault (s : State) (i : Nat) (g : Req → Req) : (s.mapReq i g).fault = s.fault := rfl
@[simp] theorem State.mapReq_ring (s : State) (i : Nat) (g : Req → Req) : (s.mapReq i g).ring = s.ring := rfl
@[simp] theorem State.mapReq_repair (s : State) (i : Nat) (g : Req → Req) : (s.mapReq i g).repair = s.repair := rfl
@[simp] theorem State.mapReq_crypt (s : State) (i : Nat) (g : Req → Req) : (s.mapReq i g).crypt = s.crypt := rfl
@[simp] theorem State.mapReq_power (s : State) (i : Nat) (g : Req → Req) : (s.mapReq i g).power = s.power := rfl
@[simp] theorem State.mapReq_startup (s : State) (i : Nat) (g : Req → Req) : (s.mapReq i g).startup = s.startup := rfl
@[simp] theorem State.mapReq_bist (s : State) (i : Nat) (g : Req → Req) : (s.mapReq i g).bist = s.bist := rfl
@[simp] theorem State.mapReq_phys (s : State) (i : Nat) (g : Req → Req) : (s.mapReq i g).phys = s.phys := rfl
@[simp] theorem State.mapReq_outputs (s : State) (i : Nat) (g : Req → Req) : (s.mapReq i g).outputs = s.outputs := rfl
@[simp] theorem State.mapReq_pending (s : State) (i : Nat) (g : Req → Req) : (s.mapReq i g).pending = s.pending := rfl
@[simp] theorem State.mapReq_serving (s : State) (i : Nat) (g : Req → Req) : (s.mapReq i g).serving = s.serving := rfl
@[simp] theorem State.mapReq_port (s : State) (i : Nat) (g : Req → Req) (j : Nat) : (s.mapReq i g).port j = s.port j := rfl
@[simp] theorem State.mapReq_sub (s : State) (i : Nat) (g : Req → Req) (j : Nat) : (s.mapReq i g).sub j = s.sub j := rfl
@[simp] theorem State.mapReq_eng (s : State) (i : Nat) (g : Req → Req) (j : Nat) : (s.mapReq i g).eng j = s.eng j := rfl
@[simp] theorem State.mapReq_group (s : State) (i : Nat) (g : Req → Req) (j : Nat) : (s.mapReq i g).group j = s.group j := rfl
@[simp] theorem State.mapReq_phy (s : State) (i : Nat) (g : Req → Req) (j : Nat) : (s.mapReq i g).phy j = s.phy j := rfl
@[simp] theorem State.mapReq_fld (s : State) (i : Nat) (g : Req → Req) (g' : FRef) : (s.mapReq i g).fld g' = s.fld g' := rfl
@[simp] theorem State.mapReq_flag (s : State) (i : Nat) (g : Req → Req) (g' : FRef) : (s.mapReq i g).flag g' = s.flag g' := rfl
@[simp] theorem State.mapReq_word (s : State) (i : Nat) (g : Req → Req) (j : Nat) : (s.mapReq i g).word j = s.word j := rfl

@[simp] theorem State.dropQE_mode (s : State) (i : Nat) : (s.dropQE i).mode = s.mode := rfl
@[simp] theorem State.dropQE_build (s : State) (i : Nat) : (s.dropQE i).build = s.build := rfl
@[simp] theorem State.dropQE_resetN (s : State) (i : Nat) : (s.dropQE i).resetN = s.resetN := rfl
@[simp] theorem State.dropQE_frozen (s : State) (i : Nat) : (s.dropQE i).frozen = s.frozen := rfl
@[simp] theorem State.dropQE_tempo (s : State) (i : Nat) : (s.dropQE i).tempo = s.tempo := rfl
@[simp] theorem State.dropQE_reqs (s : State) (i : Nat) : (s.dropQE i).reqs = s.reqs := rfl
@[simp] theorem State.dropQE_wbuf (s : State) (i : Nat) : (s.dropQE i).wbuf = s.wbuf := rfl
@[simp] theorem State.dropQE_locks (s : State) (i : Nat) : (s.dropQE i).locks = s.locks := rfl
@[simp] theorem State.dropQE_ports (s : State) (i : Nat) : (s.dropQE i).ports = s.ports := rfl
@[simp] theorem State.dropQE_subs (s : State) (i : Nat) : (s.dropQE i).subs = s.subs := rfl
@[simp] theorem State.dropQE_engs (s : State) (i : Nat) : (s.dropQE i).engs = s.engs := rfl
@[simp] theorem State.dropQE_groups (s : State) (i : Nat) : (s.dropQE i).groups = s.groups := rfl
@[simp] theorem State.dropQE_regs (s : State) (i : Nat) : (s.dropQE i).regs = s.regs := rfl
@[simp] theorem State.dropQE_fault (s : State) (i : Nat) : (s.dropQE i).fault = s.fault := rfl
@[simp] theorem State.dropQE_ring (s : State) (i : Nat) : (s.dropQE i).ring = s.ring := rfl
@[simp] theorem State.dropQE_repair (s : State) (i : Nat) : (s.dropQE i).repair = s.repair := rfl
@[simp] theorem State.dropQE_crypt (s : State) (i : Nat) : (s.dropQE i).crypt = s.crypt := rfl
@[simp] theorem State.dropQE_power (s : State) (i : Nat) : (s.dropQE i).power = s.power := rfl
@[simp] theorem State.dropQE_startup (s : State) (i : Nat) : (s.dropQE i).startup = s.startup := rfl
@[simp] theorem State.dropQE_bist (s : State) (i : Nat) : (s.dropQE i).bist = s.bist := rfl
@[simp] theorem State.dropQE_phys (s : State) (i : Nat) : (s.dropQE i).phys = s.phys := rfl
@[simp] theorem State.dropQE_outputs (s : State) (i : Nat) : (s.dropQE i).outputs = s.outputs := rfl
@[simp] theorem State.dropQE_pending (s : State) (i : Nat) : (s.dropQE i).pending = s.pending := rfl
@[simp] theorem State.dropQE_serving (s : State) (i : Nat) : (s.dropQE i).serving = s.serving := rfl
@[simp] theorem State.dropQE_port (s : State) (i : Nat) (j : Nat) : (s.dropQE i).port j = s.port j := rfl
@[simp] theorem State.dropQE_sub (s : State) (i : Nat) (j : Nat) : (s.dropQE i).sub j = s.sub j := rfl
@[simp] theorem State.dropQE_eng (s : State) (i : Nat) (j : Nat) : (s.dropQE i).eng j = s.eng j := rfl
@[simp] theorem State.dropQE_group (s : State) (i : Nat) (j : Nat) : (s.dropQE i).group j = s.group j := rfl
@[simp] theorem State.dropQE_phy (s : State) (i : Nat) (j : Nat) : (s.dropQE i).phy j = s.phy j := rfl
@[simp] theorem State.dropQE_fld (s : State) (i : Nat) (g' : FRef) : (s.dropQE i).fld g' = s.fld g' := rfl
@[simp] theorem State.dropQE_flag (s : State) (i : Nat) (g' : FRef) : (s.dropQE i).flag g' = s.flag g' := rfl
@[simp] theorem State.dropQE_word (s : State) (i : Nat) (j : Nat) : (s.dropQE i).word j = s.word j := rfl

@[simp] theorem State.addQE_mode (s : State) (q : QE) : (s.addQE q).mode = s.mode := rfl
@[simp] theorem State.addQE_build (s : State) (q : QE) : (s.addQE q).build = s.build := rfl
@[simp] theorem State.addQE_resetN (s : State) (q : QE) : (s.addQE q).resetN = s.resetN := rfl
@[simp] theorem State.addQE_frozen (s : State) (q : QE) : (s.addQE q).frozen = s.frozen := rfl
@[simp] theorem State.addQE_tempo (s : State) (q : QE) : (s.addQE q).tempo = s.tempo := rfl
@[simp] theorem State.addQE_reqs (s : State) (q : QE) : (s.addQE q).reqs = s.reqs := rfl
@[simp] theorem State.addQE_wbuf (s : State) (q : QE) : (s.addQE q).wbuf = s.wbuf := rfl
@[simp] theorem State.addQE_locks (s : State) (q : QE) : (s.addQE q).locks = s.locks := rfl
@[simp] theorem State.addQE_ports (s : State) (q : QE) : (s.addQE q).ports = s.ports := rfl
@[simp] theorem State.addQE_subs (s : State) (q : QE) : (s.addQE q).subs = s.subs := rfl
@[simp] theorem State.addQE_engs (s : State) (q : QE) : (s.addQE q).engs = s.engs := rfl
@[simp] theorem State.addQE_groups (s : State) (q : QE) : (s.addQE q).groups = s.groups := rfl
@[simp] theorem State.addQE_regs (s : State) (q : QE) : (s.addQE q).regs = s.regs := rfl
@[simp] theorem State.addQE_fault (s : State) (q : QE) : (s.addQE q).fault = s.fault := rfl
@[simp] theorem State.addQE_ring (s : State) (q : QE) : (s.addQE q).ring = s.ring := rfl
@[simp] theorem State.addQE_repair (s : State) (q : QE) : (s.addQE q).repair = s.repair := rfl
@[simp] theorem State.addQE_crypt (s : State) (q : QE) : (s.addQE q).crypt = s.crypt := rfl
@[simp] theorem State.addQE_power (s : State) (q : QE) : (s.addQE q).power = s.power := rfl
@[simp] theorem State.addQE_startup (s : State) (q : QE) : (s.addQE q).startup = s.startup := rfl
@[simp] theorem State.addQE_bist (s : State) (q : QE) : (s.addQE q).bist = s.bist := rfl
@[simp] theorem State.addQE_phys (s : State) (q : QE) : (s.addQE q).phys = s.phys := rfl
@[simp] theorem State.addQE_outputs (s : State) (q : QE) : (s.addQE q).outputs = s.outputs := rfl
@[simp] theorem State.addQE_pending (s : State) (q : QE) : (s.addQE q).pending = s.pending := rfl
@[simp] theorem State.addQE_serving (s : State) (q : QE) : (s.addQE q).serving = s.serving := rfl
@[simp] theorem State.addQE_port (s : State) (q : QE) (j : Nat) : (s.addQE q).port j = s.port j := rfl
@[simp] theorem State.addQE_sub (s : State) (q : QE) (j : Nat) : (s.addQE q).sub j = s.sub j := rfl
@[simp] theorem State.addQE_eng (s : State) (q : QE) (j : Nat) : (s.addQE q).eng j = s.eng j := rfl
@[simp] theorem State.addQE_group (s : State) (q : QE) (j : Nat) : (s.addQE q).group j = s.group j := rfl
@[simp] theorem State.addQE_phy (s : State) (q : QE) (j : Nat) : (s.addQE q).phy j = s.phy j := rfl
@[simp] theorem State.addQE_fld (s : State) (q : QE) (g' : FRef) : (s.addQE q).fld g' = s.fld g' := rfl
@[simp] theorem State.addQE_flag (s : State) (q : QE) (g' : FRef) : (s.addQE q).flag g' = s.flag g' := rfl
@[simp] theorem State.addQE_word (s : State) (q : QE) (j : Nat) : (s.addQE q).word j = s.word j := rfl

/-! ## Time -/

theorem State.advanceTo_frame (s : State) (d : Tempo) : { s.advanceTo d with tempo := s.tempo, wraps := s.wraps } = s := by
  unfold State.advanceTo; split <;> rfl

theorem State.advanceLong_frame (s : State) (n : Nat) : { s.advanceLong n with tempo := s.tempo, wraps := s.wraps } = s := by
  unfold State.advanceLong; split <;> rfl

@[simp] theorem State.advanceTo_mode (s : State) (d : Tempo) : (s.advanceTo d).mode = s.mode := by unfold State.advanceTo; split <;> rfl
@[simp] theorem State.advanceLong_mode (s : State) (n : Nat) : (s.advanceLong n).mode = s.mode := by unfold State.advanceLong; split <;> rfl
@[simp] theorem State.advanceTo_build (s : State) (d : Tempo) : (s.advanceTo d).build = s.build := by unfold State.advanceTo; split <;> rfl
@[simp] theorem State.advanceLong_build (s : State) (n : Nat) : (s.advanceLong n).build = s.build := by unfold State.advanceLong; split <;> rfl
@[simp] theorem State.advanceTo_resetN (s : State) (d : Tempo) : (s.advanceTo d).resetN = s.resetN := by unfold State.advanceTo; split <;> rfl
@[simp] theorem State.advanceLong_resetN (s : State) (n : Nat) : (s.advanceLong n).resetN = s.resetN := by unfold State.advanceLong; split <;> rfl
@[simp] theorem State.advanceTo_frozen (s : State) (d : Tempo) : (s.advanceTo d).frozen = s.frozen := by unfold State.advanceTo; split <;> rfl
@[simp] theorem State.advanceLong_frozen (s : State) (n : Nat) : (s.advanceLong n).frozen = s.frozen := by unfold State.advanceLong; split <;> rfl
@[simp] theorem State.advanceTo_reqs (s : State) (d : Tempo) : (s.advanceTo d).reqs = s.reqs := by unfold State.advanceTo; split <;> rfl
@[simp] theorem State.advanceLong_reqs (s : State) (n : Nat) : (s.advanceLong n).reqs = s.reqs := by unfold State.advanceLong; split <;> rfl
@[simp] theorem State.advanceTo_wbuf (s : State) (d : Tempo) : (s.advanceTo d).wbuf = s.wbuf := by unfold State.advanceTo; split <;> rfl
@[simp] theorem State.advanceLong_wbuf (s : State) (n : Nat) : (s.advanceLong n).wbuf = s.wbuf := by unfold State.advanceLong; split <;> rfl
@[simp] theorem State.advanceTo_locks (s : State) (d : Tempo) : (s.advanceTo d).locks = s.locks := by unfold State.advanceTo; split <;> rfl
@[simp] theorem State.advanceLong_locks (s : State) (n : Nat) : (s.advanceLong n).locks = s.locks := by unfold State.advanceLong; split <;> rfl
@[simp] theorem State.advanceTo_qes (s : State) (d : Tempo) : (s.advanceTo d).qes = s.qes := by unfold State.advanceTo; split <;> rfl
@[simp] theorem State.advanceLong_qes (s : State) (n : Nat) : (s.advanceLong n).qes = s.qes := by unfold State.advanceLong; split <;> rfl
@[simp] theorem State.advanceTo_ports (s : State) (d : Tempo) : (s.advanceTo d).ports = s.ports := by unfold State.advanceTo; split <;> rfl
@[simp] theorem State.advanceLong_ports (s : State) (n : Nat) : (s.advanceLong n).ports = s.ports := by unfold State.advanceLong; split <;> rfl
@[simp] theorem State.advanceTo_subs (s : State) (d : Tempo) : (s.advanceTo d).subs = s.subs := by unfold State.advanceTo; split <;> rfl
@[simp] theorem State.advanceLong_subs (s : State) (n : Nat) : (s.advanceLong n).subs = s.subs := by unfold State.advanceLong; split <;> rfl
@[simp] theorem State.advanceTo_engs (s : State) (d : Tempo) : (s.advanceTo d).engs = s.engs := by unfold State.advanceTo; split <;> rfl
@[simp] theorem State.advanceLong_engs (s : State) (n : Nat) : (s.advanceLong n).engs = s.engs := by unfold State.advanceLong; split <;> rfl
@[simp] theorem State.advanceTo_groups (s : State) (d : Tempo) : (s.advanceTo d).groups = s.groups := by unfold State.advanceTo; split <;> rfl
@[simp] theorem State.advanceLong_groups (s : State) (n : Nat) : (s.advanceLong n).groups = s.groups := by unfold State.advanceLong; split <;> rfl
@[simp] theorem State.advanceTo_regs (s : State) (d : Tempo) : (s.advanceTo d).regs = s.regs := by unfold State.advanceTo; split <;> rfl
@[simp] theorem State.advanceLong_regs (s : State) (n : Nat) : (s.advanceLong n).regs = s.regs := by unfold State.advanceLong; split <;> rfl
@[simp] theorem State.advanceTo_fault (s : State) (d : Tempo) : (s.advanceTo d).fault = s.fault := by unfold State.advanceTo; split <;> rfl
@[simp] theorem State.advanceLong_fault (s : State) (n : Nat) : (s.advanceLong n).fault = s.fault := by unfold State.advanceLong; split <;> rfl
@[simp] theorem State.advanceTo_ring (s : State) (d : Tempo) : (s.advanceTo d).ring = s.ring := by unfold State.advanceTo; split <;> rfl
@[simp] theorem State.advanceLong_ring (s : State) (n : Nat) : (s.advanceLong n).ring = s.ring := by unfold State.advanceLong; split <;> rfl
@[simp] theorem State.advanceTo_repair (s : State) (d : Tempo) : (s.advanceTo d).repair = s.repair := by unfold State.advanceTo; split <;> rfl
@[simp] theorem State.advanceLong_repair (s : State) (n : Nat) : (s.advanceLong n).repair = s.repair := by unfold State.advanceLong; split <;> rfl
@[simp] theorem State.advanceTo_crypt (s : State) (d : Tempo) : (s.advanceTo d).crypt = s.crypt := by unfold State.advanceTo; split <;> rfl
@[simp] theorem State.advanceLong_crypt (s : State) (n : Nat) : (s.advanceLong n).crypt = s.crypt := by unfold State.advanceLong; split <;> rfl
@[simp] theorem State.advanceTo_power (s : State) (d : Tempo) : (s.advanceTo d).power = s.power := by unfold State.advanceTo; split <;> rfl
@[simp] theorem State.advanceLong_power (s : State) (n : Nat) : (s.advanceLong n).power = s.power := by unfold State.advanceLong; split <;> rfl
@[simp] theorem State.advanceTo_startup (s : State) (d : Tempo) : (s.advanceTo d).startup = s.startup := by unfold State.advanceTo; split <;> rfl
@[simp] theorem State.advanceLong_startup (s : State) (n : Nat) : (s.advanceLong n).startup = s.startup := by unfold State.advanceLong; split <;> rfl
@[simp] theorem State.advanceTo_bist (s : State) (d : Tempo) : (s.advanceTo d).bist = s.bist := by unfold State.advanceTo; split <;> rfl
@[simp] theorem State.advanceLong_bist (s : State) (n : Nat) : (s.advanceLong n).bist = s.bist := by unfold State.advanceLong; split <;> rfl
@[simp] theorem State.advanceTo_phys (s : State) (d : Tempo) : (s.advanceTo d).phys = s.phys := by unfold State.advanceTo; split <;> rfl
@[simp] theorem State.advanceLong_phys (s : State) (n : Nat) : (s.advanceLong n).phys = s.phys := by unfold State.advanceLong; split <;> rfl
@[simp] theorem State.advanceTo_outputs (s : State) (d : Tempo) : (s.advanceTo d).outputs = s.outputs := by unfold State.advanceTo; split <;> rfl
@[simp] theorem State.advanceLong_outputs (s : State) (n : Nat) : (s.advanceLong n).outputs = s.outputs := by unfold State.advanceLong; split <;> rfl
@[simp] theorem State.advanceTo_pending (s : State) (d : Tempo) : (s.advanceTo d).pending = s.pending := by unfold State.advanceTo; split <;> rfl
@[simp] theorem State.advanceLong_pending (s : State) (n : Nat) : (s.advanceLong n).pending = s.pending := by unfold State.advanceLong; split <;> rfl
@[simp] theorem State.advanceTo_serving (s : State) (d : Tempo) : (s.advanceTo d).serving = s.serving := by unfold State.advanceTo; split <;> rfl
@[simp] theorem State.advanceLong_serving (s : State) (n : Nat) : (s.advanceLong n).serving = s.serving := by unfold State.advanceLong; split <;> rfl
@[simp] theorem State.advanceTo_port (s : State) (d : Tempo) (j : Nat) : (s.advanceTo d).port j = s.port j := by unfold State.advanceTo; split <;> rfl
@[simp] theorem State.advanceLong_port (s : State) (n : Nat) (j : Nat) : (s.advanceLong n).port j = s.port j := by unfold State.advanceLong; split <;> rfl
@[simp] theorem State.advanceTo_sub (s : State) (d : Tempo) (j : Nat) : (s.advanceTo d).sub j = s.sub j := by unfold State.advanceTo; split <;> rfl
@[simp] theorem State.advanceLong_sub (s : State) (n : Nat) (j : Nat) : (s.advanceLong n).sub j = s.sub j := by unfold State.advanceLong; split <;> rfl
@[simp] theorem State.advanceTo_eng (s : State) (d : Tempo) (j : Nat) : (s.advanceTo d).eng j = s.eng j := by unfold State.advanceTo; split <;> rfl
@[simp] theorem State.advanceLong_eng (s : State) (n : Nat) (j : Nat) : (s.advanceLong n).eng j = s.eng j := by unfold State.advanceLong; split <;> rfl
@[simp] theorem State.advanceTo_group (s : State) (d : Tempo) (j : Nat) : (s.advanceTo d).group j = s.group j := by unfold State.advanceTo; split <;> rfl
@[simp] theorem State.advanceLong_group (s : State) (n : Nat) (j : Nat) : (s.advanceLong n).group j = s.group j := by unfold State.advanceLong; split <;> rfl
@[simp] theorem State.advanceTo_phy (s : State) (d : Tempo) (j : Nat) : (s.advanceTo d).phy j = s.phy j := by unfold State.advanceTo; split <;> rfl
@[simp] theorem State.advanceLong_phy (s : State) (n : Nat) (j : Nat) : (s.advanceLong n).phy j = s.phy j := by unfold State.advanceLong; split <;> rfl
@[simp] theorem State.advanceTo_fld (s : State) (d : Tempo) (g' : FRef) : (s.advanceTo d).fld g' = s.fld g' := by unfold State.advanceTo; split <;> rfl
@[simp] theorem State.advanceLong_fld (s : State) (n : Nat) (g' : FRef) : (s.advanceLong n).fld g' = s.fld g' := by unfold State.advanceLong; split <;> rfl
@[simp] theorem State.advanceTo_flag (s : State) (d : Tempo) (g' : FRef) : (s.advanceTo d).flag g' = s.flag g' := by unfold State.advanceTo; split <;> rfl
@[simp] theorem State.advanceLong_flag (s : State) (n : Nat) (g' : FRef) : (s.advanceLong n).flag g' = s.flag g' := by unfold State.advanceLong; split <;> rfl
@[simp] theorem State.advanceTo_word (s : State) (d : Tempo) (j : Nat) : (s.advanceTo d).word j = s.word j := by unfold State.advanceTo; split <;> rfl
@[simp] theorem State.advanceLong_word (s : State) (n : Nat) (j : Nat) : (s.advanceLong n).word j = s.word j := by unfold State.advanceLong; split <;> rfl

/-! ## Registers -/

/-- A word of another register reads as before. -/
theorem State.setWord_word_ne (s : State) (k j : Nat) (w : Word) (h : j ≠ k) : (s.setWord k w).word j = s.word j :=
  tget_tput_ne _ _ _ _ _ _ h

@[simp] theorem State.setWord_word (s : State) (k : Nat) (w : Word) : (s.setWord k w).word k = w := by
  simp [State.setWord, State.word]

/-- A field of another register reads as before. -/
theorem State.setFld_fld_ne (s : State) (f g : FRef) (v : Nat) (h : g.key ≠ f.key) : (s.setFld f v).fld g = s.fld g := by
  unfold State.fld State.setFld; rw [State.setWord_word_ne _ _ _ _ h]

theorem State.setFlds_frame (l : List (FRef × Nat)) (s : State) : { s.setFlds l with regs := s.regs } = s := by
  induction l generalizing s with
  | nil => rfl
  | cons a l ih =>
    show { ((s.setFld a.1 a.2).setFlds l) with regs := s.regs } = s
    conv => rhs; rw [show s = { s.setFld a.1 a.2 with regs := s.regs } from rfl, ← ih (s.setFld a.1 a.2)]

/-! ## What the updates of tables write -/

@[simp] theorem State.setTrain_train (s : State) (i j : Nat) (x : TrainSub) : (s.setTrain i x).train j = if j = i then x else s.train j := by
  simp [State.train, State.setTrain]

@[simp] theorem State.setTrim_trim (s : State) (i j : Nat) (x : Trim) : (s.setTrim i x).trim j = if j = i then x else s.trim j := by
  simp [State.trim, State.setTrim]

@[simp] theorem State.setEp_ep (s : State) (i j : Nat) (x : EpCh) : (s.setEp i x).ep j = if j = i then x else s.ep j := by
  simp [State.ep, State.setEp]

@[simp] theorem State.setErase_erase (s : State) (i j : Nat) (x : Option Erase) : (s.setErase i x).erase? j = if j = i then x else s.erase? j := by
  simp [State.erase?, State.setErase]

@[simp] theorem State.setTrack_track (s : State) (i j : Nat) (x : Option Track) : (s.setTrack i x).track? j = if j = i then x else s.track? j := by
  simp [State.track?, State.setTrack]

@[simp] theorem State.setScrub_scrubOf (s : State) (i j : Nat) (x : Scrub) : (s.setScrub i x).scrubOf j = if j = i then x else s.scrubOf j := by
  simp [State.scrubOf, State.setScrub]

@[simp] theorem State.setTimer_timer (s : State) (k j v : Nat) : (s.setTimer k v).timer j = if j = k then v else s.timer j := by
  simp [State.timer, State.setTimer]

/-! ## What an update leaves: the fields not listed above, and the updates of tables -/

@[simp] theorem State.setWord_sleepFrom (s : State) (k : Nat) (w : Word) : (s.setWord k w).sleepFrom = s.sleepFrom := rfl
@[simp] theorem State.setWord_wraps (s : State) (k : Nat) (w : Word) : (s.setWord k w).wraps = s.wraps := rfl
@[simp] theorem State.setWord_memReady (s : State) (k : Nat) (w : Word) : (s.setWord k w).memReady = s.memReady := rfl
@[simp] theorem State.setWord_stg (s : State) (k : Nat) (w : Word) : (s.setWord k w).stg = s.stg := rfl
@[simp] theorem State.setWord_views (s : State) (k : Nat) (w : Word) : (s.setWord k w).views = s.views := rfl
@[simp] theorem State.setWord_claims (s : State) (k : Nat) (w : Word) : (s.setWord k w).claims = s.claims := rfl
@[simp] theorem State.setWord_copies (s : State) (k : Nat) (w : Word) : (s.setWord k w).copies = s.copies := rfl
@[simp] theorem State.setWord_tabs (s : State) (k : Nat) (w : Word) : (s.setWord k w).tabs = s.tabs := rfl
@[simp] theorem State.setWord_tabsStg (s : State) (k : Nat) (w : Word) : (s.setWord k w).tabsStg = s.tabsStg := rfl
@[simp] theorem State.setWord_timers (s : State) (k : Nat) (w : Word) : (s.setWord k w).timers = s.timers := rfl
@[simp] theorem State.setWord_arbHolder (s : State) (k : Nat) (w : Word) : (s.setWord k w).arbHolder = s.arbHolder := rfl
@[simp] theorem State.setWord_arbDead (s : State) (k : Nat) (w : Word) : (s.setWord k w).arbDead = s.arbDead := rfl
@[simp] theorem State.setWord_nextRid (s : State) (k : Nat) (w : Word) : (s.setWord k w).nextRid = s.nextRid := rfl
@[simp] theorem State.setWord_nextTag (s : State) (k : Nat) (w : Word) : (s.setWord k w).nextTag = s.nextTag := rfl
@[simp] theorem State.setWord_age (s : State) (k : Nat) (w : Word) : (s.setWord k w).age = s.age := rfl
@[simp] theorem State.setWord_rankTemps (s : State) (k : Nat) (w : Word) : (s.setWord k w).rankTemps = s.rankTemps := rfl
@[simp] theorem State.setWord_retained (s : State) (k : Nat) (w : Word) : (s.setWord k w).retained = s.retained := rfl
@[simp] theorem State.setWord_mig (s : State) (k : Nat) (w : Word) : (s.setWord k w).mig = s.mig := rfl
@[simp] theorem State.setWord_migDone (s : State) (k : Nat) (w : Word) : (s.setWord k w).migDone = s.migDone := rfl
@[simp] theorem State.setWord_trims (s : State) (k : Nat) (w : Word) : (s.setWord k w).trims = s.trims := rfl
@[simp] theorem State.setWord_caTrims (s : State) (k : Nat) (w : Word) : (s.setWord k w).caTrims = s.caTrims := rfl
@[simp] theorem State.setWord_eyes (s : State) (k : Nat) (w : Word) : (s.setWord k w).eyes = s.eyes := rfl
@[simp] theorem State.setWord_book (s : State) (k : Nat) (w : Word) : (s.setWord k w).book = s.book := rfl
@[simp] theorem State.setWord_trains (s : State) (k : Nat) (w : Word) : (s.setWord k w).trains = s.trains := rfl
@[simp] theorem State.setWord_pendTrims (s : State) (k : Nat) (w : Word) : (s.setWord k w).pendTrims = s.pendTrims := rfl
@[simp] theorem State.setWord_eps (s : State) (k : Nat) (w : Word) : (s.setWord k w).eps = s.eps := rfl
@[simp] theorem State.setWord_tap (s : State) (k : Nat) (w : Word) : (s.setWord k w).tap = s.tap := rfl

@[simp] theorem State.setFld_sleepFrom (s : State) (f : FRef) (v : Nat) : (s.setFld f v).sleepFrom = s.sleepFrom := rfl
@[simp] theorem State.setFld_wraps (s : State) (f : FRef) (v : Nat) : (s.setFld f v).wraps = s.wraps := rfl
@[simp] theorem State.setFld_memReady (s : State) (f : FRef) (v : Nat) : (s.setFld f v).memReady = s.memReady := rfl
@[simp] theorem State.setFld_stg (s : State) (f : FRef) (v : Nat) : (s.setFld f v).stg = s.stg := rfl
@[simp] theorem State.setFld_views (s : State) (f : FRef) (v : Nat) : (s.setFld f v).views = s.views := rfl
@[simp] theorem State.setFld_claims (s : State) (f : FRef) (v : Nat) : (s.setFld f v).claims = s.claims := rfl
@[simp] theorem State.setFld_copies (s : State) (f : FRef) (v : Nat) : (s.setFld f v).copies = s.copies := rfl
@[simp] theorem State.setFld_tabs (s : State) (f : FRef) (v : Nat) : (s.setFld f v).tabs = s.tabs := rfl
@[simp] theorem State.setFld_tabsStg (s : State) (f : FRef) (v : Nat) : (s.setFld f v).tabsStg = s.tabsStg := rfl
@[simp] theorem State.setFld_timers (s : State) (f : FRef) (v : Nat) : (s.setFld f v).timers = s.timers := rfl
@[simp] theorem State.setFld_arbHolder (s : State) (f : FRef) (v : Nat) : (s.setFld f v).arbHolder = s.arbHolder := rfl
@[simp] theorem State.setFld_arbDead (s : State) (f : FRef) (v : Nat) : (s.setFld f v).arbDead = s.arbDead := rfl
@[simp] theorem State.setFld_nextRid (s : State) (f : FRef) (v : Nat) : (s.setFld f v).nextRid = s.nextRid := rfl
@[simp] theorem State.setFld_nextTag (s : State) (f : FRef) (v : Nat) : (s.setFld f v).nextTag = s.nextTag := rfl
@[simp] theorem State.setFld_age (s : State) (f : FRef) (v : Nat) : (s.setFld f v).age = s.age := rfl
@[simp] theorem State.setFld_rankTemps (s : State) (f : FRef) (v : Nat) : (s.setFld f v).rankTemps = s.rankTemps := rfl
@[simp] theorem State.setFld_retained (s : State) (f : FRef) (v : Nat) : (s.setFld f v).retained = s.retained := rfl
@[simp] theorem State.setFld_mig (s : State) (f : FRef) (v : Nat) : (s.setFld f v).mig = s.mig := rfl
@[simp] theorem State.setFld_migDone (s : State) (f : FRef) (v : Nat) : (s.setFld f v).migDone = s.migDone := rfl
@[simp] theorem State.setFld_trims (s : State) (f : FRef) (v : Nat) : (s.setFld f v).trims = s.trims := rfl
@[simp] theorem State.setFld_caTrims (s : State) (f : FRef) (v : Nat) : (s.setFld f v).caTrims = s.caTrims := rfl
@[simp] theorem State.setFld_eyes (s : State) (f : FRef) (v : Nat) : (s.setFld f v).eyes = s.eyes := rfl
@[simp] theorem State.setFld_book (s : State) (f : FRef) (v : Nat) : (s.setFld f v).book = s.book := rfl
@[simp] theorem State.setFld_trains (s : State) (f : FRef) (v : Nat) : (s.setFld f v).trains = s.trains := rfl
@[simp] theorem State.setFld_pendTrims (s : State) (f : FRef) (v : Nat) : (s.setFld f v).pendTrims = s.pendTrims := rfl
@[simp] theorem State.setFld_eps (s : State) (f : FRef) (v : Nat) : (s.setFld f v).eps = s.eps := rfl
@[simp] theorem State.setFld_tap (s : State) (f : FRef) (v : Nat) : (s.setFld f v).tap = s.tap := rfl

@[simp] theorem State.set1_sleepFrom (s : State) (f : FRef) : (s.set1 f).sleepFrom = s.sleepFrom := rfl
@[simp] theorem State.set1_wraps (s : State) (f : FRef) : (s.set1 f).wraps = s.wraps := rfl
@[simp] theorem State.set1_memReady (s : State) (f : FRef) : (s.set1 f).memReady = s.memReady := rfl
@[simp] theorem State.set1_stg (s : State) (f : FRef) : (s.set1 f).stg = s.stg := rfl
@[simp] theorem State.set1_views (s : State) (f : FRef) : (s.set1 f).views = s.views := rfl
@[simp] theorem State.set1_claims (s : State) (f : FRef) : (s.set1 f).claims = s.claims := rfl
@[simp] theorem State.set1_copies (s : State) (f : FRef) : (s.set1 f).copies = s.copies := rfl
@[simp] theorem State.set1_tabs (s : State) (f : FRef) : (s.set1 f).tabs = s.tabs := rfl
@[simp] theorem State.set1_tabsStg (s : State) (f : FRef) : (s.set1 f).tabsStg = s.tabsStg := rfl
@[simp] theorem State.set1_timers (s : State) (f : FRef) : (s.set1 f).timers = s.timers := rfl
@[simp] theorem State.set1_arbHolder (s : State) (f : FRef) : (s.set1 f).arbHolder = s.arbHolder := rfl
@[simp] theorem State.set1_arbDead (s : State) (f : FRef) : (s.set1 f).arbDead = s.arbDead := rfl
@[simp] theorem State.set1_nextRid (s : State) (f : FRef) : (s.set1 f).nextRid = s.nextRid := rfl
@[simp] theorem State.set1_nextTag (s : State) (f : FRef) : (s.set1 f).nextTag = s.nextTag := rfl
@[simp] theorem State.set1_age (s : State) (f : FRef) : (s.set1 f).age = s.age := rfl
@[simp] theorem State.set1_rankTemps (s : State) (f : FRef) : (s.set1 f).rankTemps = s.rankTemps := rfl
@[simp] theorem State.set1_retained (s : State) (f : FRef) : (s.set1 f).retained = s.retained := rfl
@[simp] theorem State.set1_mig (s : State) (f : FRef) : (s.set1 f).mig = s.mig := rfl
@[simp] theorem State.set1_migDone (s : State) (f : FRef) : (s.set1 f).migDone = s.migDone := rfl
@[simp] theorem State.set1_trims (s : State) (f : FRef) : (s.set1 f).trims = s.trims := rfl
@[simp] theorem State.set1_caTrims (s : State) (f : FRef) : (s.set1 f).caTrims = s.caTrims := rfl
@[simp] theorem State.set1_eyes (s : State) (f : FRef) : (s.set1 f).eyes = s.eyes := rfl
@[simp] theorem State.set1_book (s : State) (f : FRef) : (s.set1 f).book = s.book := rfl
@[simp] theorem State.set1_trains (s : State) (f : FRef) : (s.set1 f).trains = s.trains := rfl
@[simp] theorem State.set1_pendTrims (s : State) (f : FRef) : (s.set1 f).pendTrims = s.pendTrims := rfl
@[simp] theorem State.set1_eps (s : State) (f : FRef) : (s.set1 f).eps = s.eps := rfl
@[simp] theorem State.set1_tap (s : State) (f : FRef) : (s.set1 f).tap = s.tap := rfl

@[simp] theorem State.clr_sleepFrom (s : State) (f : FRef) : (s.clr f).sleepFrom = s.sleepFrom := rfl
@[simp] theorem State.clr_wraps (s : State) (f : FRef) : (s.clr f).wraps = s.wraps := rfl
@[simp] theorem State.clr_memReady (s : State) (f : FRef) : (s.clr f).memReady = s.memReady := rfl
@[simp] theorem State.clr_stg (s : State) (f : FRef) : (s.clr f).stg = s.stg := rfl
@[simp] theorem State.clr_views (s : State) (f : FRef) : (s.clr f).views = s.views := rfl
@[simp] theorem State.clr_claims (s : State) (f : FRef) : (s.clr f).claims = s.claims := rfl
@[simp] theorem State.clr_copies (s : State) (f : FRef) : (s.clr f).copies = s.copies := rfl
@[simp] theorem State.clr_tabs (s : State) (f : FRef) : (s.clr f).tabs = s.tabs := rfl
@[simp] theorem State.clr_tabsStg (s : State) (f : FRef) : (s.clr f).tabsStg = s.tabsStg := rfl
@[simp] theorem State.clr_timers (s : State) (f : FRef) : (s.clr f).timers = s.timers := rfl
@[simp] theorem State.clr_arbHolder (s : State) (f : FRef) : (s.clr f).arbHolder = s.arbHolder := rfl
@[simp] theorem State.clr_arbDead (s : State) (f : FRef) : (s.clr f).arbDead = s.arbDead := rfl
@[simp] theorem State.clr_nextRid (s : State) (f : FRef) : (s.clr f).nextRid = s.nextRid := rfl
@[simp] theorem State.clr_nextTag (s : State) (f : FRef) : (s.clr f).nextTag = s.nextTag := rfl
@[simp] theorem State.clr_age (s : State) (f : FRef) : (s.clr f).age = s.age := rfl
@[simp] theorem State.clr_rankTemps (s : State) (f : FRef) : (s.clr f).rankTemps = s.rankTemps := rfl
@[simp] theorem State.clr_retained (s : State) (f : FRef) : (s.clr f).retained = s.retained := rfl
@[simp] theorem State.clr_mig (s : State) (f : FRef) : (s.clr f).mig = s.mig := rfl
@[simp] theorem State.clr_migDone (s : State) (f : FRef) : (s.clr f).migDone = s.migDone := rfl
@[simp] theorem State.clr_trims (s : State) (f : FRef) : (s.clr f).trims = s.trims := rfl
@[simp] theorem State.clr_caTrims (s : State) (f : FRef) : (s.clr f).caTrims = s.caTrims := rfl
@[simp] theorem State.clr_eyes (s : State) (f : FRef) : (s.clr f).eyes = s.eyes := rfl
@[simp] theorem State.clr_book (s : State) (f : FRef) : (s.clr f).book = s.book := rfl
@[simp] theorem State.clr_trains (s : State) (f : FRef) : (s.clr f).trains = s.trains := rfl
@[simp] theorem State.clr_pendTrims (s : State) (f : FRef) : (s.clr f).pendTrims = s.pendTrims := rfl
@[simp] theorem State.clr_eps (s : State) (f : FRef) : (s.clr f).eps = s.eps := rfl
@[simp] theorem State.clr_tap (s : State) (f : FRef) : (s.clr f).tap = s.tap := rfl

@[simp] theorem State.bump_sleepFrom (s : State) (f : FRef) (n : Nat) : (s.bump f n).sleepFrom = s.sleepFrom := rfl
@[simp] theorem State.bump_wraps (s : State) (f : FRef) (n : Nat) : (s.bump f n).wraps = s.wraps := rfl
@[simp] theorem State.bump_memReady (s : State) (f : FRef) (n : Nat) : (s.bump f n).memReady = s.memReady := rfl
@[simp] theorem State.bump_stg (s : State) (f : FRef) (n : Nat) : (s.bump f n).stg = s.stg := rfl
@[simp] theorem State.bump_views (s : State) (f : FRef) (n : Nat) : (s.bump f n).views = s.views := rfl
@[simp] theorem State.bump_claims (s : State) (f : FRef) (n : Nat) : (s.bump f n).claims = s.claims := rfl
@[simp] theorem State.bump_copies (s : State) (f : FRef) (n : Nat) : (s.bump f n).copies = s.copies := rfl
@[simp] theorem State.bump_tabs (s : State) (f : FRef) (n : Nat) : (s.bump f n).tabs = s.tabs := rfl
@[simp] theorem State.bump_tabsStg (s : State) (f : FRef) (n : Nat) : (s.bump f n).tabsStg = s.tabsStg := rfl
@[simp] theorem State.bump_timers (s : State) (f : FRef) (n : Nat) : (s.bump f n).timers = s.timers := rfl
@[simp] theorem State.bump_arbHolder (s : State) (f : FRef) (n : Nat) : (s.bump f n).arbHolder = s.arbHolder := rfl
@[simp] theorem State.bump_arbDead (s : State) (f : FRef) (n : Nat) : (s.bump f n).arbDead = s.arbDead := rfl
@[simp] theorem State.bump_nextRid (s : State) (f : FRef) (n : Nat) : (s.bump f n).nextRid = s.nextRid := rfl
@[simp] theorem State.bump_nextTag (s : State) (f : FRef) (n : Nat) : (s.bump f n).nextTag = s.nextTag := rfl
@[simp] theorem State.bump_age (s : State) (f : FRef) (n : Nat) : (s.bump f n).age = s.age := rfl
@[simp] theorem State.bump_rankTemps (s : State) (f : FRef) (n : Nat) : (s.bump f n).rankTemps = s.rankTemps := rfl
@[simp] theorem State.bump_retained (s : State) (f : FRef) (n : Nat) : (s.bump f n).retained = s.retained := rfl
@[simp] theorem State.bump_mig (s : State) (f : FRef) (n : Nat) : (s.bump f n).mig = s.mig := rfl
@[simp] theorem State.bump_migDone (s : State) (f : FRef) (n : Nat) : (s.bump f n).migDone = s.migDone := rfl
@[simp] theorem State.bump_trims (s : State) (f : FRef) (n : Nat) : (s.bump f n).trims = s.trims := rfl
@[simp] theorem State.bump_caTrims (s : State) (f : FRef) (n : Nat) : (s.bump f n).caTrims = s.caTrims := rfl
@[simp] theorem State.bump_eyes (s : State) (f : FRef) (n : Nat) : (s.bump f n).eyes = s.eyes := rfl
@[simp] theorem State.bump_book (s : State) (f : FRef) (n : Nat) : (s.bump f n).book = s.book := rfl
@[simp] theorem State.bump_trains (s : State) (f : FRef) (n : Nat) : (s.bump f n).trains = s.trains := rfl
@[simp] theorem State.bump_pendTrims (s : State) (f : FRef) (n : Nat) : (s.bump f n).pendTrims = s.pendTrims := rfl
@[simp] theorem State.bump_eps (s : State) (f : FRef) (n : Nat) : (s.bump f n).eps = s.eps := rfl
@[simp] theorem State.bump_tap (s : State) (f : FRef) (n : Nat) : (s.bump f n).tap = s.tap := rfl

@[simp] theorem State.setBit_sleepFrom (s : State) (f : FRef) (i : Nat) (b : Bool) : (s.setBit f i b).sleepFrom = s.sleepFrom := rfl
@[simp] theorem State.setBit_wraps (s : State) (f : FRef) (i : Nat) (b : Bool) : (s.setBit f i b).wraps = s.wraps := rfl
@[simp] theorem State.setBit_memReady (s : State) (f : FRef) (i : Nat) (b : Bool) : (s.setBit f i b).memReady = s.memReady := rfl
@[simp] theorem State.setBit_stg (s : State) (f : FRef) (i : Nat) (b : Bool) : (s.setBit f i b).stg = s.stg := rfl
@[simp] theorem State.setBit_views (s : State) (f : FRef) (i : Nat) (b : Bool) : (s.setBit f i b).views = s.views := rfl
@[simp] theorem State.setBit_claims (s : State) (f : FRef) (i : Nat) (b : Bool) : (s.setBit f i b).claims = s.claims := rfl
@[simp] theorem State.setBit_copies (s : State) (f : FRef) (i : Nat) (b : Bool) : (s.setBit f i b).copies = s.copies := rfl
@[simp] theorem State.setBit_tabs (s : State) (f : FRef) (i : Nat) (b : Bool) : (s.setBit f i b).tabs = s.tabs := rfl
@[simp] theorem State.setBit_tabsStg (s : State) (f : FRef) (i : Nat) (b : Bool) : (s.setBit f i b).tabsStg = s.tabsStg := rfl
@[simp] theorem State.setBit_timers (s : State) (f : FRef) (i : Nat) (b : Bool) : (s.setBit f i b).timers = s.timers := rfl
@[simp] theorem State.setBit_arbHolder (s : State) (f : FRef) (i : Nat) (b : Bool) : (s.setBit f i b).arbHolder = s.arbHolder := rfl
@[simp] theorem State.setBit_arbDead (s : State) (f : FRef) (i : Nat) (b : Bool) : (s.setBit f i b).arbDead = s.arbDead := rfl
@[simp] theorem State.setBit_nextRid (s : State) (f : FRef) (i : Nat) (b : Bool) : (s.setBit f i b).nextRid = s.nextRid := rfl
@[simp] theorem State.setBit_nextTag (s : State) (f : FRef) (i : Nat) (b : Bool) : (s.setBit f i b).nextTag = s.nextTag := rfl
@[simp] theorem State.setBit_age (s : State) (f : FRef) (i : Nat) (b : Bool) : (s.setBit f i b).age = s.age := rfl
@[simp] theorem State.setBit_rankTemps (s : State) (f : FRef) (i : Nat) (b : Bool) : (s.setBit f i b).rankTemps = s.rankTemps := rfl
@[simp] theorem State.setBit_retained (s : State) (f : FRef) (i : Nat) (b : Bool) : (s.setBit f i b).retained = s.retained := rfl
@[simp] theorem State.setBit_mig (s : State) (f : FRef) (i : Nat) (b : Bool) : (s.setBit f i b).mig = s.mig := rfl
@[simp] theorem State.setBit_migDone (s : State) (f : FRef) (i : Nat) (b : Bool) : (s.setBit f i b).migDone = s.migDone := rfl
@[simp] theorem State.setBit_trims (s : State) (f : FRef) (i : Nat) (b : Bool) : (s.setBit f i b).trims = s.trims := rfl
@[simp] theorem State.setBit_caTrims (s : State) (f : FRef) (i : Nat) (b : Bool) : (s.setBit f i b).caTrims = s.caTrims := rfl
@[simp] theorem State.setBit_eyes (s : State) (f : FRef) (i : Nat) (b : Bool) : (s.setBit f i b).eyes = s.eyes := rfl
@[simp] theorem State.setBit_book (s : State) (f : FRef) (i : Nat) (b : Bool) : (s.setBit f i b).book = s.book := rfl
@[simp] theorem State.setBit_trains (s : State) (f : FRef) (i : Nat) (b : Bool) : (s.setBit f i b).trains = s.trains := rfl
@[simp] theorem State.setBit_pendTrims (s : State) (f : FRef) (i : Nat) (b : Bool) : (s.setBit f i b).pendTrims = s.pendTrims := rfl
@[simp] theorem State.setBit_eps (s : State) (f : FRef) (i : Nat) (b : Bool) : (s.setBit f i b).eps = s.eps := rfl
@[simp] theorem State.setBit_tap (s : State) (f : FRef) (i : Nat) (b : Bool) : (s.setBit f i b).tap = s.tap := rfl

@[simp] theorem State.emit_sleepFrom (s : State) (o : Output) : (s.emit o).sleepFrom = s.sleepFrom := rfl
@[simp] theorem State.emit_wraps (s : State) (o : Output) : (s.emit o).wraps = s.wraps := rfl
@[simp] theorem State.emit_memReady (s : State) (o : Output) : (s.emit o).memReady = s.memReady := rfl
@[simp] theorem State.emit_stg (s : State) (o : Output) : (s.emit o).stg = s.stg := rfl
@[simp] theorem State.emit_views (s : State) (o : Output) : (s.emit o).views = s.views := rfl
@[simp] theorem State.emit_claims (s : State) (o : Output) : (s.emit o).claims = s.claims := rfl
@[simp] theorem State.emit_copies (s : State) (o : Output) : (s.emit o).copies = s.copies := rfl
@[simp] theorem State.emit_tabs (s : State) (o : Output) : (s.emit o).tabs = s.tabs := rfl
@[simp] theorem State.emit_tabsStg (s : State) (o : Output) : (s.emit o).tabsStg = s.tabsStg := rfl
@[simp] theorem State.emit_timers (s : State) (o : Output) : (s.emit o).timers = s.timers := rfl
@[simp] theorem State.emit_arbHolder (s : State) (o : Output) : (s.emit o).arbHolder = s.arbHolder := rfl
@[simp] theorem State.emit_arbDead (s : State) (o : Output) : (s.emit o).arbDead = s.arbDead := rfl
@[simp] theorem State.emit_nextRid (s : State) (o : Output) : (s.emit o).nextRid = s.nextRid := rfl
@[simp] theorem State.emit_nextTag (s : State) (o : Output) : (s.emit o).nextTag = s.nextTag := rfl
@[simp] theorem State.emit_age (s : State) (o : Output) : (s.emit o).age = s.age := rfl
@[simp] theorem State.emit_rankTemps (s : State) (o : Output) : (s.emit o).rankTemps = s.rankTemps := rfl
@[simp] theorem State.emit_retained (s : State) (o : Output) : (s.emit o).retained = s.retained := rfl
@[simp] theorem State.emit_mig (s : State) (o : Output) : (s.emit o).mig = s.mig := rfl
@[simp] theorem State.emit_migDone (s : State) (o : Output) : (s.emit o).migDone = s.migDone := rfl
@[simp] theorem State.emit_trims (s : State) (o : Output) : (s.emit o).trims = s.trims := rfl
@[simp] theorem State.emit_caTrims (s : State) (o : Output) : (s.emit o).caTrims = s.caTrims := rfl
@[simp] theorem State.emit_eyes (s : State) (o : Output) : (s.emit o).eyes = s.eyes := rfl
@[simp] theorem State.emit_book (s : State) (o : Output) : (s.emit o).book = s.book := rfl
@[simp] theorem State.emit_trains (s : State) (o : Output) : (s.emit o).trains = s.trains := rfl
@[simp] theorem State.emit_pendTrims (s : State) (o : Output) : (s.emit o).pendTrims = s.pendTrims := rfl
@[simp] theorem State.emit_eps (s : State) (o : Output) : (s.emit o).eps = s.eps := rfl
@[simp] theorem State.emit_tap (s : State) (o : Output) : (s.emit o).tap = s.tap := rfl

@[simp] theorem State.raise_sleepFrom (s : State) (n : Nat) (x : Place) : (s.raise n x).sleepFrom = s.sleepFrom := rfl
@[simp] theorem State.raise_wraps (s : State) (n : Nat) (x : Place) : (s.raise n x).wraps = s.wraps := rfl
@[simp] theorem State.raise_memReady (s : State) (n : Nat) (x : Place) : (s.raise n x).memReady = s.memReady := rfl
@[simp] theorem State.raise_stg (s : State) (n : Nat) (x : Place) : (s.raise n x).stg = s.stg := rfl
@[simp] theorem State.raise_views (s : State) (n : Nat) (x : Place) : (s.raise n x).views = s.views := rfl
@[simp] theorem State.raise_claims (s : State) (n : Nat) (x : Place) : (s.raise n x).claims = s.claims := rfl
@[simp] theorem State.raise_copies (s : State) (n : Nat) (x : Place) : (s.raise n x).copies = s.copies := rfl
@[simp] theorem State.raise_tabs (s : State) (n : Nat) (x : Place) : (s.raise n x).tabs = s.tabs := rfl
@[simp] theorem State.raise_tabsStg (s : State) (n : Nat) (x : Place) : (s.raise n x).tabsStg = s.tabsStg := rfl
@[simp] theorem State.raise_timers (s : State) (n : Nat) (x : Place) : (s.raise n x).timers = s.timers := rfl
@[simp] theorem State.raise_arbHolder (s : State) (n : Nat) (x : Place) : (s.raise n x).arbHolder = s.arbHolder := rfl
@[simp] theorem State.raise_arbDead (s : State) (n : Nat) (x : Place) : (s.raise n x).arbDead = s.arbDead := rfl
@[simp] theorem State.raise_nextRid (s : State) (n : Nat) (x : Place) : (s.raise n x).nextRid = s.nextRid := rfl
@[simp] theorem State.raise_nextTag (s : State) (n : Nat) (x : Place) : (s.raise n x).nextTag = s.nextTag := rfl
@[simp] theorem State.raise_age (s : State) (n : Nat) (x : Place) : (s.raise n x).age = s.age := rfl
@[simp] theorem State.raise_rankTemps (s : State) (n : Nat) (x : Place) : (s.raise n x).rankTemps = s.rankTemps := rfl
@[simp] theorem State.raise_retained (s : State) (n : Nat) (x : Place) : (s.raise n x).retained = s.retained := rfl
@[simp] theorem State.raise_mig (s : State) (n : Nat) (x : Place) : (s.raise n x).mig = s.mig := rfl
@[simp] theorem State.raise_migDone (s : State) (n : Nat) (x : Place) : (s.raise n x).migDone = s.migDone := rfl
@[simp] theorem State.raise_trims (s : State) (n : Nat) (x : Place) : (s.raise n x).trims = s.trims := rfl
@[simp] theorem State.raise_caTrims (s : State) (n : Nat) (x : Place) : (s.raise n x).caTrims = s.caTrims := rfl
@[simp] theorem State.raise_eyes (s : State) (n : Nat) (x : Place) : (s.raise n x).eyes = s.eyes := rfl
@[simp] theorem State.raise_book (s : State) (n : Nat) (x : Place) : (s.raise n x).book = s.book := rfl
@[simp] theorem State.raise_trains (s : State) (n : Nat) (x : Place) : (s.raise n x).trains = s.trains := rfl
@[simp] theorem State.raise_pendTrims (s : State) (n : Nat) (x : Place) : (s.raise n x).pendTrims = s.pendTrims := rfl
@[simp] theorem State.raise_eps (s : State) (n : Nat) (x : Place) : (s.raise n x).eps = s.eps := rfl
@[simp] theorem State.raise_tap (s : State) (n : Nat) (x : Place) : (s.raise n x).tap = s.tap := rfl

@[simp] theorem State.setPort_sleepFrom (s : State) (p : Nat) (x : Port) : (s.setPort p x).sleepFrom = s.sleepFrom := rfl
@[simp] theorem State.setPort_wraps (s : State) (p : Nat) (x : Port) : (s.setPort p x).wraps = s.wraps := rfl
@[simp] theorem State.setPort_memReady (s : State) (p : Nat) (x : Port) : (s.setPort p x).memReady = s.memReady := rfl
@[simp] theorem State.setPort_stg (s : State) (p : Nat) (x : Port) : (s.setPort p x).stg = s.stg := rfl
@[simp] theorem State.setPort_views (s : State) (p : Nat) (x : Port) : (s.setPort p x).views = s.views := rfl
@[simp] theorem State.setPort_claims (s : State) (p : Nat) (x : Port) : (s.setPort p x).claims = s.claims := rfl
@[simp] theorem State.setPort_copies (s : State) (p : Nat) (x : Port) : (s.setPort p x).copies = s.copies := rfl
@[simp] theorem State.setPort_tabs (s : State) (p : Nat) (x : Port) : (s.setPort p x).tabs = s.tabs := rfl
@[simp] theorem State.setPort_tabsStg (s : State) (p : Nat) (x : Port) : (s.setPort p x).tabsStg = s.tabsStg := rfl
@[simp] theorem State.setPort_timers (s : State) (p : Nat) (x : Port) : (s.setPort p x).timers = s.timers := rfl
@[simp] theorem State.setPort_arbHolder (s : State) (p : Nat) (x : Port) : (s.setPort p x).arbHolder = s.arbHolder := rfl
@[simp] theorem State.setPort_arbDead (s : State) (p : Nat) (x : Port) : (s.setPort p x).arbDead = s.arbDead := rfl
@[simp] theorem State.setPort_nextRid (s : State) (p : Nat) (x : Port) : (s.setPort p x).nextRid = s.nextRid := rfl
@[simp] theorem State.setPort_nextTag (s : State) (p : Nat) (x : Port) : (s.setPort p x).nextTag = s.nextTag := rfl
@[simp] theorem State.setPort_age (s : State) (p : Nat) (x : Port) : (s.setPort p x).age = s.age := rfl
@[simp] theorem State.setPort_rankTemps (s : State) (p : Nat) (x : Port) : (s.setPort p x).rankTemps = s.rankTemps := rfl
@[simp] theorem State.setPort_retained (s : State) (p : Nat) (x : Port) : (s.setPort p x).retained = s.retained := rfl
@[simp] theorem State.setPort_mig (s : State) (p : Nat) (x : Port) : (s.setPort p x).mig = s.mig := rfl
@[simp] theorem State.setPort_migDone (s : State) (p : Nat) (x : Port) : (s.setPort p x).migDone = s.migDone := rfl
@[simp] theorem State.setPort_trims (s : State) (p : Nat) (x : Port) : (s.setPort p x).trims = s.trims := rfl
@[simp] theorem State.setPort_caTrims (s : State) (p : Nat) (x : Port) : (s.setPort p x).caTrims = s.caTrims := rfl
@[simp] theorem State.setPort_eyes (s : State) (p : Nat) (x : Port) : (s.setPort p x).eyes = s.eyes := rfl
@[simp] theorem State.setPort_book (s : State) (p : Nat) (x : Port) : (s.setPort p x).book = s.book := rfl
@[simp] theorem State.setPort_trains (s : State) (p : Nat) (x : Port) : (s.setPort p x).trains = s.trains := rfl
@[simp] theorem State.setPort_pendTrims (s : State) (p : Nat) (x : Port) : (s.setPort p x).pendTrims = s.pendTrims := rfl
@[simp] theorem State.setPort_eps (s : State) (p : Nat) (x : Port) : (s.setPort p x).eps = s.eps := rfl
@[simp] theorem State.setPort_tap (s : State) (p : Nat) (x : Port) : (s.setPort p x).tap = s.tap := rfl

@[simp] theorem State.setSub_sleepFrom (s : State) (i : Nat) (x : Sub) : (s.setSub i x).sleepFrom = s.sleepFrom := rfl
@[simp] theorem State.setSub_wraps (s : State) (i : Nat) (x : Sub) : (s.setSub i x).wraps = s.wraps := rfl
@[simp] theorem State.setSub_memReady (s : State) (i : Nat) (x : Sub) : (s.setSub i x).memReady = s.memReady := rfl
@[simp] theorem State.setSub_stg (s : State) (i : Nat) (x : Sub) : (s.setSub i x).stg = s.stg := rfl
@[simp] theorem State.setSub_views (s : State) (i : Nat) (x : Sub) : (s.setSub i x).views = s.views := rfl
@[simp] theorem State.setSub_claims (s : State) (i : Nat) (x : Sub) : (s.setSub i x).claims = s.claims := rfl
@[simp] theorem State.setSub_copies (s : State) (i : Nat) (x : Sub) : (s.setSub i x).copies = s.copies := rfl
@[simp] theorem State.setSub_tabs (s : State) (i : Nat) (x : Sub) : (s.setSub i x).tabs = s.tabs := rfl
@[simp] theorem State.setSub_tabsStg (s : State) (i : Nat) (x : Sub) : (s.setSub i x).tabsStg = s.tabsStg := rfl
@[simp] theorem State.setSub_timers (s : State) (i : Nat) (x : Sub) : (s.setSub i x).timers = s.timers := rfl
@[simp] theorem State.setSub_arbHolder (s : State) (i : Nat) (x : Sub) : (s.setSub i x).arbHolder = s.arbHolder := rfl
@[simp] theorem State.setSub_arbDead (s : State) (i : Nat) (x : Sub) : (s.setSub i x).arbDead = s.arbDead := rfl
@[simp] theorem State.setSub_nextRid (s : State) (i : Nat) (x : Sub) : (s.setSub i x).nextRid = s.nextRid := rfl
@[simp] theorem State.setSub_nextTag (s : State) (i : Nat) (x : Sub) : (s.setSub i x).nextTag = s.nextTag := rfl
@[simp] theorem State.setSub_age (s : State) (i : Nat) (x : Sub) : (s.setSub i x).age = s.age := rfl
@[simp] theorem State.setSub_rankTemps (s : State) (i : Nat) (x : Sub) : (s.setSub i x).rankTemps = s.rankTemps := rfl
@[simp] theorem State.setSub_retained (s : State) (i : Nat) (x : Sub) : (s.setSub i x).retained = s.retained := rfl
@[simp] theorem State.setSub_mig (s : State) (i : Nat) (x : Sub) : (s.setSub i x).mig = s.mig := rfl
@[simp] theorem State.setSub_migDone (s : State) (i : Nat) (x : Sub) : (s.setSub i x).migDone = s.migDone := rfl
@[simp] theorem State.setSub_trims (s : State) (i : Nat) (x : Sub) : (s.setSub i x).trims = s.trims := rfl
@[simp] theorem State.setSub_caTrims (s : State) (i : Nat) (x : Sub) : (s.setSub i x).caTrims = s.caTrims := rfl
@[simp] theorem State.setSub_eyes (s : State) (i : Nat) (x : Sub) : (s.setSub i x).eyes = s.eyes := rfl
@[simp] theorem State.setSub_book (s : State) (i : Nat) (x : Sub) : (s.setSub i x).book = s.book := rfl
@[simp] theorem State.setSub_trains (s : State) (i : Nat) (x : Sub) : (s.setSub i x).trains = s.trains := rfl
@[simp] theorem State.setSub_pendTrims (s : State) (i : Nat) (x : Sub) : (s.setSub i x).pendTrims = s.pendTrims := rfl
@[simp] theorem State.setSub_eps (s : State) (i : Nat) (x : Sub) : (s.setSub i x).eps = s.eps := rfl
@[simp] theorem State.setSub_tap (s : State) (i : Nat) (x : Sub) : (s.setSub i x).tap = s.tap := rfl

@[simp] theorem State.setEng_sleepFrom (s : State) (i : Nat) (x : Eng) : (s.setEng i x).sleepFrom = s.sleepFrom := rfl
@[simp] theorem State.setEng_wraps (s : State) (i : Nat) (x : Eng) : (s.setEng i x).wraps = s.wraps := rfl
@[simp] theorem State.setEng_memReady (s : State) (i : Nat) (x : Eng) : (s.setEng i x).memReady = s.memReady := rfl
@[simp] theorem State.setEng_stg (s : State) (i : Nat) (x : Eng) : (s.setEng i x).stg = s.stg := rfl
@[simp] theorem State.setEng_views (s : State) (i : Nat) (x : Eng) : (s.setEng i x).views = s.views := rfl
@[simp] theorem State.setEng_claims (s : State) (i : Nat) (x : Eng) : (s.setEng i x).claims = s.claims := rfl
@[simp] theorem State.setEng_copies (s : State) (i : Nat) (x : Eng) : (s.setEng i x).copies = s.copies := rfl
@[simp] theorem State.setEng_tabs (s : State) (i : Nat) (x : Eng) : (s.setEng i x).tabs = s.tabs := rfl
@[simp] theorem State.setEng_tabsStg (s : State) (i : Nat) (x : Eng) : (s.setEng i x).tabsStg = s.tabsStg := rfl
@[simp] theorem State.setEng_timers (s : State) (i : Nat) (x : Eng) : (s.setEng i x).timers = s.timers := rfl
@[simp] theorem State.setEng_arbHolder (s : State) (i : Nat) (x : Eng) : (s.setEng i x).arbHolder = s.arbHolder := rfl
@[simp] theorem State.setEng_arbDead (s : State) (i : Nat) (x : Eng) : (s.setEng i x).arbDead = s.arbDead := rfl
@[simp] theorem State.setEng_nextRid (s : State) (i : Nat) (x : Eng) : (s.setEng i x).nextRid = s.nextRid := rfl
@[simp] theorem State.setEng_nextTag (s : State) (i : Nat) (x : Eng) : (s.setEng i x).nextTag = s.nextTag := rfl
@[simp] theorem State.setEng_age (s : State) (i : Nat) (x : Eng) : (s.setEng i x).age = s.age := rfl
@[simp] theorem State.setEng_rankTemps (s : State) (i : Nat) (x : Eng) : (s.setEng i x).rankTemps = s.rankTemps := rfl
@[simp] theorem State.setEng_retained (s : State) (i : Nat) (x : Eng) : (s.setEng i x).retained = s.retained := rfl
@[simp] theorem State.setEng_mig (s : State) (i : Nat) (x : Eng) : (s.setEng i x).mig = s.mig := rfl
@[simp] theorem State.setEng_migDone (s : State) (i : Nat) (x : Eng) : (s.setEng i x).migDone = s.migDone := rfl
@[simp] theorem State.setEng_trims (s : State) (i : Nat) (x : Eng) : (s.setEng i x).trims = s.trims := rfl
@[simp] theorem State.setEng_caTrims (s : State) (i : Nat) (x : Eng) : (s.setEng i x).caTrims = s.caTrims := rfl
@[simp] theorem State.setEng_eyes (s : State) (i : Nat) (x : Eng) : (s.setEng i x).eyes = s.eyes := rfl
@[simp] theorem State.setEng_book (s : State) (i : Nat) (x : Eng) : (s.setEng i x).book = s.book := rfl
@[simp] theorem State.setEng_trains (s : State) (i : Nat) (x : Eng) : (s.setEng i x).trains = s.trains := rfl
@[simp] theorem State.setEng_pendTrims (s : State) (i : Nat) (x : Eng) : (s.setEng i x).pendTrims = s.pendTrims := rfl
@[simp] theorem State.setEng_eps (s : State) (i : Nat) (x : Eng) : (s.setEng i x).eps = s.eps := rfl
@[simp] theorem State.setEng_tap (s : State) (i : Nat) (x : Eng) : (s.setEng i x).tap = s.tap := rfl

@[simp] theorem State.setGroup_sleepFrom (s : State) (i : Nat) (x : Group) : (s.setGroup i x).sleepFrom = s.sleepFrom := rfl
@[simp] theorem State.setGroup_wraps (s : State) (i : Nat) (x : Group) : (s.setGroup i x).wraps = s.wraps := rfl
@[simp] theorem State.setGroup_memReady (s : State) (i : Nat) (x : Group) : (s.setGroup i x).memReady = s.memReady := rfl
@[simp] theorem State.setGroup_stg (s : State) (i : Nat) (x : Group) : (s.setGroup i x).stg = s.stg := rfl
@[simp] theorem State.setGroup_views (s : State) (i : Nat) (x : Group) : (s.setGroup i x).views = s.views := rfl
@[simp] theorem State.setGroup_claims (s : State) (i : Nat) (x : Group) : (s.setGroup i x).claims = s.claims := rfl
@[simp] theorem State.setGroup_copies (s : State) (i : Nat) (x : Group) : (s.setGroup i x).copies = s.copies := rfl
@[simp] theorem State.setGroup_tabs (s : State) (i : Nat) (x : Group) : (s.setGroup i x).tabs = s.tabs := rfl
@[simp] theorem State.setGroup_tabsStg (s : State) (i : Nat) (x : Group) : (s.setGroup i x).tabsStg = s.tabsStg := rfl
@[simp] theorem State.setGroup_timers (s : State) (i : Nat) (x : Group) : (s.setGroup i x).timers = s.timers := rfl
@[simp] theorem State.setGroup_arbHolder (s : State) (i : Nat) (x : Group) : (s.setGroup i x).arbHolder = s.arbHolder := rfl
@[simp] theorem State.setGroup_arbDead (s : State) (i : Nat) (x : Group) : (s.setGroup i x).arbDead = s.arbDead := rfl
@[simp] theorem State.setGroup_nextRid (s : State) (i : Nat) (x : Group) : (s.setGroup i x).nextRid = s.nextRid := rfl
@[simp] theorem State.setGroup_nextTag (s : State) (i : Nat) (x : Group) : (s.setGroup i x).nextTag = s.nextTag := rfl
@[simp] theorem State.setGroup_age (s : State) (i : Nat) (x : Group) : (s.setGroup i x).age = s.age := rfl
@[simp] theorem State.setGroup_rankTemps (s : State) (i : Nat) (x : Group) : (s.setGroup i x).rankTemps = s.rankTemps := rfl
@[simp] theorem State.setGroup_retained (s : State) (i : Nat) (x : Group) : (s.setGroup i x).retained = s.retained := rfl
@[simp] theorem State.setGroup_mig (s : State) (i : Nat) (x : Group) : (s.setGroup i x).mig = s.mig := rfl
@[simp] theorem State.setGroup_migDone (s : State) (i : Nat) (x : Group) : (s.setGroup i x).migDone = s.migDone := rfl
@[simp] theorem State.setGroup_trims (s : State) (i : Nat) (x : Group) : (s.setGroup i x).trims = s.trims := rfl
@[simp] theorem State.setGroup_caTrims (s : State) (i : Nat) (x : Group) : (s.setGroup i x).caTrims = s.caTrims := rfl
@[simp] theorem State.setGroup_eyes (s : State) (i : Nat) (x : Group) : (s.setGroup i x).eyes = s.eyes := rfl
@[simp] theorem State.setGroup_book (s : State) (i : Nat) (x : Group) : (s.setGroup i x).book = s.book := rfl
@[simp] theorem State.setGroup_trains (s : State) (i : Nat) (x : Group) : (s.setGroup i x).trains = s.trains := rfl
@[simp] theorem State.setGroup_pendTrims (s : State) (i : Nat) (x : Group) : (s.setGroup i x).pendTrims = s.pendTrims := rfl
@[simp] theorem State.setGroup_eps (s : State) (i : Nat) (x : Group) : (s.setGroup i x).eps = s.eps := rfl
@[simp] theorem State.setGroup_tap (s : State) (i : Nat) (x : Group) : (s.setGroup i x).tap = s.tap := rfl

@[simp] theorem State.setPhy_sleepFrom (s : State) (i : Nat) (x : Phy) : (s.setPhy i x).sleepFrom = s.sleepFrom := rfl
@[simp] theorem State.setPhy_wraps (s : State) (i : Nat) (x : Phy) : (s.setPhy i x).wraps = s.wraps := rfl
@[simp] theorem State.setPhy_memReady (s : State) (i : Nat) (x : Phy) : (s.setPhy i x).memReady = s.memReady := rfl
@[simp] theorem State.setPhy_stg (s : State) (i : Nat) (x : Phy) : (s.setPhy i x).stg = s.stg := rfl
@[simp] theorem State.setPhy_views (s : State) (i : Nat) (x : Phy) : (s.setPhy i x).views = s.views := rfl
@[simp] theorem State.setPhy_claims (s : State) (i : Nat) (x : Phy) : (s.setPhy i x).claims = s.claims := rfl
@[simp] theorem State.setPhy_copies (s : State) (i : Nat) (x : Phy) : (s.setPhy i x).copies = s.copies := rfl
@[simp] theorem State.setPhy_tabs (s : State) (i : Nat) (x : Phy) : (s.setPhy i x).tabs = s.tabs := rfl
@[simp] theorem State.setPhy_tabsStg (s : State) (i : Nat) (x : Phy) : (s.setPhy i x).tabsStg = s.tabsStg := rfl
@[simp] theorem State.setPhy_timers (s : State) (i : Nat) (x : Phy) : (s.setPhy i x).timers = s.timers := rfl
@[simp] theorem State.setPhy_arbHolder (s : State) (i : Nat) (x : Phy) : (s.setPhy i x).arbHolder = s.arbHolder := rfl
@[simp] theorem State.setPhy_arbDead (s : State) (i : Nat) (x : Phy) : (s.setPhy i x).arbDead = s.arbDead := rfl
@[simp] theorem State.setPhy_nextRid (s : State) (i : Nat) (x : Phy) : (s.setPhy i x).nextRid = s.nextRid := rfl
@[simp] theorem State.setPhy_nextTag (s : State) (i : Nat) (x : Phy) : (s.setPhy i x).nextTag = s.nextTag := rfl
@[simp] theorem State.setPhy_age (s : State) (i : Nat) (x : Phy) : (s.setPhy i x).age = s.age := rfl
@[simp] theorem State.setPhy_rankTemps (s : State) (i : Nat) (x : Phy) : (s.setPhy i x).rankTemps = s.rankTemps := rfl
@[simp] theorem State.setPhy_retained (s : State) (i : Nat) (x : Phy) : (s.setPhy i x).retained = s.retained := rfl
@[simp] theorem State.setPhy_mig (s : State) (i : Nat) (x : Phy) : (s.setPhy i x).mig = s.mig := rfl
@[simp] theorem State.setPhy_migDone (s : State) (i : Nat) (x : Phy) : (s.setPhy i x).migDone = s.migDone := rfl
@[simp] theorem State.setPhy_trims (s : State) (i : Nat) (x : Phy) : (s.setPhy i x).trims = s.trims := rfl
@[simp] theorem State.setPhy_caTrims (s : State) (i : Nat) (x : Phy) : (s.setPhy i x).caTrims = s.caTrims := rfl
@[simp] theorem State.setPhy_eyes (s : State) (i : Nat) (x : Phy) : (s.setPhy i x).eyes = s.eyes := rfl
@[simp] theorem State.setPhy_book (s : State) (i : Nat) (x : Phy) : (s.setPhy i x).book = s.book := rfl
@[simp] theorem State.setPhy_trains (s : State) (i : Nat) (x : Phy) : (s.setPhy i x).trains = s.trains := rfl
@[simp] theorem State.setPhy_pendTrims (s : State) (i : Nat) (x : Phy) : (s.setPhy i x).pendTrims = s.pendTrims := rfl
@[simp] theorem State.setPhy_eps (s : State) (i : Nat) (x : Phy) : (s.setPhy i x).eps = s.eps := rfl
@[simp] theorem State.setPhy_tap (s : State) (i : Nat) (x : Phy) : (s.setPhy i x).tap = s.tap := rfl

@[simp] theorem State.mapQE_sleepFrom (s : State) (i : Nat) (g : QE → QE) : (s.mapQE i g).sleepFrom = s.sleepFrom := rfl
@[simp] theorem State.mapQE_wraps (s : State) (i : Nat) (g : QE → QE) : (s.mapQE i g).wraps = s.wraps := rfl
@[simp] theorem State.mapQE_memReady (s : State) (i : Nat) (g : QE → QE) : (s.mapQE i g).memReady = s.memReady := rfl
@[simp] theorem State.mapQE_stg (s : State) (i : Nat) (g : QE → QE) : (s.mapQE i g).stg = s.stg := rfl
@[simp] theorem State.mapQE_views (s : State) (i : Nat) (g : QE → QE) : (s.mapQE i g).views = s.views := rfl
@[simp] theorem State.mapQE_claims (s : State) (i : Nat) (g : QE → QE) : (s.mapQE i g).claims = s.claims := rfl
@[simp] theorem State.mapQE_copies (s : State) (i : Nat) (g : QE → QE) : (s.mapQE i g).copies = s.copies := rfl
@[simp] theorem State.mapQE_tabs (s : State) (i : Nat) (g : QE → QE) : (s.mapQE i g).tabs = s.tabs := rfl
@[simp] theorem State.mapQE_tabsStg (s : State) (i : Nat) (g : QE → QE) : (s.mapQE i g).tabsStg = s.tabsStg := rfl
@[simp] theorem State.mapQE_timers (s : State) (i : Nat) (g : QE → QE) : (s.mapQE i g).timers = s.timers := rfl
@[simp] theorem State.mapQE_arbHolder (s : State) (i : Nat) (g : QE → QE) : (s.mapQE i g).arbHolder = s.arbHolder := rfl
@[simp] theorem State.mapQE_arbDead (s : State) (i : Nat) (g : QE → QE) : (s.mapQE i g).arbDead = s.arbDead := rfl
@[simp] theorem State.mapQE_nextRid (s : State) (i : Nat) (g : QE → QE) : (s.mapQE i g).nextRid = s.nextRid := rfl
@[simp] theorem State.mapQE_nextTag (s : State) (i : Nat) (g : QE → QE) : (s.mapQE i g).nextTag = s.nextTag := rfl
@[simp] theorem State.mapQE_age (s : State) (i : Nat) (g : QE → QE) : (s.mapQE i g).age = s.age := rfl
@[simp] theorem State.mapQE_rankTemps (s : State) (i : Nat) (g : QE → QE) : (s.mapQE i g).rankTemps = s.rankTemps := rfl
@[simp] theorem State.mapQE_retained (s : State) (i : Nat) (g : QE → QE) : (s.mapQE i g).retained = s.retained := rfl
@[simp] theorem State.mapQE_mig (s : State) (i : Nat) (g : QE → QE) : (s.mapQE i g).mig = s.mig := rfl
@[simp] theorem State.mapQE_migDone (s : State) (i : Nat) (g : QE → QE) : (s.mapQE i g).migDone = s.migDone := rfl
@[simp] theorem State.mapQE_trims (s : State) (i : Nat) (g : QE → QE) : (s.mapQE i g).trims = s.trims := rfl
@[simp] theorem State.mapQE_caTrims (s : State) (i : Nat) (g : QE → QE) : (s.mapQE i g).caTrims = s.caTrims := rfl
@[simp] theorem State.mapQE_eyes (s : State) (i : Nat) (g : QE → QE) : (s.mapQE i g).eyes = s.eyes := rfl
@[simp] theorem State.mapQE_book (s : State) (i : Nat) (g : QE → QE) : (s.mapQE i g).book = s.book := rfl
@[simp] theorem State.mapQE_trains (s : State) (i : Nat) (g : QE → QE) : (s.mapQE i g).trains = s.trains := rfl
@[simp] theorem State.mapQE_pendTrims (s : State) (i : Nat) (g : QE → QE) : (s.mapQE i g).pendTrims = s.pendTrims := rfl
@[simp] theorem State.mapQE_eps (s : State) (i : Nat) (g : QE → QE) : (s.mapQE i g).eps = s.eps := rfl
@[simp] theorem State.mapQE_tap (s : State) (i : Nat) (g : QE → QE) : (s.mapQE i g).tap = s.tap := rfl

@[simp] theorem State.mapReq_sleepFrom (s : State) (i : Nat) (g : Req → Req) : (s.mapReq i g).sleepFrom = s.sleepFrom := rfl
@[simp] theorem State.mapReq_wraps (s : State) (i : Nat) (g : Req → Req) : (s.mapReq i g).wraps = s.wraps := rfl
@[simp] theorem State.mapReq_memReady (s : State) (i : Nat) (g : Req → Req) : (s.mapReq i g).memReady = s.memReady := rfl
@[simp] theorem State.mapReq_stg (s : State) (i : Nat) (g : Req → Req) : (s.mapReq i g).stg = s.stg := rfl
@[simp] theorem State.mapReq_views (s : State) (i : Nat) (g : Req → Req) : (s.mapReq i g).views = s.views := rfl
@[simp] theorem State.mapReq_claims (s : State) (i : Nat) (g : Req → Req) : (s.mapReq i g).claims = s.claims := rfl
@[simp] theorem State.mapReq_copies (s : State) (i : Nat) (g : Req → Req) : (s.mapReq i g).copies = s.copies := rfl
@[simp] theorem State.mapReq_tabs (s : State) (i : Nat) (g : Req → Req) : (s.mapReq i g).tabs = s.tabs := rfl
@[simp] theorem State.mapReq_tabsStg (s : State) (i : Nat) (g : Req → Req) : (s.mapReq i g).tabsStg = s.tabsStg := rfl
@[simp] theorem State.mapReq_timers (s : State) (i : Nat) (g : Req → Req) : (s.mapReq i g).timers = s.timers := rfl
@[simp] theorem State.mapReq_arbHolder (s : State) (i : Nat) (g : Req → Req) : (s.mapReq i g).arbHolder = s.arbHolder := rfl
@[simp] theorem State.mapReq_arbDead (s : State) (i : Nat) (g : Req → Req) : (s.mapReq i g).arbDead = s.arbDead := rfl
@[simp] theorem State.mapReq_nextRid (s : State) (i : Nat) (g : Req → Req) : (s.mapReq i g).nextRid = s.nextRid := rfl
@[simp] theorem State.mapReq_nextTag (s : State) (i : Nat) (g : Req → Req) : (s.mapReq i g).nextTag = s.nextTag := rfl
@[simp] theorem State.mapReq_age (s : State) (i : Nat) (g : Req → Req) : (s.mapReq i g).age = s.age := rfl
@[simp] theorem State.mapReq_rankTemps (s : State) (i : Nat) (g : Req → Req) : (s.mapReq i g).rankTemps = s.rankTemps := rfl
@[simp] theorem State.mapReq_retained (s : State) (i : Nat) (g : Req → Req) : (s.mapReq i g).retained = s.retained := rfl
@[simp] theorem State.mapReq_mig (s : State) (i : Nat) (g : Req → Req) : (s.mapReq i g).mig = s.mig := rfl
@[simp] theorem State.mapReq_migDone (s : State) (i : Nat) (g : Req → Req) : (s.mapReq i g).migDone = s.migDone := rfl
@[simp] theorem State.mapReq_trims (s : State) (i : Nat) (g : Req → Req) : (s.mapReq i g).trims = s.trims := rfl
@[simp] theorem State.mapReq_caTrims (s : State) (i : Nat) (g : Req → Req) : (s.mapReq i g).caTrims = s.caTrims := rfl
@[simp] theorem State.mapReq_eyes (s : State) (i : Nat) (g : Req → Req) : (s.mapReq i g).eyes = s.eyes := rfl
@[simp] theorem State.mapReq_book (s : State) (i : Nat) (g : Req → Req) : (s.mapReq i g).book = s.book := rfl
@[simp] theorem State.mapReq_trains (s : State) (i : Nat) (g : Req → Req) : (s.mapReq i g).trains = s.trains := rfl
@[simp] theorem State.mapReq_pendTrims (s : State) (i : Nat) (g : Req → Req) : (s.mapReq i g).pendTrims = s.pendTrims := rfl
@[simp] theorem State.mapReq_eps (s : State) (i : Nat) (g : Req → Req) : (s.mapReq i g).eps = s.eps := rfl
@[simp] theorem State.mapReq_tap (s : State) (i : Nat) (g : Req → Req) : (s.mapReq i g).tap = s.tap := rfl

@[simp] theorem State.dropQE_sleepFrom (s : State) (i : Nat) : (s.dropQE i).sleepFrom = s.sleepFrom := rfl
@[simp] theorem State.dropQE_wraps (s : State) (i : Nat) : (s.dropQE i).wraps = s.wraps := rfl
@[simp] theorem State.dropQE_memReady (s : State) (i : Nat) : (s.dropQE i).memReady = s.memReady := rfl
@[simp] theorem State.dropQE_stg (s : State) (i : Nat) : (s.dropQE i).stg = s.stg := rfl
@[simp] theorem State.dropQE_views (s : State) (i : Nat) : (s.dropQE i).views = s.views := rfl
@[simp] theorem State.dropQE_claims (s : State) (i : Nat) : (s.dropQE i).claims = s.claims := rfl
@[simp] theorem State.dropQE_copies (s : State) (i : Nat) : (s.dropQE i).copies = s.copies := rfl
@[simp] theorem State.dropQE_tabs (s : State) (i : Nat) : (s.dropQE i).tabs = s.tabs := rfl
@[simp] theorem State.dropQE_tabsStg (s : State) (i : Nat) : (s.dropQE i).tabsStg = s.tabsStg := rfl
@[simp] theorem State.dropQE_timers (s : State) (i : Nat) : (s.dropQE i).timers = s.timers := rfl
@[simp] theorem State.dropQE_arbHolder (s : State) (i : Nat) : (s.dropQE i).arbHolder = s.arbHolder := rfl
@[simp] theorem State.dropQE_arbDead (s : State) (i : Nat) : (s.dropQE i).arbDead = s.arbDead := rfl
@[simp] theorem State.dropQE_nextRid (s : State) (i : Nat) : (s.dropQE i).nextRid = s.nextRid := rfl
@[simp] theorem State.dropQE_nextTag (s : State) (i : Nat) : (s.dropQE i).nextTag = s.nextTag := rfl
@[simp] theorem State.dropQE_age (s : State) (i : Nat) : (s.dropQE i).age = s.age := rfl
@[simp] theorem State.dropQE_rankTemps (s : State) (i : Nat) : (s.dropQE i).rankTemps = s.rankTemps := rfl
@[simp] theorem State.dropQE_retained (s : State) (i : Nat) : (s.dropQE i).retained = s.retained := rfl
@[simp] theorem State.dropQE_mig (s : State) (i : Nat) : (s.dropQE i).mig = s.mig := rfl
@[simp] theorem State.dropQE_migDone (s : State) (i : Nat) : (s.dropQE i).migDone = s.migDone := rfl
@[simp] theorem State.dropQE_trims (s : State) (i : Nat) : (s.dropQE i).trims = s.trims := rfl
@[simp] theorem State.dropQE_caTrims (s : State) (i : Nat) : (s.dropQE i).caTrims = s.caTrims := rfl
@[simp] theorem State.dropQE_eyes (s : State) (i : Nat) : (s.dropQE i).eyes = s.eyes := rfl
@[simp] theorem State.dropQE_book (s : State) (i : Nat) : (s.dropQE i).book = s.book := rfl
@[simp] theorem State.dropQE_trains (s : State) (i : Nat) : (s.dropQE i).trains = s.trains := rfl
@[simp] theorem State.dropQE_pendTrims (s : State) (i : Nat) : (s.dropQE i).pendTrims = s.pendTrims := rfl
@[simp] theorem State.dropQE_eps (s : State) (i : Nat) : (s.dropQE i).eps = s.eps := rfl
@[simp] theorem State.dropQE_tap (s : State) (i : Nat) : (s.dropQE i).tap = s.tap := rfl

@[simp] theorem State.addQE_sleepFrom (s : State) (q : QE) : (s.addQE q).sleepFrom = s.sleepFrom := rfl
@[simp] theorem State.addQE_wraps (s : State) (q : QE) : (s.addQE q).wraps = s.wraps := rfl
@[simp] theorem State.addQE_memReady (s : State) (q : QE) : (s.addQE q).memReady = s.memReady := rfl
@[simp] theorem State.addQE_stg (s : State) (q : QE) : (s.addQE q).stg = s.stg := rfl
@[simp] theorem State.addQE_views (s : State) (q : QE) : (s.addQE q).views = s.views := rfl
@[simp] theorem State.addQE_claims (s : State) (q : QE) : (s.addQE q).claims = s.claims := rfl
@[simp] theorem State.addQE_copies (s : State) (q : QE) : (s.addQE q).copies = s.copies := rfl
@[simp] theorem State.addQE_tabs (s : State) (q : QE) : (s.addQE q).tabs = s.tabs := rfl
@[simp] theorem State.addQE_tabsStg (s : State) (q : QE) : (s.addQE q).tabsStg = s.tabsStg := rfl
@[simp] theorem State.addQE_timers (s : State) (q : QE) : (s.addQE q).timers = s.timers := rfl
@[simp] theorem State.addQE_arbHolder (s : State) (q : QE) : (s.addQE q).arbHolder = s.arbHolder := rfl
@[simp] theorem State.addQE_arbDead (s : State) (q : QE) : (s.addQE q).arbDead = s.arbDead := rfl
@[simp] theorem State.addQE_nextRid (s : State) (q : QE) : (s.addQE q).nextRid = s.nextRid := rfl
@[simp] theorem State.addQE_rankTemps (s : State) (q : QE) : (s.addQE q).rankTemps = s.rankTemps := rfl
@[simp] theorem State.addQE_retained (s : State) (q : QE) : (s.addQE q).retained = s.retained := rfl
@[simp] theorem State.addQE_mig (s : State) (q : QE) : (s.addQE q).mig = s.mig := rfl
@[simp] theorem State.addQE_migDone (s : State) (q : QE) : (s.addQE q).migDone = s.migDone := rfl
@[simp] theorem State.addQE_trims (s : State) (q : QE) : (s.addQE q).trims = s.trims := rfl
@[simp] theorem State.addQE_caTrims (s : State) (q : QE) : (s.addQE q).caTrims = s.caTrims := rfl
@[simp] theorem State.addQE_eyes (s : State) (q : QE) : (s.addQE q).eyes = s.eyes := rfl
@[simp] theorem State.addQE_book (s : State) (q : QE) : (s.addQE q).book = s.book := rfl
@[simp] theorem State.addQE_trains (s : State) (q : QE) : (s.addQE q).trains = s.trains := rfl
@[simp] theorem State.addQE_pendTrims (s : State) (q : QE) : (s.addQE q).pendTrims = s.pendTrims := rfl
@[simp] theorem State.addQE_eps (s : State) (q : QE) : (s.addQE q).eps = s.eps := rfl
@[simp] theorem State.addQE_tap (s : State) (q : QE) : (s.addQE q).tap = s.tap := rfl

@[simp] theorem State.mapLines_mode (s : State) (c : WLine → Bool) (f : WLine → WLine) : (s.mapLines c f).mode = s.mode := rfl
@[simp] theorem State.mapLines_sleepFrom (s : State) (c : WLine → Bool) (f : WLine → WLine) : (s.mapLines c f).sleepFrom = s.sleepFrom := rfl
@[simp] theorem State.mapLines_resetN (s : State) (c : WLine → Bool) (f : WLine → WLine) : (s.mapLines c f).resetN = s.resetN := rfl
@[simp] theorem State.mapLines_frozen (s : State) (c : WLine → Bool) (f : WLine → WLine) : (s.mapLines c f).frozen = s.frozen := rfl
@[simp] theorem State.mapLines_build (s : State) (c : WLine → Bool) (f : WLine → WLine) : (s.mapLines c f).build = s.build := rfl
@[simp] theorem State.mapLines_tempo (s : State) (c : WLine → Bool) (f : WLine → WLine) : (s.mapLines c f).tempo = s.tempo := rfl
@[simp] theorem State.mapLines_wraps (s : State) (c : WLine → Bool) (f : WLine → WLine) : (s.mapLines c f).wraps = s.wraps := rfl
@[simp] theorem State.mapLines_memReady (s : State) (c : WLine → Bool) (f : WLine → WLine) : (s.mapLines c f).memReady = s.memReady := rfl
@[simp] theorem State.mapLines_regs (s : State) (c : WLine → Bool) (f : WLine → WLine) : (s.mapLines c f).regs = s.regs := rfl
@[simp] theorem State.mapLines_stg (s : State) (c : WLine → Bool) (f : WLine → WLine) : (s.mapLines c f).stg = s.stg := rfl
@[simp] theorem State.mapLines_views (s : State) (c : WLine → Bool) (f : WLine → WLine) : (s.mapLines c f).views = s.views := rfl
@[simp] theorem State.mapLines_claims (s : State) (c : WLine → Bool) (f : WLine → WLine) : (s.mapLines c f).claims = s.claims := rfl
@[simp] theorem State.mapLines_copies (s : State) (c : WLine → Bool) (f : WLine → WLine) : (s.mapLines c f).copies = s.copies := rfl
@[simp] theorem State.mapLines_tabs (s : State) (c : WLine → Bool) (f : WLine → WLine) : (s.mapLines c f).tabs = s.tabs := rfl
@[simp] theorem State.mapLines_tabsStg (s : State) (c : WLine → Bool) (f : WLine → WLine) : (s.mapLines c f).tabsStg = s.tabsStg := rfl
@[simp] theorem State.mapLines_timers (s : State) (c : WLine → Bool) (f : WLine → WLine) : (s.mapLines c f).timers = s.timers := rfl
@[simp] theorem State.mapLines_ports (s : State) (c : WLine → Bool) (f : WLine → WLine) : (s.mapLines c f).ports = s.ports := rfl
@[simp] theorem State.mapLines_arbHolder (s : State) (c : WLine → Bool) (f : WLine → WLine) : (s.mapLines c f).arbHolder = s.arbHolder := rfl
@[simp] theorem State.mapLines_arbDead (s : State) (c : WLine → Bool) (f : WLine → WLine) : (s.mapLines c f).arbDead = s.arbDead := rfl
@[simp] theorem State.mapLines_reqs (s : State) (c : WLine → Bool) (f : WLine → WLine) : (s.mapLines c f).reqs = s.reqs := rfl
@[simp] theorem State.mapLines_nextRid (s : State) (c : WLine → Bool) (f : WLine → WLine) : (s.mapLines c f).nextRid = s.nextRid := rfl
@[simp] theorem State.mapLines_locks (s : State) (c : WLine → Bool) (f : WLine → WLine) : (s.mapLines c f).locks = s.locks := rfl
@[simp] theorem State.mapLines_qes (s : State) (c : WLine → Bool) (f : WLine → WLine) : (s.mapLines c f).qes = s.qes := rfl
@[simp] theorem State.mapLines_nextTag (s : State) (c : WLine → Bool) (f : WLine → WLine) : (s.mapLines c f).nextTag = s.nextTag := rfl
@[simp] theorem State.mapLines_age (s : State) (c : WLine → Bool) (f : WLine → WLine) : (s.mapLines c f).age = s.age := rfl
@[simp] theorem State.mapLines_subs (s : State) (c : WLine → Bool) (f : WLine → WLine) : (s.mapLines c f).subs = s.subs := rfl
@[simp] theorem State.mapLines_engs (s : State) (c : WLine → Bool) (f : WLine → WLine) : (s.mapLines c f).engs = s.engs := rfl
@[simp] theorem State.mapLines_groups (s : State) (c : WLine → Bool) (f : WLine → WLine) : (s.mapLines c f).groups = s.groups := rfl
@[simp] theorem State.mapLines_rankTemps (s : State) (c : WLine → Bool) (f : WLine → WLine) : (s.mapLines c f).rankTemps = s.rankTemps := rfl
@[simp] theorem State.mapLines_fault (s : State) (c : WLine → Bool) (f : WLine → WLine) : (s.mapLines c f).fault = s.fault := rfl
@[simp] theorem State.mapLines_ring (s : State) (c : WLine → Bool) (f : WLine → WLine) : (s.mapLines c f).ring = s.ring := rfl
@[simp] theorem State.mapLines_retained (s : State) (c : WLine → Bool) (f : WLine → WLine) : (s.mapLines c f).retained = s.retained := rfl
@[simp] theorem State.mapLines_repair (s : State) (c : WLine → Bool) (f : WLine → WLine) : (s.mapLines c f).repair = s.repair := rfl
@[simp] theorem State.mapLines_crypt (s : State) (c : WLine → Bool) (f : WLine → WLine) : (s.mapLines c f).crypt = s.crypt := rfl
@[simp] theorem State.mapLines_mig (s : State) (c : WLine → Bool) (f : WLine → WLine) : (s.mapLines c f).mig = s.mig := rfl
@[simp] theorem State.mapLines_migDone (s : State) (c : WLine → Bool) (f : WLine → WLine) : (s.mapLines c f).migDone = s.migDone := rfl
@[simp] theorem State.mapLines_phys (s : State) (c : WLine → Bool) (f : WLine → WLine) : (s.mapLines c f).phys = s.phys := rfl
@[simp] theorem State.mapLines_trims (s : State) (c : WLine → Bool) (f : WLine → WLine) : (s.mapLines c f).trims = s.trims := rfl
@[simp] theorem State.mapLines_caTrims (s : State) (c : WLine → Bool) (f : WLine → WLine) : (s.mapLines c f).caTrims = s.caTrims := rfl
@[simp] theorem State.mapLines_eyes (s : State) (c : WLine → Bool) (f : WLine → WLine) : (s.mapLines c f).eyes = s.eyes := rfl
@[simp] theorem State.mapLines_book (s : State) (c : WLine → Bool) (f : WLine → WLine) : (s.mapLines c f).book = s.book := rfl
@[simp] theorem State.mapLines_trains (s : State) (c : WLine → Bool) (f : WLine → WLine) : (s.mapLines c f).trains = s.trains := rfl
@[simp] theorem State.mapLines_pendTrims (s : State) (c : WLine → Bool) (f : WLine → WLine) : (s.mapLines c f).pendTrims = s.pendTrims := rfl
@[simp] theorem State.mapLines_eps (s : State) (c : WLine → Bool) (f : WLine → WLine) : (s.mapLines c f).eps = s.eps := rfl
@[simp] theorem State.mapLines_power (s : State) (c : WLine → Bool) (f : WLine → WLine) : (s.mapLines c f).power = s.power := rfl
@[simp] theorem State.mapLines_startup (s : State) (c : WLine → Bool) (f : WLine → WLine) : (s.mapLines c f).startup = s.startup := rfl
@[simp] theorem State.mapLines_bist (s : State) (c : WLine → Bool) (f : WLine → WLine) : (s.mapLines c f).bist = s.bist := rfl
@[simp] theorem State.mapLines_tap (s : State) (c : WLine → Bool) (f : WLine → WLine) : (s.mapLines c f).tap = s.tap := rfl
@[simp] theorem State.mapLines_outputs (s : State) (c : WLine → Bool) (f : WLine → WLine) : (s.mapLines c f).outputs = s.outputs := rfl
@[simp] theorem State.mapLines_pending (s : State) (c : WLine → Bool) (f : WLine → WLine) : (s.mapLines c f).pending = s.pending := rfl
@[simp] theorem State.mapLines_serving (s : State) (c : WLine → Bool) (f : WLine → WLine) : (s.mapLines c f).serving = s.serving := rfl
@[simp] theorem State.mapLines_port (s : State) (c : WLine → Bool) (f : WLine → WLine) (j : Nat) : (s.mapLines c f).port j = s.port j := rfl
@[simp] theorem State.mapLines_sub (s : State) (c : WLine → Bool) (f : WLine → WLine) (j : Nat) : (s.mapLines c f).sub j = s.sub j := rfl
@[simp] theorem State.mapLines_eng (s : State) (c : WLine → Bool) (f : WLine → WLine) (j : Nat) : (s.mapLines c f).eng j = s.eng j := rfl
@[simp] theorem State.mapLines_group (s : State) (c : WLine → Bool) (f : WLine → WLine) (j : Nat) : (s.mapLines c f).group j = s.group j := rfl
@[simp] theorem State.mapLines_phy (s : State) (c : WLine → Bool) (f : WLine → WLine) (j : Nat) : (s.mapLines c f).phy j = s.phy j := rfl
@[simp] theorem State.mapLines_fld (s : State) (c : WLine → Bool) (f : WLine → WLine) (g' : FRef) : (s.mapLines c f).fld g' = s.fld g' := rfl
@[simp] theorem State.mapLines_flag (s : State) (c : WLine → Bool) (f : WLine → WLine) (g' : FRef) : (s.mapLines c f).flag g' = s.flag g' := rfl
@[simp] theorem State.mapLines_word (s : State) (c : WLine → Bool) (f : WLine → WLine) (j : Nat) : (s.mapLines c f).word j = s.word j := rfl

@[simp] theorem State.mapQEs_mode (s : State) (c : QE → Bool) (f : QE → QE) : (s.mapQEs c f).mode = s.mode := rfl
@[simp] theorem State.mapQEs_sleepFrom (s : State) (c : QE → Bool) (f : QE → QE) : (s.mapQEs c f).sleepFrom = s.sleepFrom := rfl
@[simp] theorem State.mapQEs_resetN (s : State) (c : QE → Bool) (f : QE → QE) : (s.mapQEs c f).resetN = s.resetN := rfl
@[simp] theorem State.mapQEs_frozen (s : State) (c : QE → Bool) (f : QE → QE) : (s.mapQEs c f).frozen = s.frozen := rfl
@[simp] theorem State.mapQEs_build (s : State) (c : QE → Bool) (f : QE → QE) : (s.mapQEs c f).build = s.build := rfl
@[simp] theorem State.mapQEs_tempo (s : State) (c : QE → Bool) (f : QE → QE) : (s.mapQEs c f).tempo = s.tempo := rfl
@[simp] theorem State.mapQEs_wraps (s : State) (c : QE → Bool) (f : QE → QE) : (s.mapQEs c f).wraps = s.wraps := rfl
@[simp] theorem State.mapQEs_memReady (s : State) (c : QE → Bool) (f : QE → QE) : (s.mapQEs c f).memReady = s.memReady := rfl
@[simp] theorem State.mapQEs_regs (s : State) (c : QE → Bool) (f : QE → QE) : (s.mapQEs c f).regs = s.regs := rfl
@[simp] theorem State.mapQEs_stg (s : State) (c : QE → Bool) (f : QE → QE) : (s.mapQEs c f).stg = s.stg := rfl
@[simp] theorem State.mapQEs_views (s : State) (c : QE → Bool) (f : QE → QE) : (s.mapQEs c f).views = s.views := rfl
@[simp] theorem State.mapQEs_claims (s : State) (c : QE → Bool) (f : QE → QE) : (s.mapQEs c f).claims = s.claims := rfl
@[simp] theorem State.mapQEs_copies (s : State) (c : QE → Bool) (f : QE → QE) : (s.mapQEs c f).copies = s.copies := rfl
@[simp] theorem State.mapQEs_tabs (s : State) (c : QE → Bool) (f : QE → QE) : (s.mapQEs c f).tabs = s.tabs := rfl
@[simp] theorem State.mapQEs_tabsStg (s : State) (c : QE → Bool) (f : QE → QE) : (s.mapQEs c f).tabsStg = s.tabsStg := rfl
@[simp] theorem State.mapQEs_timers (s : State) (c : QE → Bool) (f : QE → QE) : (s.mapQEs c f).timers = s.timers := rfl
@[simp] theorem State.mapQEs_ports (s : State) (c : QE → Bool) (f : QE → QE) : (s.mapQEs c f).ports = s.ports := rfl
@[simp] theorem State.mapQEs_arbHolder (s : State) (c : QE → Bool) (f : QE → QE) : (s.mapQEs c f).arbHolder = s.arbHolder := rfl
@[simp] theorem State.mapQEs_arbDead (s : State) (c : QE → Bool) (f : QE → QE) : (s.mapQEs c f).arbDead = s.arbDead := rfl
@[simp] theorem State.mapQEs_reqs (s : State) (c : QE → Bool) (f : QE → QE) : (s.mapQEs c f).reqs = s.reqs := rfl
@[simp] theorem State.mapQEs_nextRid (s : State) (c : QE → Bool) (f : QE → QE) : (s.mapQEs c f).nextRid = s.nextRid := rfl
@[simp] theorem State.mapQEs_wbuf (s : State) (c : QE → Bool) (f : QE → QE) : (s.mapQEs c f).wbuf = s.wbuf := rfl
@[simp] theorem State.mapQEs_locks (s : State) (c : QE → Bool) (f : QE → QE) : (s.mapQEs c f).locks = s.locks := rfl
@[simp] theorem State.mapQEs_nextTag (s : State) (c : QE → Bool) (f : QE → QE) : (s.mapQEs c f).nextTag = s.nextTag := rfl
@[simp] theorem State.mapQEs_age (s : State) (c : QE → Bool) (f : QE → QE) : (s.mapQEs c f).age = s.age := rfl
@[simp] theorem State.mapQEs_subs (s : State) (c : QE → Bool) (f : QE → QE) : (s.mapQEs c f).subs = s.subs := rfl
@[simp] theorem State.mapQEs_engs (s : State) (c : QE → Bool) (f : QE → QE) : (s.mapQEs c f).engs = s.engs := rfl
@[simp] theorem State.mapQEs_groups (s : State) (c : QE → Bool) (f : QE → QE) : (s.mapQEs c f).groups = s.groups := rfl
@[simp] theorem State.mapQEs_rankTemps (s : State) (c : QE → Bool) (f : QE → QE) : (s.mapQEs c f).rankTemps = s.rankTemps := rfl
@[simp] theorem State.mapQEs_fault (s : State) (c : QE → Bool) (f : QE → QE) : (s.mapQEs c f).fault = s.fault := rfl
@[simp] theorem State.mapQEs_ring (s : State) (c : QE → Bool) (f : QE → QE) : (s.mapQEs c f).ring = s.ring := rfl
@[simp] theorem State.mapQEs_retained (s : State) (c : QE → Bool) (f : QE → QE) : (s.mapQEs c f).retained = s.retained := rfl
@[simp] theorem State.mapQEs_repair (s : State) (c : QE → Bool) (f : QE → QE) : (s.mapQEs c f).repair = s.repair := rfl
@[simp] theorem State.mapQEs_crypt (s : State) (c : QE → Bool) (f : QE → QE) : (s.mapQEs c f).crypt = s.crypt := rfl
@[simp] theorem State.mapQEs_mig (s : State) (c : QE → Bool) (f : QE → QE) : (s.mapQEs c f).mig = s.mig := rfl
@[simp] theorem State.mapQEs_migDone (s : State) (c : QE → Bool) (f : QE → QE) : (s.mapQEs c f).migDone = s.migDone := rfl
@[simp] theorem State.mapQEs_phys (s : State) (c : QE → Bool) (f : QE → QE) : (s.mapQEs c f).phys = s.phys := rfl
@[simp] theorem State.mapQEs_trims (s : State) (c : QE → Bool) (f : QE → QE) : (s.mapQEs c f).trims = s.trims := rfl
@[simp] theorem State.mapQEs_caTrims (s : State) (c : QE → Bool) (f : QE → QE) : (s.mapQEs c f).caTrims = s.caTrims := rfl
@[simp] theorem State.mapQEs_eyes (s : State) (c : QE → Bool) (f : QE → QE) : (s.mapQEs c f).eyes = s.eyes := rfl
@[simp] theorem State.mapQEs_book (s : State) (c : QE → Bool) (f : QE → QE) : (s.mapQEs c f).book = s.book := rfl
@[simp] theorem State.mapQEs_trains (s : State) (c : QE → Bool) (f : QE → QE) : (s.mapQEs c f).trains = s.trains := rfl
@[simp] theorem State.mapQEs_pendTrims (s : State) (c : QE → Bool) (f : QE → QE) : (s.mapQEs c f).pendTrims = s.pendTrims := rfl
@[simp] theorem State.mapQEs_eps (s : State) (c : QE → Bool) (f : QE → QE) : (s.mapQEs c f).eps = s.eps := rfl
@[simp] theorem State.mapQEs_power (s : State) (c : QE → Bool) (f : QE → QE) : (s.mapQEs c f).power = s.power := rfl
@[simp] theorem State.mapQEs_startup (s : State) (c : QE → Bool) (f : QE → QE) : (s.mapQEs c f).startup = s.startup := rfl
@[simp] theorem State.mapQEs_bist (s : State) (c : QE → Bool) (f : QE → QE) : (s.mapQEs c f).bist = s.bist := rfl
@[simp] theorem State.mapQEs_tap (s : State) (c : QE → Bool) (f : QE → QE) : (s.mapQEs c f).tap = s.tap := rfl
@[simp] theorem State.mapQEs_outputs (s : State) (c : QE → Bool) (f : QE → QE) : (s.mapQEs c f).outputs = s.outputs := rfl
@[simp] theorem State.mapQEs_pending (s : State) (c : QE → Bool) (f : QE → QE) : (s.mapQEs c f).pending = s.pending := rfl
@[simp] theorem State.mapQEs_serving (s : State) (c : QE → Bool) (f : QE → QE) : (s.mapQEs c f).serving = s.serving := rfl
@[simp] theorem State.mapQEs_port (s : State) (c : QE → Bool) (f : QE → QE) (j : Nat) : (s.mapQEs c f).port j = s.port j := rfl
@[simp] theorem State.mapQEs_sub (s : State) (c : QE → Bool) (f : QE → QE) (j : Nat) : (s.mapQEs c f).sub j = s.sub j := rfl
@[simp] theorem State.mapQEs_eng (s : State) (c : QE → Bool) (f : QE → QE) (j : Nat) : (s.mapQEs c f).eng j = s.eng j := rfl
@[simp] theorem State.mapQEs_group (s : State) (c : QE → Bool) (f : QE → QE) (j : Nat) : (s.mapQEs c f).group j = s.group j := rfl
@[simp] theorem State.mapQEs_phy (s : State) (c : QE → Bool) (f : QE → QE) (j : Nat) : (s.mapQEs c f).phy j = s.phy j := rfl
@[simp] theorem State.mapQEs_fld (s : State) (c : QE → Bool) (f : QE → QE) (g' : FRef) : (s.mapQEs c f).fld g' = s.fld g' := rfl
@[simp] theorem State.mapQEs_flag (s : State) (c : QE → Bool) (f : QE → QE) (g' : FRef) : (s.mapQEs c f).flag g' = s.flag g' := rfl
@[simp] theorem State.mapQEs_word (s : State) (c : QE → Bool) (f : QE → QE) (j : Nat) : (s.mapQEs c f).word j = s.word j := rfl

@[simp] theorem State.setTimer_mode (s : State) (k v : Nat) : (s.setTimer k v).mode = s.mode := rfl
@[simp] theorem State.setTimer_sleepFrom (s : State) (k v : Nat) : (s.setTimer k v).sleepFrom = s.sleepFrom := rfl
@[simp] theorem State.setTimer_resetN (s : State) (k v : Nat) : (s.setTimer k v).resetN = s.resetN := rfl
@[simp] theorem State.setTimer_frozen (s : State) (k v : Nat) : (s.setTimer k v).frozen = s.frozen := rfl
@[simp] theorem State.setTimer_build (s : State) (k v : Nat) : (s.setTimer k v).build = s.build := rfl
@[simp] theorem State.setTimer_tempo (s : State) (k v : Nat) : (s.setTimer k v).tempo = s.tempo := rfl
@[simp] theorem State.setTimer_wraps (s : State) (k v : Nat) : (s.setTimer k v).wraps = s.wraps := rfl
@[simp] theorem State.setTimer_memReady (s : State) (k v : Nat) : (s.setTimer k v).memReady = s.memReady := rfl
@[simp] theorem State.setTimer_regs (s : State) (k v : Nat) : (s.setTimer k v).regs = s.regs := rfl
@[simp] theorem State.setTimer_stg (s : State) (k v : Nat) : (s.setTimer k v).stg = s.stg := rfl
@[simp] theorem State.setTimer_views (s : State) (k v : Nat) : (s.setTimer k v).views = s.views := rfl
@[simp] theorem State.setTimer_claims (s : State) (k v : Nat) : (s.setTimer k v).claims = s.claims := rfl
@[simp] theorem State.setTimer_copies (s : State) (k v : Nat) : (s.setTimer k v).copies = s.copies := rfl
@[simp] theorem State.setTimer_tabs (s : State) (k v : Nat) : (s.setTimer k v).tabs = s.tabs := rfl
@[simp] theorem State.setTimer_tabsStg (s : State) (k v : Nat) : (s.setTimer k v).tabsStg = s.tabsStg := rfl
@[simp] theorem State.setTimer_ports (s : State) (k v : Nat) : (s.setTimer k v).ports = s.ports := rfl
@[simp] theorem State.setTimer_arbHolder (s : State) (k v : Nat) : (s.setTimer k v).arbHolder = s.arbHolder := rfl
@[simp] theorem State.setTimer_arbDead (s : State) (k v : Nat) : (s.setTimer k v).arbDead = s.arbDead := rfl
@[simp] theorem State.setTimer_reqs (s : State) (k v : Nat) : (s.setTimer k v).reqs = s.reqs := rfl
@[simp] theorem State.setTimer_nextRid (s : State) (k v : Nat) : (s.setTimer k v).nextRid = s.nextRid := rfl
@[simp] theorem State.setTimer_wbuf (s : State) (k v : Nat) : (s.setTimer k v).wbuf = s.wbuf := rfl
@[simp] theorem State.setTimer_locks (s : State) (k v : Nat) : (s.setTimer k v).locks = s.locks := rfl
@[simp] theorem State.setTimer_qes (s : State) (k v : Nat) : (s.setTimer k v).qes = s.qes := rfl
@[simp] theorem State.setTimer_nextTag (s : State) (k v : Nat) : (s.setTimer k v).nextTag = s.nextTag := rfl
@[simp] theorem State.setTimer_age (s : State) (k v : Nat) : (s.setTimer k v).age = s.age := rfl
@[simp] theorem State.setTimer_subs (s : State) (k v : Nat) : (s.setTimer k v).subs = s.subs := rfl
@[simp] theorem State.setTimer_engs (s : State) (k v : Nat) : (s.setTimer k v).engs = s.engs := rfl
@[simp] theorem State.setTimer_groups (s : State) (k v : Nat) : (s.setTimer k v).groups = s.groups := rfl
@[simp] theorem State.setTimer_rankTemps (s : State) (k v : Nat) : (s.setTimer k v).rankTemps = s.rankTemps := rfl
@[simp] theorem State.setTimer_fault (s : State) (k v : Nat) : (s.setTimer k v).fault = s.fault := rfl
@[simp] theorem State.setTimer_ring (s : State) (k v : Nat) : (s.setTimer k v).ring = s.ring := rfl
@[simp] theorem State.setTimer_retained (s : State) (k v : Nat) : (s.setTimer k v).retained = s.retained := rfl
@[simp] theorem State.setTimer_repair (s : State) (k v : Nat) : (s.setTimer k v).repair = s.repair := rfl
@[simp] theorem State.setTimer_crypt (s : State) (k v : Nat) : (s.setTimer k v).crypt = s.crypt := rfl
@[simp] theorem State.setTimer_mig (s : State) (k v : Nat) : (s.setTimer k v).mig = s.mig := rfl
@[simp] theorem State.setTimer_migDone (s : State) (k v : Nat) : (s.setTimer k v).migDone = s.migDone := rfl
@[simp] theorem State.setTimer_phys (s : State) (k v : Nat) : (s.setTimer k v).phys = s.phys := rfl
@[simp] theorem State.setTimer_trims (s : State) (k v : Nat) : (s.setTimer k v).trims = s.trims := rfl
@[simp] theorem State.setTimer_caTrims (s : State) (k v : Nat) : (s.setTimer k v).caTrims = s.caTrims := rfl
@[simp] theorem State.setTimer_eyes (s : State) (k v : Nat) : (s.setTimer k v).eyes = s.eyes := rfl
@[simp] theorem State.setTimer_book (s : State) (k v : Nat) : (s.setTimer k v).book = s.book := rfl
@[simp] theorem State.setTimer_trains (s : State) (k v : Nat) : (s.setTimer k v).trains = s.trains := rfl
@[simp] theorem State.setTimer_pendTrims (s : State) (k v : Nat) : (s.setTimer k v).pendTrims = s.pendTrims := rfl
@[simp] theorem State.setTimer_eps (s : State) (k v : Nat) : (s.setTimer k v).eps = s.eps := rfl
@[simp] theorem State.setTimer_power (s : State) (k v : Nat) : (s.setTimer k v).power = s.power := rfl
@[simp] theorem State.setTimer_startup (s : State) (k v : Nat) : (s.setTimer k v).startup = s.startup := rfl
@[simp] theorem State.setTimer_bist (s : State) (k v : Nat) : (s.setTimer k v).bist = s.bist := rfl
@[simp] theorem State.setTimer_tap (s : State) (k v : Nat) : (s.setTimer k v).tap = s.tap := rfl
@[simp] theorem State.setTimer_outputs (s : State) (k v : Nat) : (s.setTimer k v).outputs = s.outputs := rfl
@[simp] theorem State.setTimer_pending (s : State) (k v : Nat) : (s.setTimer k v).pending = s.pending := rfl
@[simp] theorem State.setTimer_serving (s : State) (k v : Nat) : (s.setTimer k v).serving = s.serving := rfl
@[simp] theorem State.setTimer_port (s : State) (k v : Nat) (j : Nat) : (s.setTimer k v).port j = s.port j := rfl
@[simp] theorem State.setTimer_sub (s : State) (k v : Nat) (j : Nat) : (s.setTimer k v).sub j = s.sub j := rfl
@[simp] theorem State.setTimer_eng (s : State) (k v : Nat) (j : Nat) : (s.setTimer k v).eng j = s.eng j := rfl
@[simp] theorem State.setTimer_group (s : State) (k v : Nat) (j : Nat) : (s.setTimer k v).group j = s.group j := rfl
@[simp] theorem State.setTimer_phy (s : State) (k v : Nat) (j : Nat) : (s.setTimer k v).phy j = s.phy j := rfl
@[simp] theorem State.setTimer_fld (s : State) (k v : Nat) (g' : FRef) : (s.setTimer k v).fld g' = s.fld g' := rfl
@[simp] theorem State.setTimer_flag (s : State) (k v : Nat) (g' : FRef) : (s.setTimer k v).flag g' = s.flag g' := rfl
@[simp] theorem State.setTimer_word (s : State) (k v : Nat) (j : Nat) : (s.setTimer k v).word j = s.word j := rfl

@[simp] theorem State.setSlot_mode (s : State) (k : Nat) (x : Slot) : (s.setSlot k x).mode = s.mode := rfl
@[simp] theorem State.setSlot_sleepFrom (s : State) (k : Nat) (x : Slot) : (s.setSlot k x).sleepFrom = s.sleepFrom := rfl
@[simp] theorem State.setSlot_resetN (s : State) (k : Nat) (x : Slot) : (s.setSlot k x).resetN = s.resetN := rfl
@[simp] theorem State.setSlot_frozen (s : State) (k : Nat) (x : Slot) : (s.setSlot k x).frozen = s.frozen := rfl
@[simp] theorem State.setSlot_build (s : State) (k : Nat) (x : Slot) : (s.setSlot k x).build = s.build := rfl
@[simp] theorem State.setSlot_tempo (s : State) (k : Nat) (x : Slot) : (s.setSlot k x).tempo = s.tempo := rfl
@[simp] theorem State.setSlot_wraps (s : State) (k : Nat) (x : Slot) : (s.setSlot k x).wraps = s.wraps := rfl
@[simp] theorem State.setSlot_memReady (s : State) (k : Nat) (x : Slot) : (s.setSlot k x).memReady = s.memReady := rfl
@[simp] theorem State.setSlot_regs (s : State) (k : Nat) (x : Slot) : (s.setSlot k x).regs = s.regs := rfl
@[simp] theorem State.setSlot_stg (s : State) (k : Nat) (x : Slot) : (s.setSlot k x).stg = s.stg := rfl
@[simp] theorem State.setSlot_views (s : State) (k : Nat) (x : Slot) : (s.setSlot k x).views = s.views := rfl
@[simp] theorem State.setSlot_claims (s : State) (k : Nat) (x : Slot) : (s.setSlot k x).claims = s.claims := rfl
@[simp] theorem State.setSlot_copies (s : State) (k : Nat) (x : Slot) : (s.setSlot k x).copies = s.copies := rfl
@[simp] theorem State.setSlot_tabs (s : State) (k : Nat) (x : Slot) : (s.setSlot k x).tabs = s.tabs := rfl
@[simp] theorem State.setSlot_tabsStg (s : State) (k : Nat) (x : Slot) : (s.setSlot k x).tabsStg = s.tabsStg := rfl
@[simp] theorem State.setSlot_timers (s : State) (k : Nat) (x : Slot) : (s.setSlot k x).timers = s.timers := rfl
@[simp] theorem State.setSlot_ports (s : State) (k : Nat) (x : Slot) : (s.setSlot k x).ports = s.ports := rfl
@[simp] theorem State.setSlot_arbHolder (s : State) (k : Nat) (x : Slot) : (s.setSlot k x).arbHolder = s.arbHolder := rfl
@[simp] theorem State.setSlot_arbDead (s : State) (k : Nat) (x : Slot) : (s.setSlot k x).arbDead = s.arbDead := rfl
@[simp] theorem State.setSlot_reqs (s : State) (k : Nat) (x : Slot) : (s.setSlot k x).reqs = s.reqs := rfl
@[simp] theorem State.setSlot_nextRid (s : State) (k : Nat) (x : Slot) : (s.setSlot k x).nextRid = s.nextRid := rfl
@[simp] theorem State.setSlot_wbuf (s : State) (k : Nat) (x : Slot) : (s.setSlot k x).wbuf = s.wbuf := rfl
@[simp] theorem State.setSlot_locks (s : State) (k : Nat) (x : Slot) : (s.setSlot k x).locks = s.locks := rfl
@[simp] theorem State.setSlot_qes (s : State) (k : Nat) (x : Slot) : (s.setSlot k x).qes = s.qes := rfl
@[simp] theorem State.setSlot_nextTag (s : State) (k : Nat) (x : Slot) : (s.setSlot k x).nextTag = s.nextTag := rfl
@[simp] theorem State.setSlot_age (s : State) (k : Nat) (x : Slot) : (s.setSlot k x).age = s.age := rfl
@[simp] theorem State.setSlot_subs (s : State) (k : Nat) (x : Slot) : (s.setSlot k x).subs = s.subs := rfl
@[simp] theorem State.setSlot_engs (s : State) (k : Nat) (x : Slot) : (s.setSlot k x).engs = s.engs := rfl
@[simp] theorem State.setSlot_groups (s : State) (k : Nat) (x : Slot) : (s.setSlot k x).groups = s.groups := rfl
@[simp] theorem State.setSlot_rankTemps (s : State) (k : Nat) (x : Slot) : (s.setSlot k x).rankTemps = s.rankTemps := rfl
@[simp] theorem State.setSlot_fault (s : State) (k : Nat) (x : Slot) : (s.setSlot k x).fault = s.fault := rfl
@[simp] theorem State.setSlot_ring (s : State) (k : Nat) (x : Slot) : (s.setSlot k x).ring = s.ring := rfl
@[simp] theorem State.setSlot_retained (s : State) (k : Nat) (x : Slot) : (s.setSlot k x).retained = s.retained := rfl
@[simp] theorem State.setSlot_repair (s : State) (k : Nat) (x : Slot) : (s.setSlot k x).repair = s.repair := rfl
@[simp] theorem State.setSlot_mig (s : State) (k : Nat) (x : Slot) : (s.setSlot k x).mig = s.mig := rfl
@[simp] theorem State.setSlot_migDone (s : State) (k : Nat) (x : Slot) : (s.setSlot k x).migDone = s.migDone := rfl
@[simp] theorem State.setSlot_phys (s : State) (k : Nat) (x : Slot) : (s.setSlot k x).phys = s.phys := rfl
@[simp] theorem State.setSlot_trims (s : State) (k : Nat) (x : Slot) : (s.setSlot k x).trims = s.trims := rfl
@[simp] theorem State.setSlot_caTrims (s : State) (k : Nat) (x : Slot) : (s.setSlot k x).caTrims = s.caTrims := rfl
@[simp] theorem State.setSlot_eyes (s : State) (k : Nat) (x : Slot) : (s.setSlot k x).eyes = s.eyes := rfl
@[simp] theorem State.setSlot_book (s : State) (k : Nat) (x : Slot) : (s.setSlot k x).book = s.book := rfl
@[simp] theorem State.setSlot_trains (s : State) (k : Nat) (x : Slot) : (s.setSlot k x).trains = s.trains := rfl
@[simp] theorem State.setSlot_pendTrims (s : State) (k : Nat) (x : Slot) : (s.setSlot k x).pendTrims = s.pendTrims := rfl
@[simp] theorem State.setSlot_eps (s : State) (k : Nat) (x : Slot) : (s.setSlot k x).eps = s.eps := rfl
@[simp] theorem State.setSlot_power (s : State) (k : Nat) (x : Slot) : (s.setSlot k x).power = s.power := rfl
@[simp] theorem State.setSlot_startup (s : State) (k : Nat) (x : Slot) : (s.setSlot k x).startup = s.startup := rfl
@[simp] theorem State.setSlot_bist (s : State) (k : Nat) (x : Slot) : (s.setSlot k x).bist = s.bist := rfl
@[simp] theorem State.setSlot_tap (s : State) (k : Nat) (x : Slot) : (s.setSlot k x).tap = s.tap := rfl
@[simp] theorem State.setSlot_outputs (s : State) (k : Nat) (x : Slot) : (s.setSlot k x).outputs = s.outputs := rfl
@[simp] theorem State.setSlot_pending (s : State) (k : Nat) (x : Slot) : (s.setSlot k x).pending = s.pending := rfl
@[simp] theorem State.setSlot_serving (s : State) (k : Nat) (x : Slot) : (s.setSlot k x).serving = s.serving := rfl
@[simp] theorem State.setSlot_port (s : State) (k : Nat) (x : Slot) (j : Nat) : (s.setSlot k x).port j = s.port j := rfl
@[simp] theorem State.setSlot_sub (s : State) (k : Nat) (x : Slot) (j : Nat) : (s.setSlot k x).sub j = s.sub j := rfl
@[simp] theorem State.setSlot_eng (s : State) (k : Nat) (x : Slot) (j : Nat) : (s.setSlot k x).eng j = s.eng j := rfl
@[simp] theorem State.setSlot_group (s : State) (k : Nat) (x : Slot) (j : Nat) : (s.setSlot k x).group j = s.group j := rfl
@[simp] theorem State.setSlot_phy (s : State) (k : Nat) (x : Slot) (j : Nat) : (s.setSlot k x).phy j = s.phy j := rfl
@[simp] theorem State.setSlot_fld (s : State) (k : Nat) (x : Slot) (g' : FRef) : (s.setSlot k x).fld g' = s.fld g' := rfl
@[simp] theorem State.setSlot_flag (s : State) (k : Nat) (x : Slot) (g' : FRef) : (s.setSlot k x).flag g' = s.flag g' := rfl
@[simp] theorem State.setSlot_word (s : State) (k : Nat) (x : Slot) (j : Nat) : (s.setSlot k x).word j = s.word j := rfl

@[simp] theorem State.setTrain_mode (s : State) (i : Nat) (x : TrainSub) : (s.setTrain i x).mode = s.mode := rfl
@[simp] theorem State.setTrain_sleepFrom (s : State) (i : Nat) (x : TrainSub) : (s.setTrain i x).sleepFrom = s.sleepFrom := rfl
@[simp] theorem State.setTrain_resetN (s : State) (i : Nat) (x : TrainSub) : (s.setTrain i x).resetN = s.resetN := rfl
@[simp] theorem State.setTrain_frozen (s : State) (i : Nat) (x : TrainSub) : (s.setTrain i x).frozen = s.frozen := rfl
@[simp] theorem State.setTrain_build (s : State) (i : Nat) (x : TrainSub) : (s.setTrain i x).build = s.build := rfl
@[simp] theorem State.setTrain_tempo (s : State) (i : Nat) (x : TrainSub) : (s.setTrain i x).tempo = s.tempo := rfl
@[simp] theorem State.setTrain_wraps (s : State) (i : Nat) (x : TrainSub) : (s.setTrain i x).wraps = s.wraps := rfl
@[simp] theorem State.setTrain_memReady (s : State) (i : Nat) (x : TrainSub) : (s.setTrain i x).memReady = s.memReady := rfl
@[simp] theorem State.setTrain_regs (s : State) (i : Nat) (x : TrainSub) : (s.setTrain i x).regs = s.regs := rfl
@[simp] theorem State.setTrain_stg (s : State) (i : Nat) (x : TrainSub) : (s.setTrain i x).stg = s.stg := rfl
@[simp] theorem State.setTrain_views (s : State) (i : Nat) (x : TrainSub) : (s.setTrain i x).views = s.views := rfl
@[simp] theorem State.setTrain_claims (s : State) (i : Nat) (x : TrainSub) : (s.setTrain i x).claims = s.claims := rfl
@[simp] theorem State.setTrain_copies (s : State) (i : Nat) (x : TrainSub) : (s.setTrain i x).copies = s.copies := rfl
@[simp] theorem State.setTrain_tabs (s : State) (i : Nat) (x : TrainSub) : (s.setTrain i x).tabs = s.tabs := rfl
@[simp] theorem State.setTrain_tabsStg (s : State) (i : Nat) (x : TrainSub) : (s.setTrain i x).tabsStg = s.tabsStg := rfl
@[simp] theorem State.setTrain_timers (s : State) (i : Nat) (x : TrainSub) : (s.setTrain i x).timers = s.timers := rfl
@[simp] theorem State.setTrain_ports (s : State) (i : Nat) (x : TrainSub) : (s.setTrain i x).ports = s.ports := rfl
@[simp] theorem State.setTrain_arbHolder (s : State) (i : Nat) (x : TrainSub) : (s.setTrain i x).arbHolder = s.arbHolder := rfl
@[simp] theorem State.setTrain_arbDead (s : State) (i : Nat) (x : TrainSub) : (s.setTrain i x).arbDead = s.arbDead := rfl
@[simp] theorem State.setTrain_reqs (s : State) (i : Nat) (x : TrainSub) : (s.setTrain i x).reqs = s.reqs := rfl
@[simp] theorem State.setTrain_nextRid (s : State) (i : Nat) (x : TrainSub) : (s.setTrain i x).nextRid = s.nextRid := rfl
@[simp] theorem State.setTrain_wbuf (s : State) (i : Nat) (x : TrainSub) : (s.setTrain i x).wbuf = s.wbuf := rfl
@[simp] theorem State.setTrain_locks (s : State) (i : Nat) (x : TrainSub) : (s.setTrain i x).locks = s.locks := rfl
@[simp] theorem State.setTrain_qes (s : State) (i : Nat) (x : TrainSub) : (s.setTrain i x).qes = s.qes := rfl
@[simp] theorem State.setTrain_nextTag (s : State) (i : Nat) (x : TrainSub) : (s.setTrain i x).nextTag = s.nextTag := rfl
@[simp] theorem State.setTrain_age (s : State) (i : Nat) (x : TrainSub) : (s.setTrain i x).age = s.age := rfl
@[simp] theorem State.setTrain_subs (s : State) (i : Nat) (x : TrainSub) : (s.setTrain i x).subs = s.subs := rfl
@[simp] theorem State.setTrain_engs (s : State) (i : Nat) (x : TrainSub) : (s.setTrain i x).engs = s.engs := rfl
@[simp] theorem State.setTrain_groups (s : State) (i : Nat) (x : TrainSub) : (s.setTrain i x).groups = s.groups := rfl
@[simp] theorem State.setTrain_rankTemps (s : State) (i : Nat) (x : TrainSub) : (s.setTrain i x).rankTemps = s.rankTemps := rfl
@[simp] theorem State.setTrain_fault (s : State) (i : Nat) (x : TrainSub) : (s.setTrain i x).fault = s.fault := rfl
@[simp] theorem State.setTrain_ring (s : State) (i : Nat) (x : TrainSub) : (s.setTrain i x).ring = s.ring := rfl
@[simp] theorem State.setTrain_retained (s : State) (i : Nat) (x : TrainSub) : (s.setTrain i x).retained = s.retained := rfl
@[simp] theorem State.setTrain_repair (s : State) (i : Nat) (x : TrainSub) : (s.setTrain i x).repair = s.repair := rfl
@[simp] theorem State.setTrain_crypt (s : State) (i : Nat) (x : TrainSub) : (s.setTrain i x).crypt = s.crypt := rfl
@[simp] theorem State.setTrain_mig (s : State) (i : Nat) (x : TrainSub) : (s.setTrain i x).mig = s.mig := rfl
@[simp] theorem State.setTrain_migDone (s : State) (i : Nat) (x : TrainSub) : (s.setTrain i x).migDone = s.migDone := rfl
@[simp] theorem State.setTrain_phys (s : State) (i : Nat) (x : TrainSub) : (s.setTrain i x).phys = s.phys := rfl
@[simp] theorem State.setTrain_trims (s : State) (i : Nat) (x : TrainSub) : (s.setTrain i x).trims = s.trims := rfl
@[simp] theorem State.setTrain_caTrims (s : State) (i : Nat) (x : TrainSub) : (s.setTrain i x).caTrims = s.caTrims := rfl
@[simp] theorem State.setTrain_eyes (s : State) (i : Nat) (x : TrainSub) : (s.setTrain i x).eyes = s.eyes := rfl
@[simp] theorem State.setTrain_book (s : State) (i : Nat) (x : TrainSub) : (s.setTrain i x).book = s.book := rfl
@[simp] theorem State.setTrain_pendTrims (s : State) (i : Nat) (x : TrainSub) : (s.setTrain i x).pendTrims = s.pendTrims := rfl
@[simp] theorem State.setTrain_eps (s : State) (i : Nat) (x : TrainSub) : (s.setTrain i x).eps = s.eps := rfl
@[simp] theorem State.setTrain_power (s : State) (i : Nat) (x : TrainSub) : (s.setTrain i x).power = s.power := rfl
@[simp] theorem State.setTrain_startup (s : State) (i : Nat) (x : TrainSub) : (s.setTrain i x).startup = s.startup := rfl
@[simp] theorem State.setTrain_bist (s : State) (i : Nat) (x : TrainSub) : (s.setTrain i x).bist = s.bist := rfl
@[simp] theorem State.setTrain_tap (s : State) (i : Nat) (x : TrainSub) : (s.setTrain i x).tap = s.tap := rfl
@[simp] theorem State.setTrain_outputs (s : State) (i : Nat) (x : TrainSub) : (s.setTrain i x).outputs = s.outputs := rfl
@[simp] theorem State.setTrain_pending (s : State) (i : Nat) (x : TrainSub) : (s.setTrain i x).pending = s.pending := rfl
@[simp] theorem State.setTrain_serving (s : State) (i : Nat) (x : TrainSub) : (s.setTrain i x).serving = s.serving := rfl
@[simp] theorem State.setTrain_port (s : State) (i : Nat) (x : TrainSub) (j : Nat) : (s.setTrain i x).port j = s.port j := rfl
@[simp] theorem State.setTrain_sub (s : State) (i : Nat) (x : TrainSub) (j : Nat) : (s.setTrain i x).sub j = s.sub j := rfl
@[simp] theorem State.setTrain_eng (s : State) (i : Nat) (x : TrainSub) (j : Nat) : (s.setTrain i x).eng j = s.eng j := rfl
@[simp] theorem State.setTrain_group (s : State) (i : Nat) (x : TrainSub) (j : Nat) : (s.setTrain i x).group j = s.group j := rfl
@[simp] theorem State.setTrain_phy (s : State) (i : Nat) (x : TrainSub) (j : Nat) : (s.setTrain i x).phy j = s.phy j := rfl
@[simp] theorem State.setTrain_fld (s : State) (i : Nat) (x : TrainSub) (g' : FRef) : (s.setTrain i x).fld g' = s.fld g' := rfl
@[simp] theorem State.setTrain_flag (s : State) (i : Nat) (x : TrainSub) (g' : FRef) : (s.setTrain i x).flag g' = s.flag g' := rfl
@[simp] theorem State.setTrain_word (s : State) (i : Nat) (x : TrainSub) (j : Nat) : (s.setTrain i x).word j = s.word j := rfl

@[simp] theorem State.setTrim_mode (s : State) (k : Nat) (x : Trim) : (s.setTrim k x).mode = s.mode := rfl
@[simp] theorem State.setTrim_sleepFrom (s : State) (k : Nat) (x : Trim) : (s.setTrim k x).sleepFrom = s.sleepFrom := rfl
@[simp] theorem State.setTrim_resetN (s : State) (k : Nat) (x : Trim) : (s.setTrim k x).resetN = s.resetN := rfl
@[simp] theorem State.setTrim_frozen (s : State) (k : Nat) (x : Trim) : (s.setTrim k x).frozen = s.frozen := rfl
@[simp] theorem State.setTrim_build (s : State) (k : Nat) (x : Trim) : (s.setTrim k x).build = s.build := rfl
@[simp] theorem State.setTrim_tempo (s : State) (k : Nat) (x : Trim) : (s.setTrim k x).tempo = s.tempo := rfl
@[simp] theorem State.setTrim_wraps (s : State) (k : Nat) (x : Trim) : (s.setTrim k x).wraps = s.wraps := rfl
@[simp] theorem State.setTrim_memReady (s : State) (k : Nat) (x : Trim) : (s.setTrim k x).memReady = s.memReady := rfl
@[simp] theorem State.setTrim_regs (s : State) (k : Nat) (x : Trim) : (s.setTrim k x).regs = s.regs := rfl
@[simp] theorem State.setTrim_stg (s : State) (k : Nat) (x : Trim) : (s.setTrim k x).stg = s.stg := rfl
@[simp] theorem State.setTrim_views (s : State) (k : Nat) (x : Trim) : (s.setTrim k x).views = s.views := rfl
@[simp] theorem State.setTrim_claims (s : State) (k : Nat) (x : Trim) : (s.setTrim k x).claims = s.claims := rfl
@[simp] theorem State.setTrim_copies (s : State) (k : Nat) (x : Trim) : (s.setTrim k x).copies = s.copies := rfl
@[simp] theorem State.setTrim_tabs (s : State) (k : Nat) (x : Trim) : (s.setTrim k x).tabs = s.tabs := rfl
@[simp] theorem State.setTrim_tabsStg (s : State) (k : Nat) (x : Trim) : (s.setTrim k x).tabsStg = s.tabsStg := rfl
@[simp] theorem State.setTrim_timers (s : State) (k : Nat) (x : Trim) : (s.setTrim k x).timers = s.timers := rfl
@[simp] theorem State.setTrim_ports (s : State) (k : Nat) (x : Trim) : (s.setTrim k x).ports = s.ports := rfl
@[simp] theorem State.setTrim_arbHolder (s : State) (k : Nat) (x : Trim) : (s.setTrim k x).arbHolder = s.arbHolder := rfl
@[simp] theorem State.setTrim_arbDead (s : State) (k : Nat) (x : Trim) : (s.setTrim k x).arbDead = s.arbDead := rfl
@[simp] theorem State.setTrim_reqs (s : State) (k : Nat) (x : Trim) : (s.setTrim k x).reqs = s.reqs := rfl
@[simp] theorem State.setTrim_nextRid (s : State) (k : Nat) (x : Trim) : (s.setTrim k x).nextRid = s.nextRid := rfl
@[simp] theorem State.setTrim_wbuf (s : State) (k : Nat) (x : Trim) : (s.setTrim k x).wbuf = s.wbuf := rfl
@[simp] theorem State.setTrim_locks (s : State) (k : Nat) (x : Trim) : (s.setTrim k x).locks = s.locks := rfl
@[simp] theorem State.setTrim_qes (s : State) (k : Nat) (x : Trim) : (s.setTrim k x).qes = s.qes := rfl
@[simp] theorem State.setTrim_nextTag (s : State) (k : Nat) (x : Trim) : (s.setTrim k x).nextTag = s.nextTag := rfl
@[simp] theorem State.setTrim_age (s : State) (k : Nat) (x : Trim) : (s.setTrim k x).age = s.age := rfl
@[simp] theorem State.setTrim_subs (s : State) (k : Nat) (x : Trim) : (s.setTrim k x).subs = s.subs := rfl
@[simp] theorem State.setTrim_engs (s : State) (k : Nat) (x : Trim) : (s.setTrim k x).engs = s.engs := rfl
@[simp] theorem State.setTrim_groups (s : State) (k : Nat) (x : Trim) : (s.setTrim k x).groups = s.groups := rfl
@[simp] theorem State.setTrim_rankTemps (s : State) (k : Nat) (x : Trim) : (s.setTrim k x).rankTemps = s.rankTemps := rfl
@[simp] theorem State.setTrim_fault (s : State) (k : Nat) (x : Trim) : (s.setTrim k x).fault = s.fault := rfl
@[simp] theorem State.setTrim_ring (s : State) (k : Nat) (x : Trim) : (s.setTrim k x).ring = s.ring := rfl
@[simp] theorem State.setTrim_retained (s : State) (k : Nat) (x : Trim) : (s.setTrim k x).retained = s.retained := rfl
@[simp] theorem State.setTrim_repair (s : State) (k : Nat) (x : Trim) : (s.setTrim k x).repair = s.repair := rfl
@[simp] theorem State.setTrim_crypt (s : State) (k : Nat) (x : Trim) : (s.setTrim k x).crypt = s.crypt := rfl
@[simp] theorem State.setTrim_mig (s : State) (k : Nat) (x : Trim) : (s.setTrim k x).mig = s.mig := rfl
@[simp] theorem State.setTrim_migDone (s : State) (k : Nat) (x : Trim) : (s.setTrim k x).migDone = s.migDone := rfl
@[simp] theorem State.setTrim_phys (s : State) (k : Nat) (x : Trim) : (s.setTrim k x).phys = s.phys := rfl
@[simp] theorem State.setTrim_caTrims (s : State) (k : Nat) (x : Trim) : (s.setTrim k x).caTrims = s.caTrims := rfl
@[simp] theorem State.setTrim_eyes (s : State) (k : Nat) (x : Trim) : (s.setTrim k x).eyes = s.eyes := rfl
@[simp] theorem State.setTrim_book (s : State) (k : Nat) (x : Trim) : (s.setTrim k x).book = s.book := rfl
@[simp] theorem State.setTrim_trains (s : State) (k : Nat) (x : Trim) : (s.setTrim k x).trains = s.trains := rfl
@[simp] theorem State.setTrim_pendTrims (s : State) (k : Nat) (x : Trim) : (s.setTrim k x).pendTrims = s.pendTrims := rfl
@[simp] theorem State.setTrim_eps (s : State) (k : Nat) (x : Trim) : (s.setTrim k x).eps = s.eps := rfl
@[simp] theorem State.setTrim_power (s : State) (k : Nat) (x : Trim) : (s.setTrim k x).power = s.power := rfl
@[simp] theorem State.setTrim_startup (s : State) (k : Nat) (x : Trim) : (s.setTrim k x).startup = s.startup := rfl
@[simp] theorem State.setTrim_bist (s : State) (k : Nat) (x : Trim) : (s.setTrim k x).bist = s.bist := rfl
@[simp] theorem State.setTrim_tap (s : State) (k : Nat) (x : Trim) : (s.setTrim k x).tap = s.tap := rfl
@[simp] theorem State.setTrim_outputs (s : State) (k : Nat) (x : Trim) : (s.setTrim k x).outputs = s.outputs := rfl
@[simp] theorem State.setTrim_pending (s : State) (k : Nat) (x : Trim) : (s.setTrim k x).pending = s.pending := rfl
@[simp] theorem State.setTrim_serving (s : State) (k : Nat) (x : Trim) : (s.setTrim k x).serving = s.serving := rfl
@[simp] theorem State.setTrim_port (s : State) (k : Nat) (x : Trim) (j : Nat) : (s.setTrim k x).port j = s.port j := rfl
@[simp] theorem State.setTrim_sub (s : State) (k : Nat) (x : Trim) (j : Nat) : (s.setTrim k x).sub j = s.sub j := rfl
@[simp] theorem State.setTrim_eng (s : State) (k : Nat) (x : Trim) (j : Nat) : (s.setTrim k x).eng j = s.eng j := rfl
@[simp] theorem State.setTrim_group (s : State) (k : Nat) (x : Trim) (j : Nat) : (s.setTrim k x).group j = s.group j := rfl
@[simp] theorem State.setTrim_phy (s : State) (k : Nat) (x : Trim) (j : Nat) : (s.setTrim k x).phy j = s.phy j := rfl
@[simp] theorem State.setTrim_fld (s : State) (k : Nat) (x : Trim) (g' : FRef) : (s.setTrim k x).fld g' = s.fld g' := rfl
@[simp] theorem State.setTrim_flag (s : State) (k : Nat) (x : Trim) (g' : FRef) : (s.setTrim k x).flag g' = s.flag g' := rfl
@[simp] theorem State.setTrim_word (s : State) (k : Nat) (x : Trim) (j : Nat) : (s.setTrim k x).word j = s.word j := rfl

@[simp] theorem State.setEp_mode (s : State) (i : Nat) (x : EpCh) : (s.setEp i x).mode = s.mode := rfl
@[simp] theorem State.setEp_sleepFrom (s : State) (i : Nat) (x : EpCh) : (s.setEp i x).sleepFrom = s.sleepFrom := rfl
@[simp] theorem State.setEp_resetN (s : State) (i : Nat) (x : EpCh) : (s.setEp i x).resetN = s.resetN := rfl
@[simp] theorem State.setEp_frozen (s : State) (i : Nat) (x : EpCh) : (s.setEp i x).frozen = s.frozen := rfl
@[simp] theorem State.setEp_build (s : State) (i : Nat) (x : EpCh) : (s.setEp i x).build = s.build := rfl
@[simp] theorem State.setEp_tempo (s : State) (i : Nat) (x : EpCh) : (s.setEp i x).tempo = s.tempo := rfl
@[simp] theorem State.setEp_wraps (s : State) (i : Nat) (x : EpCh) : (s.setEp i x).wraps = s.wraps := rfl
@[simp] theorem State.setEp_memReady (s : State) (i : Nat) (x : EpCh) : (s.setEp i x).memReady = s.memReady := rfl
@[simp] theorem State.setEp_regs (s : State) (i : Nat) (x : EpCh) : (s.setEp i x).regs = s.regs := rfl
@[simp] theorem State.setEp_stg (s : State) (i : Nat) (x : EpCh) : (s.setEp i x).stg = s.stg := rfl
@[simp] theorem State.setEp_views (s : State) (i : Nat) (x : EpCh) : (s.setEp i x).views = s.views := rfl
@[simp] theorem State.setEp_claims (s : State) (i : Nat) (x : EpCh) : (s.setEp i x).claims = s.claims := rfl
@[simp] theorem State.setEp_copies (s : State) (i : Nat) (x : EpCh) : (s.setEp i x).copies = s.copies := rfl
@[simp] theorem State.setEp_tabs (s : State) (i : Nat) (x : EpCh) : (s.setEp i x).tabs = s.tabs := rfl
@[simp] theorem State.setEp_tabsStg (s : State) (i : Nat) (x : EpCh) : (s.setEp i x).tabsStg = s.tabsStg := rfl
@[simp] theorem State.setEp_timers (s : State) (i : Nat) (x : EpCh) : (s.setEp i x).timers = s.timers := rfl
@[simp] theorem State.setEp_ports (s : State) (i : Nat) (x : EpCh) : (s.setEp i x).ports = s.ports := rfl
@[simp] theorem State.setEp_arbHolder (s : State) (i : Nat) (x : EpCh) : (s.setEp i x).arbHolder = s.arbHolder := rfl
@[simp] theorem State.setEp_arbDead (s : State) (i : Nat) (x : EpCh) : (s.setEp i x).arbDead = s.arbDead := rfl
@[simp] theorem State.setEp_reqs (s : State) (i : Nat) (x : EpCh) : (s.setEp i x).reqs = s.reqs := rfl
@[simp] theorem State.setEp_nextRid (s : State) (i : Nat) (x : EpCh) : (s.setEp i x).nextRid = s.nextRid := rfl
@[simp] theorem State.setEp_wbuf (s : State) (i : Nat) (x : EpCh) : (s.setEp i x).wbuf = s.wbuf := rfl
@[simp] theorem State.setEp_locks (s : State) (i : Nat) (x : EpCh) : (s.setEp i x).locks = s.locks := rfl
@[simp] theorem State.setEp_qes (s : State) (i : Nat) (x : EpCh) : (s.setEp i x).qes = s.qes := rfl
@[simp] theorem State.setEp_nextTag (s : State) (i : Nat) (x : EpCh) : (s.setEp i x).nextTag = s.nextTag := rfl
@[simp] theorem State.setEp_age (s : State) (i : Nat) (x : EpCh) : (s.setEp i x).age = s.age := rfl
@[simp] theorem State.setEp_subs (s : State) (i : Nat) (x : EpCh) : (s.setEp i x).subs = s.subs := rfl
@[simp] theorem State.setEp_engs (s : State) (i : Nat) (x : EpCh) : (s.setEp i x).engs = s.engs := rfl
@[simp] theorem State.setEp_groups (s : State) (i : Nat) (x : EpCh) : (s.setEp i x).groups = s.groups := rfl
@[simp] theorem State.setEp_rankTemps (s : State) (i : Nat) (x : EpCh) : (s.setEp i x).rankTemps = s.rankTemps := rfl
@[simp] theorem State.setEp_fault (s : State) (i : Nat) (x : EpCh) : (s.setEp i x).fault = s.fault := rfl
@[simp] theorem State.setEp_ring (s : State) (i : Nat) (x : EpCh) : (s.setEp i x).ring = s.ring := rfl
@[simp] theorem State.setEp_retained (s : State) (i : Nat) (x : EpCh) : (s.setEp i x).retained = s.retained := rfl
@[simp] theorem State.setEp_repair (s : State) (i : Nat) (x : EpCh) : (s.setEp i x).repair = s.repair := rfl
@[simp] theorem State.setEp_crypt (s : State) (i : Nat) (x : EpCh) : (s.setEp i x).crypt = s.crypt := rfl
@[simp] theorem State.setEp_mig (s : State) (i : Nat) (x : EpCh) : (s.setEp i x).mig = s.mig := rfl
@[simp] theorem State.setEp_migDone (s : State) (i : Nat) (x : EpCh) : (s.setEp i x).migDone = s.migDone := rfl
@[simp] theorem State.setEp_phys (s : State) (i : Nat) (x : EpCh) : (s.setEp i x).phys = s.phys := rfl
@[simp] theorem State.setEp_trims (s : State) (i : Nat) (x : EpCh) : (s.setEp i x).trims = s.trims := rfl
@[simp] theorem State.setEp_caTrims (s : State) (i : Nat) (x : EpCh) : (s.setEp i x).caTrims = s.caTrims := rfl
@[simp] theorem State.setEp_eyes (s : State) (i : Nat) (x : EpCh) : (s.setEp i x).eyes = s.eyes := rfl
@[simp] theorem State.setEp_book (s : State) (i : Nat) (x : EpCh) : (s.setEp i x).book = s.book := rfl
@[simp] theorem State.setEp_trains (s : State) (i : Nat) (x : EpCh) : (s.setEp i x).trains = s.trains := rfl
@[simp] theorem State.setEp_pendTrims (s : State) (i : Nat) (x : EpCh) : (s.setEp i x).pendTrims = s.pendTrims := rfl
@[simp] theorem State.setEp_power (s : State) (i : Nat) (x : EpCh) : (s.setEp i x).power = s.power := rfl
@[simp] theorem State.setEp_startup (s : State) (i : Nat) (x : EpCh) : (s.setEp i x).startup = s.startup := rfl
@[simp] theorem State.setEp_bist (s : State) (i : Nat) (x : EpCh) : (s.setEp i x).bist = s.bist := rfl
@[simp] theorem State.setEp_tap (s : State) (i : Nat) (x : EpCh) : (s.setEp i x).tap = s.tap := rfl
@[simp] theorem State.setEp_outputs (s : State) (i : Nat) (x : EpCh) : (s.setEp i x).outputs = s.outputs := rfl
@[simp] theorem State.setEp_pending (s : State) (i : Nat) (x : EpCh) : (s.setEp i x).pending = s.pending := rfl
@[simp] theorem State.setEp_serving (s : State) (i : Nat) (x : EpCh) : (s.setEp i x).serving = s.serving := rfl
@[simp] theorem State.setEp_port (s : State) (i : Nat) (x : EpCh) (j : Nat) : (s.setEp i x).port j = s.port j := rfl
@[simp] theorem State.setEp_sub (s : State) (i : Nat) (x : EpCh) (j : Nat) : (s.setEp i x).sub j = s.sub j := rfl
@[simp] theorem State.setEp_eng (s : State) (i : Nat) (x : EpCh) (j : Nat) : (s.setEp i x).eng j = s.eng j := rfl
@[simp] theorem State.setEp_group (s : State) (i : Nat) (x : EpCh) (j : Nat) : (s.setEp i x).group j = s.group j := rfl
@[simp] theorem State.setEp_phy (s : State) (i : Nat) (x : EpCh) (j : Nat) : (s.setEp i x).phy j = s.phy j := rfl
@[simp] theorem State.setEp_fld (s : State) (i : Nat) (x : EpCh) (g' : FRef) : (s.setEp i x).fld g' = s.fld g' := rfl
@[simp] theorem State.setEp_flag (s : State) (i : Nat) (x : EpCh) (g' : FRef) : (s.setEp i x).flag g' = s.flag g' := rfl
@[simp] theorem State.setEp_word (s : State) (i : Nat) (x : EpCh) (j : Nat) : (s.setEp i x).word j = s.word j := rfl

@[simp] theorem State.setErase_mode (s : State) (i : Nat) (x : Option Erase) : (s.setErase i x).mode = s.mode := rfl
@[simp] theorem State.setErase_sleepFrom (s : State) (i : Nat) (x : Option Erase) : (s.setErase i x).sleepFrom = s.sleepFrom := rfl
@[simp] theorem State.setErase_resetN (s : State) (i : Nat) (x : Option Erase) : (s.setErase i x).resetN = s.resetN := rfl
@[simp] theorem State.setErase_frozen (s : State) (i : Nat) (x : Option Erase) : (s.setErase i x).frozen = s.frozen := rfl
@[simp] theorem State.setErase_build (s : State) (i : Nat) (x : Option Erase) : (s.setErase i x).build = s.build := rfl
@[simp] theorem State.setErase_tempo (s : State) (i : Nat) (x : Option Erase) : (s.setErase i x).tempo = s.tempo := rfl
@[simp] theorem State.setErase_wraps (s : State) (i : Nat) (x : Option Erase) : (s.setErase i x).wraps = s.wraps := rfl
@[simp] theorem State.setErase_memReady (s : State) (i : Nat) (x : Option Erase) : (s.setErase i x).memReady = s.memReady := rfl
@[simp] theorem State.setErase_regs (s : State) (i : Nat) (x : Option Erase) : (s.setErase i x).regs = s.regs := rfl
@[simp] theorem State.setErase_stg (s : State) (i : Nat) (x : Option Erase) : (s.setErase i x).stg = s.stg := rfl
@[simp] theorem State.setErase_views (s : State) (i : Nat) (x : Option Erase) : (s.setErase i x).views = s.views := rfl
@[simp] theorem State.setErase_claims (s : State) (i : Nat) (x : Option Erase) : (s.setErase i x).claims = s.claims := rfl
@[simp] theorem State.setErase_copies (s : State) (i : Nat) (x : Option Erase) : (s.setErase i x).copies = s.copies := rfl
@[simp] theorem State.setErase_tabs (s : State) (i : Nat) (x : Option Erase) : (s.setErase i x).tabs = s.tabs := rfl
@[simp] theorem State.setErase_tabsStg (s : State) (i : Nat) (x : Option Erase) : (s.setErase i x).tabsStg = s.tabsStg := rfl
@[simp] theorem State.setErase_timers (s : State) (i : Nat) (x : Option Erase) : (s.setErase i x).timers = s.timers := rfl
@[simp] theorem State.setErase_ports (s : State) (i : Nat) (x : Option Erase) : (s.setErase i x).ports = s.ports := rfl
@[simp] theorem State.setErase_arbHolder (s : State) (i : Nat) (x : Option Erase) : (s.setErase i x).arbHolder = s.arbHolder := rfl
@[simp] theorem State.setErase_arbDead (s : State) (i : Nat) (x : Option Erase) : (s.setErase i x).arbDead = s.arbDead := rfl
@[simp] theorem State.setErase_reqs (s : State) (i : Nat) (x : Option Erase) : (s.setErase i x).reqs = s.reqs := rfl
@[simp] theorem State.setErase_nextRid (s : State) (i : Nat) (x : Option Erase) : (s.setErase i x).nextRid = s.nextRid := rfl
@[simp] theorem State.setErase_wbuf (s : State) (i : Nat) (x : Option Erase) : (s.setErase i x).wbuf = s.wbuf := rfl
@[simp] theorem State.setErase_locks (s : State) (i : Nat) (x : Option Erase) : (s.setErase i x).locks = s.locks := rfl
@[simp] theorem State.setErase_qes (s : State) (i : Nat) (x : Option Erase) : (s.setErase i x).qes = s.qes := rfl
@[simp] theorem State.setErase_nextTag (s : State) (i : Nat) (x : Option Erase) : (s.setErase i x).nextTag = s.nextTag := rfl
@[simp] theorem State.setErase_age (s : State) (i : Nat) (x : Option Erase) : (s.setErase i x).age = s.age := rfl
@[simp] theorem State.setErase_subs (s : State) (i : Nat) (x : Option Erase) : (s.setErase i x).subs = s.subs := rfl
@[simp] theorem State.setErase_engs (s : State) (i : Nat) (x : Option Erase) : (s.setErase i x).engs = s.engs := rfl
@[simp] theorem State.setErase_groups (s : State) (i : Nat) (x : Option Erase) : (s.setErase i x).groups = s.groups := rfl
@[simp] theorem State.setErase_rankTemps (s : State) (i : Nat) (x : Option Erase) : (s.setErase i x).rankTemps = s.rankTemps := rfl
@[simp] theorem State.setErase_fault (s : State) (i : Nat) (x : Option Erase) : (s.setErase i x).fault = s.fault := rfl
@[simp] theorem State.setErase_ring (s : State) (i : Nat) (x : Option Erase) : (s.setErase i x).ring = s.ring := rfl
@[simp] theorem State.setErase_retained (s : State) (i : Nat) (x : Option Erase) : (s.setErase i x).retained = s.retained := rfl
@[simp] theorem State.setErase_crypt (s : State) (i : Nat) (x : Option Erase) : (s.setErase i x).crypt = s.crypt := rfl
@[simp] theorem State.setErase_mig (s : State) (i : Nat) (x : Option Erase) : (s.setErase i x).mig = s.mig := rfl
@[simp] theorem State.setErase_migDone (s : State) (i : Nat) (x : Option Erase) : (s.setErase i x).migDone = s.migDone := rfl
@[simp] theorem State.setErase_phys (s : State) (i : Nat) (x : Option Erase) : (s.setErase i x).phys = s.phys := rfl
@[simp] theorem State.setErase_trims (s : State) (i : Nat) (x : Option Erase) : (s.setErase i x).trims = s.trims := rfl
@[simp] theorem State.setErase_caTrims (s : State) (i : Nat) (x : Option Erase) : (s.setErase i x).caTrims = s.caTrims := rfl
@[simp] theorem State.setErase_eyes (s : State) (i : Nat) (x : Option Erase) : (s.setErase i x).eyes = s.eyes := rfl
@[simp] theorem State.setErase_book (s : State) (i : Nat) (x : Option Erase) : (s.setErase i x).book = s.book := rfl
@[simp] theorem State.setErase_trains (s : State) (i : Nat) (x : Option Erase) : (s.setErase i x).trains = s.trains := rfl
@[simp] theorem State.setErase_pendTrims (s : State) (i : Nat) (x : Option Erase) : (s.setErase i x).pendTrims = s.pendTrims := rfl
@[simp] theorem State.setErase_eps (s : State) (i : Nat) (x : Option Erase) : (s.setErase i x).eps = s.eps := rfl
@[simp] theorem State.setErase_power (s : State) (i : Nat) (x : Option Erase) : (s.setErase i x).power = s.power := rfl
@[simp] theorem State.setErase_startup (s : State) (i : Nat) (x : Option Erase) : (s.setErase i x).startup = s.startup := rfl
@[simp] theorem State.setErase_bist (s : State) (i : Nat) (x : Option Erase) : (s.setErase i x).bist = s.bist := rfl
@[simp] theorem State.setErase_tap (s : State) (i : Nat) (x : Option Erase) : (s.setErase i x).tap = s.tap := rfl
@[simp] theorem State.setErase_outputs (s : State) (i : Nat) (x : Option Erase) : (s.setErase i x).outputs = s.outputs := rfl
@[simp] theorem State.setErase_pending (s : State) (i : Nat) (x : Option Erase) : (s.setErase i x).pending = s.pending := rfl
@[simp] theorem State.setErase_serving (s : State) (i : Nat) (x : Option Erase) : (s.setErase i x).serving = s.serving := rfl
@[simp] theorem State.setErase_port (s : State) (i : Nat) (x : Option Erase) (j : Nat) : (s.setErase i x).port j = s.port j := rfl
@[simp] theorem State.setErase_sub (s : State) (i : Nat) (x : Option Erase) (j : Nat) : (s.setErase i x).sub j = s.sub j := rfl
@[simp] theorem State.setErase_eng (s : State) (i : Nat) (x : Option Erase) (j : Nat) : (s.setErase i x).eng j = s.eng j := rfl
@[simp] theorem State.setErase_group (s : State) (i : Nat) (x : Option Erase) (j : Nat) : (s.setErase i x).group j = s.group j := rfl
@[simp] theorem State.setErase_phy (s : State) (i : Nat) (x : Option Erase) (j : Nat) : (s.setErase i x).phy j = s.phy j := rfl
@[simp] theorem State.setErase_fld (s : State) (i : Nat) (x : Option Erase) (g' : FRef) : (s.setErase i x).fld g' = s.fld g' := rfl
@[simp] theorem State.setErase_flag (s : State) (i : Nat) (x : Option Erase) (g' : FRef) : (s.setErase i x).flag g' = s.flag g' := rfl
@[simp] theorem State.setErase_word (s : State) (i : Nat) (x : Option Erase) (j : Nat) : (s.setErase i x).word j = s.word j := rfl

@[simp] theorem State.setTrack_mode (s : State) (i : Nat) (x : Option Track) : (s.setTrack i x).mode = s.mode := rfl
@[simp] theorem State.setTrack_sleepFrom (s : State) (i : Nat) (x : Option Track) : (s.setTrack i x).sleepFrom = s.sleepFrom := rfl
@[simp] theorem State.setTrack_resetN (s : State) (i : Nat) (x : Option Track) : (s.setTrack i x).resetN = s.resetN := rfl
@[simp] theorem State.setTrack_frozen (s : State) (i : Nat) (x : Option Track) : (s.setTrack i x).frozen = s.frozen := rfl
@[simp] theorem State.setTrack_build (s : State) (i : Nat) (x : Option Track) : (s.setTrack i x).build = s.build := rfl
@[simp] theorem State.setTrack_tempo (s : State) (i : Nat) (x : Option Track) : (s.setTrack i x).tempo = s.tempo := rfl
@[simp] theorem State.setTrack_wraps (s : State) (i : Nat) (x : Option Track) : (s.setTrack i x).wraps = s.wraps := rfl
@[simp] theorem State.setTrack_memReady (s : State) (i : Nat) (x : Option Track) : (s.setTrack i x).memReady = s.memReady := rfl
@[simp] theorem State.setTrack_regs (s : State) (i : Nat) (x : Option Track) : (s.setTrack i x).regs = s.regs := rfl
@[simp] theorem State.setTrack_stg (s : State) (i : Nat) (x : Option Track) : (s.setTrack i x).stg = s.stg := rfl
@[simp] theorem State.setTrack_views (s : State) (i : Nat) (x : Option Track) : (s.setTrack i x).views = s.views := rfl
@[simp] theorem State.setTrack_claims (s : State) (i : Nat) (x : Option Track) : (s.setTrack i x).claims = s.claims := rfl
@[simp] theorem State.setTrack_copies (s : State) (i : Nat) (x : Option Track) : (s.setTrack i x).copies = s.copies := rfl
@[simp] theorem State.setTrack_tabs (s : State) (i : Nat) (x : Option Track) : (s.setTrack i x).tabs = s.tabs := rfl
@[simp] theorem State.setTrack_tabsStg (s : State) (i : Nat) (x : Option Track) : (s.setTrack i x).tabsStg = s.tabsStg := rfl
@[simp] theorem State.setTrack_timers (s : State) (i : Nat) (x : Option Track) : (s.setTrack i x).timers = s.timers := rfl
@[simp] theorem State.setTrack_ports (s : State) (i : Nat) (x : Option Track) : (s.setTrack i x).ports = s.ports := rfl
@[simp] theorem State.setTrack_arbHolder (s : State) (i : Nat) (x : Option Track) : (s.setTrack i x).arbHolder = s.arbHolder := rfl
@[simp] theorem State.setTrack_arbDead (s : State) (i : Nat) (x : Option Track) : (s.setTrack i x).arbDead = s.arbDead := rfl
@[simp] theorem State.setTrack_reqs (s : State) (i : Nat) (x : Option Track) : (s.setTrack i x).reqs = s.reqs := rfl
@[simp] theorem State.setTrack_nextRid (s : State) (i : Nat) (x : Option Track) : (s.setTrack i x).nextRid = s.nextRid := rfl
@[simp] theorem State.setTrack_wbuf (s : State) (i : Nat) (x : Option Track) : (s.setTrack i x).wbuf = s.wbuf := rfl
@[simp] theorem State.setTrack_locks (s : State) (i : Nat) (x : Option Track) : (s.setTrack i x).locks = s.locks := rfl
@[simp] theorem State.setTrack_qes (s : State) (i : Nat) (x : Option Track) : (s.setTrack i x).qes = s.qes := rfl
@[simp] theorem State.setTrack_nextTag (s : State) (i : Nat) (x : Option Track) : (s.setTrack i x).nextTag = s.nextTag := rfl
@[simp] theorem State.setTrack_age (s : State) (i : Nat) (x : Option Track) : (s.setTrack i x).age = s.age := rfl
@[simp] theorem State.setTrack_subs (s : State) (i : Nat) (x : Option Track) : (s.setTrack i x).subs = s.subs := rfl
@[simp] theorem State.setTrack_engs (s : State) (i : Nat) (x : Option Track) : (s.setTrack i x).engs = s.engs := rfl
@[simp] theorem State.setTrack_groups (s : State) (i : Nat) (x : Option Track) : (s.setTrack i x).groups = s.groups := rfl
@[simp] theorem State.setTrack_rankTemps (s : State) (i : Nat) (x : Option Track) : (s.setTrack i x).rankTemps = s.rankTemps := rfl
@[simp] theorem State.setTrack_fault (s : State) (i : Nat) (x : Option Track) : (s.setTrack i x).fault = s.fault := rfl
@[simp] theorem State.setTrack_ring (s : State) (i : Nat) (x : Option Track) : (s.setTrack i x).ring = s.ring := rfl
@[simp] theorem State.setTrack_retained (s : State) (i : Nat) (x : Option Track) : (s.setTrack i x).retained = s.retained := rfl
@[simp] theorem State.setTrack_crypt (s : State) (i : Nat) (x : Option Track) : (s.setTrack i x).crypt = s.crypt := rfl
@[simp] theorem State.setTrack_mig (s : State) (i : Nat) (x : Option Track) : (s.setTrack i x).mig = s.mig := rfl
@[simp] theorem State.setTrack_migDone (s : State) (i : Nat) (x : Option Track) : (s.setTrack i x).migDone = s.migDone := rfl
@[simp] theorem State.setTrack_phys (s : State) (i : Nat) (x : Option Track) : (s.setTrack i x).phys = s.phys := rfl
@[simp] theorem State.setTrack_trims (s : State) (i : Nat) (x : Option Track) : (s.setTrack i x).trims = s.trims := rfl
@[simp] theorem State.setTrack_caTrims (s : State) (i : Nat) (x : Option Track) : (s.setTrack i x).caTrims = s.caTrims := rfl
@[simp] theorem State.setTrack_eyes (s : State) (i : Nat) (x : Option Track) : (s.setTrack i x).eyes = s.eyes := rfl
@[simp] theorem State.setTrack_book (s : State) (i : Nat) (x : Option Track) : (s.setTrack i x).book = s.book := rfl
@[simp] theorem State.setTrack_trains (s : State) (i : Nat) (x : Option Track) : (s.setTrack i x).trains = s.trains := rfl
@[simp] theorem State.setTrack_pendTrims (s : State) (i : Nat) (x : Option Track) : (s.setTrack i x).pendTrims = s.pendTrims := rfl
@[simp] theorem State.setTrack_eps (s : State) (i : Nat) (x : Option Track) : (s.setTrack i x).eps = s.eps := rfl
@[simp] theorem State.setTrack_power (s : State) (i : Nat) (x : Option Track) : (s.setTrack i x).power = s.power := rfl
@[simp] theorem State.setTrack_startup (s : State) (i : Nat) (x : Option Track) : (s.setTrack i x).startup = s.startup := rfl
@[simp] theorem State.setTrack_bist (s : State) (i : Nat) (x : Option Track) : (s.setTrack i x).bist = s.bist := rfl
@[simp] theorem State.setTrack_tap (s : State) (i : Nat) (x : Option Track) : (s.setTrack i x).tap = s.tap := rfl
@[simp] theorem State.setTrack_outputs (s : State) (i : Nat) (x : Option Track) : (s.setTrack i x).outputs = s.outputs := rfl
@[simp] theorem State.setTrack_pending (s : State) (i : Nat) (x : Option Track) : (s.setTrack i x).pending = s.pending := rfl
@[simp] theorem State.setTrack_serving (s : State) (i : Nat) (x : Option Track) : (s.setTrack i x).serving = s.serving := rfl
@[simp] theorem State.setTrack_port (s : State) (i : Nat) (x : Option Track) (j : Nat) : (s.setTrack i x).port j = s.port j := rfl
@[simp] theorem State.setTrack_sub (s : State) (i : Nat) (x : Option Track) (j : Nat) : (s.setTrack i x).sub j = s.sub j := rfl
@[simp] theorem State.setTrack_eng (s : State) (i : Nat) (x : Option Track) (j : Nat) : (s.setTrack i x).eng j = s.eng j := rfl
@[simp] theorem State.setTrack_group (s : State) (i : Nat) (x : Option Track) (j : Nat) : (s.setTrack i x).group j = s.group j := rfl
@[simp] theorem State.setTrack_phy (s : State) (i : Nat) (x : Option Track) (j : Nat) : (s.setTrack i x).phy j = s.phy j := rfl
@[simp] theorem State.setTrack_fld (s : State) (i : Nat) (x : Option Track) (g' : FRef) : (s.setTrack i x).fld g' = s.fld g' := rfl
@[simp] theorem State.setTrack_flag (s : State) (i : Nat) (x : Option Track) (g' : FRef) : (s.setTrack i x).flag g' = s.flag g' := rfl
@[simp] theorem State.setTrack_word (s : State) (i : Nat) (x : Option Track) (j : Nat) : (s.setTrack i x).word j = s.word j := rfl

@[simp] theorem State.setScrub_mode (s : State) (i : Nat) (x : Scrub) : (s.setScrub i x).mode = s.mode := rfl
@[simp] theorem State.setScrub_sleepFrom (s : State) (i : Nat) (x : Scrub) : (s.setScrub i x).sleepFrom = s.sleepFrom := rfl
@[simp] theorem State.setScrub_resetN (s : State) (i : Nat) (x : Scrub) : (s.setScrub i x).resetN = s.resetN := rfl
@[simp] theorem State.setScrub_frozen (s : State) (i : Nat) (x : Scrub) : (s.setScrub i x).frozen = s.frozen := rfl
@[simp] theorem State.setScrub_build (s : State) (i : Nat) (x : Scrub) : (s.setScrub i x).build = s.build := rfl
@[simp] theorem State.setScrub_tempo (s : State) (i : Nat) (x : Scrub) : (s.setScrub i x).tempo = s.tempo := rfl
@[simp] theorem State.setScrub_wraps (s : State) (i : Nat) (x : Scrub) : (s.setScrub i x).wraps = s.wraps := rfl
@[simp] theorem State.setScrub_memReady (s : State) (i : Nat) (x : Scrub) : (s.setScrub i x).memReady = s.memReady := rfl
@[simp] theorem State.setScrub_regs (s : State) (i : Nat) (x : Scrub) : (s.setScrub i x).regs = s.regs := rfl
@[simp] theorem State.setScrub_stg (s : State) (i : Nat) (x : Scrub) : (s.setScrub i x).stg = s.stg := rfl
@[simp] theorem State.setScrub_views (s : State) (i : Nat) (x : Scrub) : (s.setScrub i x).views = s.views := rfl
@[simp] theorem State.setScrub_claims (s : State) (i : Nat) (x : Scrub) : (s.setScrub i x).claims = s.claims := rfl
@[simp] theorem State.setScrub_copies (s : State) (i : Nat) (x : Scrub) : (s.setScrub i x).copies = s.copies := rfl
@[simp] theorem State.setScrub_tabs (s : State) (i : Nat) (x : Scrub) : (s.setScrub i x).tabs = s.tabs := rfl
@[simp] theorem State.setScrub_tabsStg (s : State) (i : Nat) (x : Scrub) : (s.setScrub i x).tabsStg = s.tabsStg := rfl
@[simp] theorem State.setScrub_timers (s : State) (i : Nat) (x : Scrub) : (s.setScrub i x).timers = s.timers := rfl
@[simp] theorem State.setScrub_ports (s : State) (i : Nat) (x : Scrub) : (s.setScrub i x).ports = s.ports := rfl
@[simp] theorem State.setScrub_arbHolder (s : State) (i : Nat) (x : Scrub) : (s.setScrub i x).arbHolder = s.arbHolder := rfl
@[simp] theorem State.setScrub_arbDead (s : State) (i : Nat) (x : Scrub) : (s.setScrub i x).arbDead = s.arbDead := rfl
@[simp] theorem State.setScrub_reqs (s : State) (i : Nat) (x : Scrub) : (s.setScrub i x).reqs = s.reqs := rfl
@[simp] theorem State.setScrub_nextRid (s : State) (i : Nat) (x : Scrub) : (s.setScrub i x).nextRid = s.nextRid := rfl
@[simp] theorem State.setScrub_wbuf (s : State) (i : Nat) (x : Scrub) : (s.setScrub i x).wbuf = s.wbuf := rfl
@[simp] theorem State.setScrub_locks (s : State) (i : Nat) (x : Scrub) : (s.setScrub i x).locks = s.locks := rfl
@[simp] theorem State.setScrub_qes (s : State) (i : Nat) (x : Scrub) : (s.setScrub i x).qes = s.qes := rfl
@[simp] theorem State.setScrub_nextTag (s : State) (i : Nat) (x : Scrub) : (s.setScrub i x).nextTag = s.nextTag := rfl
@[simp] theorem State.setScrub_age (s : State) (i : Nat) (x : Scrub) : (s.setScrub i x).age = s.age := rfl
@[simp] theorem State.setScrub_subs (s : State) (i : Nat) (x : Scrub) : (s.setScrub i x).subs = s.subs := rfl
@[simp] theorem State.setScrub_engs (s : State) (i : Nat) (x : Scrub) : (s.setScrub i x).engs = s.engs := rfl
@[simp] theorem State.setScrub_groups (s : State) (i : Nat) (x : Scrub) : (s.setScrub i x).groups = s.groups := rfl
@[simp] theorem State.setScrub_rankTemps (s : State) (i : Nat) (x : Scrub) : (s.setScrub i x).rankTemps = s.rankTemps := rfl
@[simp] theorem State.setScrub_fault (s : State) (i : Nat) (x : Scrub) : (s.setScrub i x).fault = s.fault := rfl
@[simp] theorem State.setScrub_ring (s : State) (i : Nat) (x : Scrub) : (s.setScrub i x).ring = s.ring := rfl
@[simp] theorem State.setScrub_retained (s : State) (i : Nat) (x : Scrub) : (s.setScrub i x).retained = s.retained := rfl
@[simp] theorem State.setScrub_crypt (s : State) (i : Nat) (x : Scrub) : (s.setScrub i x).crypt = s.crypt := rfl
@[simp] theorem State.setScrub_mig (s : State) (i : Nat) (x : Scrub) : (s.setScrub i x).mig = s.mig := rfl
@[simp] theorem State.setScrub_migDone (s : State) (i : Nat) (x : Scrub) : (s.setScrub i x).migDone = s.migDone := rfl
@[simp] theorem State.setScrub_phys (s : State) (i : Nat) (x : Scrub) : (s.setScrub i x).phys = s.phys := rfl
@[simp] theorem State.setScrub_trims (s : State) (i : Nat) (x : Scrub) : (s.setScrub i x).trims = s.trims := rfl
@[simp] theorem State.setScrub_caTrims (s : State) (i : Nat) (x : Scrub) : (s.setScrub i x).caTrims = s.caTrims := rfl
@[simp] theorem State.setScrub_eyes (s : State) (i : Nat) (x : Scrub) : (s.setScrub i x).eyes = s.eyes := rfl
@[simp] theorem State.setScrub_book (s : State) (i : Nat) (x : Scrub) : (s.setScrub i x).book = s.book := rfl
@[simp] theorem State.setScrub_trains (s : State) (i : Nat) (x : Scrub) : (s.setScrub i x).trains = s.trains := rfl
@[simp] theorem State.setScrub_pendTrims (s : State) (i : Nat) (x : Scrub) : (s.setScrub i x).pendTrims = s.pendTrims := rfl
@[simp] theorem State.setScrub_eps (s : State) (i : Nat) (x : Scrub) : (s.setScrub i x).eps = s.eps := rfl
@[simp] theorem State.setScrub_power (s : State) (i : Nat) (x : Scrub) : (s.setScrub i x).power = s.power := rfl
@[simp] theorem State.setScrub_startup (s : State) (i : Nat) (x : Scrub) : (s.setScrub i x).startup = s.startup := rfl
@[simp] theorem State.setScrub_bist (s : State) (i : Nat) (x : Scrub) : (s.setScrub i x).bist = s.bist := rfl
@[simp] theorem State.setScrub_tap (s : State) (i : Nat) (x : Scrub) : (s.setScrub i x).tap = s.tap := rfl
@[simp] theorem State.setScrub_outputs (s : State) (i : Nat) (x : Scrub) : (s.setScrub i x).outputs = s.outputs := rfl
@[simp] theorem State.setScrub_pending (s : State) (i : Nat) (x : Scrub) : (s.setScrub i x).pending = s.pending := rfl
@[simp] theorem State.setScrub_serving (s : State) (i : Nat) (x : Scrub) : (s.setScrub i x).serving = s.serving := rfl
@[simp] theorem State.setScrub_port (s : State) (i : Nat) (x : Scrub) (j : Nat) : (s.setScrub i x).port j = s.port j := rfl
@[simp] theorem State.setScrub_sub (s : State) (i : Nat) (x : Scrub) (j : Nat) : (s.setScrub i x).sub j = s.sub j := rfl
@[simp] theorem State.setScrub_eng (s : State) (i : Nat) (x : Scrub) (j : Nat) : (s.setScrub i x).eng j = s.eng j := rfl
@[simp] theorem State.setScrub_group (s : State) (i : Nat) (x : Scrub) (j : Nat) : (s.setScrub i x).group j = s.group j := rfl
@[simp] theorem State.setScrub_phy (s : State) (i : Nat) (x : Scrub) (j : Nat) : (s.setScrub i x).phy j = s.phy j := rfl
@[simp] theorem State.setScrub_fld (s : State) (i : Nat) (x : Scrub) (g' : FRef) : (s.setScrub i x).fld g' = s.fld g' := rfl
@[simp] theorem State.setScrub_flag (s : State) (i : Nat) (x : Scrub) (g' : FRef) : (s.setScrub i x).flag g' = s.flag g' := rfl
@[simp] theorem State.setScrub_word (s : State) (i : Nat) (x : Scrub) (j : Nat) : (s.setScrub i x).word j = s.word j := rfl

@[simp] theorem State.setStaged_mode (s : State) (k : Nat) (w : Word) : (s.setStaged k w).mode = s.mode := rfl
@[simp] theorem State.setStaged_sleepFrom (s : State) (k : Nat) (w : Word) : (s.setStaged k w).sleepFrom = s.sleepFrom := rfl
@[simp] theorem State.setStaged_resetN (s : State) (k : Nat) (w : Word) : (s.setStaged k w).resetN = s.resetN := rfl
@[simp] theorem State.setStaged_frozen (s : State) (k : Nat) (w : Word) : (s.setStaged k w).frozen = s.frozen := rfl
@[simp] theorem State.setStaged_build (s : State) (k : Nat) (w : Word) : (s.setStaged k w).build = s.build := rfl
@[simp] theorem State.setStaged_tempo (s : State) (k : Nat) (w : Word) : (s.setStaged k w).tempo = s.tempo := rfl
@[simp] theorem State.setStaged_wraps (s : State) (k : Nat) (w : Word) : (s.setStaged k w).wraps = s.wraps := rfl
@[simp] theorem State.setStaged_memReady (s : State) (k : Nat) (w : Word) : (s.setStaged k w).memReady = s.memReady := rfl
@[simp] theorem State.setStaged_regs (s : State) (k : Nat) (w : Word) : (s.setStaged k w).regs = s.regs := rfl
@[simp] theorem State.setStaged_views (s : State) (k : Nat) (w : Word) : (s.setStaged k w).views = s.views := rfl
@[simp] theorem State.setStaged_claims (s : State) (k : Nat) (w : Word) : (s.setStaged k w).claims = s.claims := rfl
@[simp] theorem State.setStaged_copies (s : State) (k : Nat) (w : Word) : (s.setStaged k w).copies = s.copies := rfl
@[simp] theorem State.setStaged_tabs (s : State) (k : Nat) (w : Word) : (s.setStaged k w).tabs = s.tabs := rfl
@[simp] theorem State.setStaged_tabsStg (s : State) (k : Nat) (w : Word) : (s.setStaged k w).tabsStg = s.tabsStg := rfl
@[simp] theorem State.setStaged_timers (s : State) (k : Nat) (w : Word) : (s.setStaged k w).timers = s.timers := rfl
@[simp] theorem State.setStaged_ports (s : State) (k : Nat) (w : Word) : (s.setStaged k w).ports = s.ports := rfl
@[simp] theorem State.setStaged_arbHolder (s : State) (k : Nat) (w : Word) : (s.setStaged k w).arbHolder = s.arbHolder := rfl
@[simp] theorem State.setStaged_arbDead (s : State) (k : Nat) (w : Word) : (s.setStaged k w).arbDead = s.arbDead := rfl
@[simp] theorem State.setStaged_reqs (s : State) (k : Nat) (w : Word) : (s.setStaged k w).reqs = s.reqs := rfl
@[simp] theorem State.setStaged_nextRid (s : State) (k : Nat) (w : Word) : (s.setStaged k w).nextRid = s.nextRid := rfl
@[simp] theorem State.setStaged_wbuf (s : State) (k : Nat) (w : Word) : (s.setStaged k w).wbuf = s.wbuf := rfl
@[simp] theorem State.setStaged_locks (s : State) (k : Nat) (w : Word) : (s.setStaged k w).locks = s.locks := rfl
@[simp] theorem State.setStaged_qes (s : State) (k : Nat) (w : Word) : (s.setStaged k w).qes = s.qes := rfl
@[simp] theorem State.setStaged_nextTag (s : State) (k : Nat) (w : Word) : (s.setStaged k w).nextTag = s.nextTag := rfl
@[simp] theorem State.setStaged_age (s : State) (k : Nat) (w : Word) : (s.setStaged k w).age = s.age := rfl
@[simp] theorem State.setStaged_subs (s : State) (k : Nat) (w : Word) : (s.setStaged k w).subs = s.subs := rfl
@[simp] theorem State.setStaged_engs (s : State) (k : Nat) (w : Word) : (s.setStaged k w).engs = s.engs := rfl
@[simp] theorem State.setStaged_groups (s : State) (k : Nat) (w : Word) : (s.setStaged k w).groups = s.groups := rfl
@[simp] theorem State.setStaged_rankTemps (s : State) (k : Nat) (w : Word) : (s.setStaged k w).rankTemps = s.rankTemps := rfl
@[simp] theorem State.setStaged_fault (s : State) (k : Nat) (w : Word) : (s.setStaged k w).fault = s.fault := rfl
@[simp] theorem State.setStaged_ring (s : State) (k : Nat) (w : Word) : (s.setStaged k w).ring = s.ring := rfl
@[simp] theorem State.setStaged_retained (s : State) (k : Nat) (w : Word) : (s.setStaged k w).retained = s.retained := rfl
@[simp] theorem State.setStaged_repair (s : State) (k : Nat) (w : Word) : (s.setStaged k w).repair = s.repair := rfl
@[simp] theorem State.setStaged_crypt (s : State) (k : Nat) (w : Word) : (s.setStaged k w).crypt = s.crypt := rfl
@[simp] theorem State.setStaged_mig (s : State) (k : Nat) (w : Word) : (s.setStaged k w).mig = s.mig := rfl
@[simp] theorem State.setStaged_migDone (s : State) (k : Nat) (w : Word) : (s.setStaged k w).migDone = s.migDone := rfl
@[simp] theorem State.setStaged_phys (s : State) (k : Nat) (w : Word) : (s.setStaged k w).phys = s.phys := rfl
@[simp] theorem State.setStaged_trims (s : State) (k : Nat) (w : Word) : (s.setStaged k w).trims = s.trims := rfl
@[simp] theorem State.setStaged_caTrims (s : State) (k : Nat) (w : Word) : (s.setStaged k w).caTrims = s.caTrims := rfl
@[simp] theorem State.setStaged_eyes (s : State) (k : Nat) (w : Word) : (s.setStaged k w).eyes = s.eyes := rfl
@[simp] theorem State.setStaged_book (s : State) (k : Nat) (w : Word) : (s.setStaged k w).book = s.book := rfl
@[simp] theorem State.setStaged_trains (s : State) (k : Nat) (w : Word) : (s.setStaged k w).trains = s.trains := rfl
@[simp] theorem State.setStaged_pendTrims (s : State) (k : Nat) (w : Word) : (s.setStaged k w).pendTrims = s.pendTrims := rfl
@[simp] theorem State.setStaged_eps (s : State) (k : Nat) (w : Word) : (s.setStaged k w).eps = s.eps := rfl
@[simp] theorem State.setStaged_power (s : State) (k : Nat) (w : Word) : (s.setStaged k w).power = s.power := rfl
@[simp] theorem State.setStaged_startup (s : State) (k : Nat) (w : Word) : (s.setStaged k w).startup = s.startup := rfl
@[simp] theorem State.setStaged_bist (s : State) (k : Nat) (w : Word) : (s.setStaged k w).bist = s.bist := rfl
@[simp] theorem State.setStaged_tap (s : State) (k : Nat) (w : Word) : (s.setStaged k w).tap = s.tap := rfl
@[simp] theorem State.setStaged_outputs (s : State) (k : Nat) (w : Word) : (s.setStaged k w).outputs = s.outputs := rfl
@[simp] theorem State.setStaged_pending (s : State) (k : Nat) (w : Word) : (s.setStaged k w).pending = s.pending := rfl
@[simp] theorem State.setStaged_serving (s : State) (k : Nat) (w : Word) : (s.setStaged k w).serving = s.serving := rfl
@[simp] theorem State.setStaged_port (s : State) (k : Nat) (w : Word) (j : Nat) : (s.setStaged k w).port j = s.port j := rfl
@[simp] theorem State.setStaged_sub (s : State) (k : Nat) (w : Word) (j : Nat) : (s.setStaged k w).sub j = s.sub j := rfl
@[simp] theorem State.setStaged_eng (s : State) (k : Nat) (w : Word) (j : Nat) : (s.setStaged k w).eng j = s.eng j := rfl
@[simp] theorem State.setStaged_group (s : State) (k : Nat) (w : Word) (j : Nat) : (s.setStaged k w).group j = s.group j := rfl
@[simp] theorem State.setStaged_phy (s : State) (k : Nat) (w : Word) (j : Nat) : (s.setStaged k w).phy j = s.phy j := rfl
@[simp] theorem State.setStaged_fld (s : State) (k : Nat) (w : Word) (g' : FRef) : (s.setStaged k w).fld g' = s.fld g' := rfl
@[simp] theorem State.setStaged_flag (s : State) (k : Nat) (w : Word) (g' : FRef) : (s.setStaged k w).flag g' = s.flag g' := rfl
@[simp] theorem State.setStaged_word (s : State) (k : Nat) (w : Word) (j : Nat) : (s.setStaged k w).word j = s.word j := rfl

@[simp] theorem State.advanceTo_sleepFrom (s : State) (d : Tempo) : (s.advanceTo d).sleepFrom = s.sleepFrom := by unfold State.advanceTo; split <;> rfl
@[simp] theorem State.advanceTo_memReady (s : State) (d : Tempo) : (s.advanceTo d).memReady = s.memReady := by unfold State.advanceTo; split <;> rfl
@[simp] theorem State.advanceTo_stg (s : State) (d : Tempo) : (s.advanceTo d).stg = s.stg := by unfold State.advanceTo; split <;> rfl
@[simp] theorem State.advanceTo_views (s : State) (d : Tempo) : (s.advanceTo d).views = s.views := by unfold State.advanceTo; split <;> rfl
@[simp] theorem State.advanceTo_claims (s : State) (d : Tempo) : (s.advanceTo d).claims = s.claims := by unfold State.advanceTo; split <;> rfl
@[simp] theorem State.advanceTo_copies (s : State) (d : Tempo) : (s.advanceTo d).copies = s.copies := by unfold State.advanceTo; split <;> rfl
@[simp] theorem State.advanceTo_tabs (s : State) (d : Tempo) : (s.advanceTo d).tabs = s.tabs := by unfold State.advanceTo; split <;> rfl
@[simp] theorem State.advanceTo_tabsStg (s : State) (d : Tempo) : (s.advanceTo d).tabsStg = s.tabsStg := by unfold State.advanceTo; split <;> rfl
@[simp] theorem State.advanceTo_timers (s : State) (d : Tempo) : (s.advanceTo d).timers = s.timers := by unfold State.advanceTo; split <;> rfl
@[simp] theorem State.advanceTo_arbHolder (s : State) (d : Tempo) : (s.advanceTo d).arbHolder = s.arbHolder := by unfold State.advanceTo; split <;> rfl
@[simp] theorem State.advanceTo_arbDead (s : State) (d : Tempo) : (s.advanceTo d).arbDead = s.arbDead := by unfold State.advanceTo; split <;> rfl
@[simp] theorem State.advanceTo_nextRid (s : State) (d : Tempo) : (s.advanceTo d).nextRid = s.nextRid := by unfold State.advanceTo; split <;> rfl
@[simp] theorem State.advanceTo_nextTag (s : State) (d : Tempo) : (s.advanceTo d).nextTag = s.nextTag := by unfold State.advanceTo; split <;> rfl
@[simp] theorem State.advanceTo_age (s : State) (d : Tempo) : (s.advanceTo d).age = s.age := by unfold State.advanceTo; split <;> rfl
@[simp] theorem State.advanceTo_rankTemps (s : State) (d : Tempo) : (s.advanceTo d).rankTemps = s.rankTemps := by unfold State.advanceTo; split <;> rfl
@[simp] theorem State.advanceTo_retained (s : State) (d : Tempo) : (s.advanceTo d).retained = s.retained := by unfold State.advanceTo; split <;> rfl
@[simp] theorem State.advanceTo_mig (s : State) (d : Tempo) : (s.advanceTo d).mig = s.mig := by unfold State.advanceTo; split <;> rfl
@[simp] theorem State.advanceTo_migDone (s : State) (d : Tempo) : (s.advanceTo d).migDone = s.migDone := by unfold State.advanceTo; split <;> rfl
@[simp] theorem State.advanceTo_trims (s : State) (d : Tempo) : (s.advanceTo d).trims = s.trims := by unfold State.advanceTo; split <;> rfl
@[simp] theorem State.advanceTo_caTrims (s : State) (d : Tempo) : (s.advanceTo d).caTrims = s.caTrims := by unfold State.advanceTo; split <;> rfl
@[simp] theorem State.advanceTo_eyes (s : State) (d : Tempo) : (s.advanceTo d).eyes = s.eyes := by unfold State.advanceTo; split <;> rfl
@[simp] theorem State.advanceTo_book (s : State) (d : Tempo) : (s.advanceTo d).book = s.book := by unfold State.advanceTo; split <;> rfl
@[simp] theorem State.advanceTo_trains (s : State) (d : Tempo) : (s.advanceTo d).trains = s.trains := by unfold State.advanceTo; split <;> rfl
@[simp] theorem State.advanceTo_pendTrims (s : State) (d : Tempo) : (s.advanceTo d).pendTrims = s.pendTrims := by unfold State.advanceTo; split <;> rfl
@[simp] theorem State.advanceTo_eps (s : State) (d : Tempo) : (s.advanceTo d).eps = s.eps := by unfold State.advanceTo; split <;> rfl
@[simp] theorem State.advanceTo_tap (s : State) (d : Tempo) : (s.advanceTo d).tap = s.tap := by unfold State.advanceTo; split <;> rfl

@[simp] theorem State.advanceLong_sleepFrom (s : State) (n : Nat) : (s.advanceLong n).sleepFrom = s.sleepFrom := by unfold State.advanceLong; split <;> rfl
@[simp] theorem State.advanceLong_memReady (s : State) (n : Nat) : (s.advanceLong n).memReady = s.memReady := by unfold State.advanceLong; split <;> rfl
@[simp] theorem State.advanceLong_stg (s : State) (n : Nat) : (s.advanceLong n).stg = s.stg := by unfold State.advanceLong; split <;> rfl
@[simp] theorem State.advanceLong_views (s : State) (n : Nat) : (s.advanceLong n).views = s.views := by unfold State.advanceLong; split <;> rfl
@[simp] theorem State.advanceLong_claims (s : State) (n : Nat) : (s.advanceLong n).claims = s.claims := by unfold State.advanceLong; split <;> rfl
@[simp] theorem State.advanceLong_copies (s : State) (n : Nat) : (s.advanceLong n).copies = s.copies := by unfold State.advanceLong; split <;> rfl
@[simp] theorem State.advanceLong_tabs (s : State) (n : Nat) : (s.advanceLong n).tabs = s.tabs := by unfold State.advanceLong; split <;> rfl
@[simp] theorem State.advanceLong_tabsStg (s : State) (n : Nat) : (s.advanceLong n).tabsStg = s.tabsStg := by unfold State.advanceLong; split <;> rfl
@[simp] theorem State.advanceLong_timers (s : State) (n : Nat) : (s.advanceLong n).timers = s.timers := by unfold State.advanceLong; split <;> rfl
@[simp] theorem State.advanceLong_arbHolder (s : State) (n : Nat) : (s.advanceLong n).arbHolder = s.arbHolder := by unfold State.advanceLong; split <;> rfl
@[simp] theorem State.advanceLong_arbDead (s : State) (n : Nat) : (s.advanceLong n).arbDead = s.arbDead := by unfold State.advanceLong; split <;> rfl
@[simp] theorem State.advanceLong_nextRid (s : State) (n : Nat) : (s.advanceLong n).nextRid = s.nextRid := by unfold State.advanceLong; split <;> rfl
@[simp] theorem State.advanceLong_nextTag (s : State) (n : Nat) : (s.advanceLong n).nextTag = s.nextTag := by unfold State.advanceLong; split <;> rfl
@[simp] theorem State.advanceLong_age (s : State) (n : Nat) : (s.advanceLong n).age = s.age := by unfold State.advanceLong; split <;> rfl
@[simp] theorem State.advanceLong_rankTemps (s : State) (n : Nat) : (s.advanceLong n).rankTemps = s.rankTemps := by unfold State.advanceLong; split <;> rfl
@[simp] theorem State.advanceLong_retained (s : State) (n : Nat) : (s.advanceLong n).retained = s.retained := by unfold State.advanceLong; split <;> rfl
@[simp] theorem State.advanceLong_mig (s : State) (n : Nat) : (s.advanceLong n).mig = s.mig := by unfold State.advanceLong; split <;> rfl
@[simp] theorem State.advanceLong_migDone (s : State) (n : Nat) : (s.advanceLong n).migDone = s.migDone := by unfold State.advanceLong; split <;> rfl
@[simp] theorem State.advanceLong_trims (s : State) (n : Nat) : (s.advanceLong n).trims = s.trims := by unfold State.advanceLong; split <;> rfl
@[simp] theorem State.advanceLong_caTrims (s : State) (n : Nat) : (s.advanceLong n).caTrims = s.caTrims := by unfold State.advanceLong; split <;> rfl
@[simp] theorem State.advanceLong_eyes (s : State) (n : Nat) : (s.advanceLong n).eyes = s.eyes := by unfold State.advanceLong; split <;> rfl
@[simp] theorem State.advanceLong_book (s : State) (n : Nat) : (s.advanceLong n).book = s.book := by unfold State.advanceLong; split <;> rfl
@[simp] theorem State.advanceLong_trains (s : State) (n : Nat) : (s.advanceLong n).trains = s.trains := by unfold State.advanceLong; split <;> rfl
@[simp] theorem State.advanceLong_pendTrims (s : State) (n : Nat) : (s.advanceLong n).pendTrims = s.pendTrims := by unfold State.advanceLong; split <;> rfl
@[simp] theorem State.advanceLong_eps (s : State) (n : Nat) : (s.advanceLong n).eps = s.eps := by unfold State.advanceLong; split <;> rfl
@[simp] theorem State.advanceLong_tap (s : State) (n : Nat) : (s.advanceLong n).tap = s.tap := by unfold State.advanceLong; split <;> rfl

end Sys2Proof.Machine
end

