-- ==== Sys2Proof/Laws/Exec.lean ====
section
/-! SUPPORT. What each way to run a command answers: the one lemma per shared form that a proof about a command cites. -/

namespace Sys2Proof.Machine

open Sys2Proof

/-! ## A command in service -/

theorem act_next {s : State} (h : s.serving = true) (f : State → State) : act s f = .next (s.done (f s)) := by simp [act, h]

theorem serve_next {s : State} (h : s.serving = true) (f : State → State) : serve s f = .next (keepPins s (f s)) := by simp [serve, h]

theorem actIf_next {s : State} {b : Bool} (hb : b = true) (h : s.serving = true) (f : State → State) : actIf b s f = .next (s.done (f s)) := by
  simp [actIf, act, h, hb]

theorem serveIf_next {s : State} {b : Bool} (hb : b = true) (h : s.serving = true) (f : State → State) :
    serveIf b s f = .next (keepPins s (f s)) := by simp [serveIf, serve, h, hb]

/-! What no command in service changes. -/

@[simp] theorem keepPins_build (s u : State) : (keepPins s u).build = s.build := rfl
@[simp] theorem keepPins_resetN (s u : State) : (keepPins s u).resetN = s.resetN := rfl
@[simp] theorem keepPins_pending (s u : State) : (keepPins s u).pending = s.pending := rfl
@[simp] theorem done_build (s u : State) : (s.done u).build = s.build := keepPins_build s (s.after u)
@[simp] theorem done_resetN (s u : State) : (s.done u).resetN = s.resetN := keepPins_resetN s (s.after u)
@[simp] theorem done_pending (s u : State) : (s.done u).pending = s.pending := keepPins_pending s (s.after u)

/-! ## A command in any state -/

theorem act_shape {s t : State} {f : State → State} (h : act s f = .next t) :
    (s.serving = true ∧ ∃ u, t = keepPins s u) ∨ (s.serving = false ∧ t = s) := by
  unfold act at h; split at h
  · rename_i hs; exact .inl ⟨hs, s.after (f s), (Host.Outcome.next.inj h).symm⟩
  · rename_i hs; exact .inr ⟨by simpa using hs, (Host.Outcome.next.inj h).symm⟩

theorem actIf_shape {b : Bool} {s t : State} {f : State → State} (h : actIf b s f = .next t) :
    (s.serving = true ∧ ∃ u, t = keepPins s u) ∨ (s.serving = false ∧ t = s) := by
  unfold actIf at h; split at h
  · exact act_shape h
  · cases h

theorem serve_shape {s t : State} {f : State → State} (h : serve s f = .next t) :
    (s.serving = true ∧ ∃ u, t = keepPins s u) ∨ (s.serving = false ∧ t = s) := by
  unfold serve at h; split at h
  · rename_i hs; cases h; exact .inl ⟨hs, _, rfl⟩
  · rename_i hs; cases h; exact .inr ⟨by simpa using hs, rfl⟩

/-- A command but the reset's and the test port's: in service it keeps the pins, else it does nothing. -/
theorem exec_shape (c : Instr) (s t : State) (h : exec c s = .next t) (h1 : isReset c = false) (h2 : isTap c = false) :
    (s.serving = true ∧ ∃ u, t = keepPins s u) ∨ (s.serving = false ∧ t = s) := by
  cases c
  all_goals simp only [
    exec, request, receive, ringAct, execRd, execWr, execWrp, execRdl, execWru, execUlk, execAfadd, execAswp, execAcas, execAor,
    execAand, execFlush, execWriteDataFlit, execResponseSend, execNegativeAcknowledge, execResponseRelease, execHpResetRise,
    execHpResetFall, execPanicRise, execPanicFall, execArbiterGrant, execDeadlineClamp, execLockTimeout, execProposalPlace,
    execLatticeTick, execProposalLifeExpiry, execAccept, execRefuse, execCommandIssue, execWriteAlertWindowClose, execDrainStart,
    execGambitIdleTimeout, execRtBucketRefill, execReadDataReturn, execMrcmdMrr, execMrcmdMrw, execZqcalStartDue, execZqcalLatchDue,
    execRefreshIncrement, execMr4Poll, execAlertN, execParWinExpiry, execScrubLineDue, execScrubPassStart, execTrackerWindowExpiry,
    execDeviceCountDecay, execEccsInjArm, execRmreq, execErsreq, execRemapCopyComplete, execCastle, execRetire, execPllLock,
    execPllLockTimeout, execPllLossOfLock, execRelockCheckDone, execPhyZqRecal, execTempSample, execIdleGapTrimApply, execGapInsert,
    execDramInitDone, execTrainStepDone, execPprEntryDone, execFillLineWrite, execSpdReadDone, execPmicPgoodTimeout, execThermalPoll,
    execSideDxferRead, execSideDxferWrite, execEpPassStart, execEpRunDone, execEpProbeWaitExpiry, execEpRunTimeout, execLoad, execClear,
    execClearAll, execKeySlotChangeComplete, execTamperRise, execBypass, execIdcode, execSamplePreload, execExtest, execScanEn,
    execVreqComplete, execVreqTimeout, execPwrGoodFall, execPgoodDownTimeout, execVloopWindow, execIdleTimerExpiry, execVoteAgree,
    execVoteRefuse, execVoteWithdraw, execVoteTimeout, execSleepEntryComplete, execWakeEvent, execWakeComplete, execCoreIdleRegate,
    execTileResetRelease, execTileResetAssert, execBootGo, execGoActedOn, execShutdownRequest, execEndgameDrainComplete,
    execEndgameDrainTimeout, execBistSliceDone, execBistSliceBudgetExpiry, execFaultReport, execCaptureWindowClose, execCheckTimerExpiry,
    execFaultStatusClear, execFirstFaultClear, execForce, execLogPop, execBengDataAccess, execPprw1Access, execSpddatRead, execCommit,
    execCommitSafePoint, execClaim, execRelease, execClaimIdleTimeout, execAgentReset, execTargetResetPattern, execSidebandWrite,
    execSidebandRead, execRegisterWrite, execDisc, execDiscDone, execDiscReq, execDiscRepeatTimer, execDiscLoopTimeout, execMapOffer,
    execMapOfferReturn, execMapOfferTimeout, execMapCommit, execMapSwitch, execMapAbort, execMapRetire, execMapRetireGo,
    execRetTmoExpiry, execMigrationGo, execMigrationCopyLine, execFwdReq, execFwdWd, execFwdRsp, execMirrorWr, execMirrorAck,
    execMirrorRd, execMirrorData, execRefToken, execTokenHoldExpiry, execTokenReturnTimeout, execFaultNote, execLinkDown,
    execLinkAckTimeout, execRingFlitError, execRingUnknownType, execRingDeflect, execRspTmoExpiry, execPwrGoodRise, execVoutModeReadDone,
    execPmicPowerGood, execSideDxferDone, execPhyImpedanceCalibrationDone, execDynamicAddressAssignment] at h
  all_goals first
    | with_reducible exact actIf_shape h
    | with_reducible exact act_shape h
    | with_reducible exact serve_shape h
    | (simp [isReset] at h1; done)
    | simp [isTap] at h2

theorem tapTakes_frame (s : State) (ir : Nat) : { s.tapTakes ir with tap := s.tap, outputs := s.outputs, frozen := s.frozen } = s := by
  unfold State.tapTakes; split <;> rfl

/-- What a command of the test port does to the tile. -/
theorem tap_shape (c : Instr) (s t : State) (h : exec c s = .next t) (h2 : isTap c = true) :
    (s.serving = true ∧ ∃ u, t = keepPins s u) ∨ ({ t with tap := s.tap, outputs := s.outputs, frozen := s.frozen } = s ∧ (s.frozen = true → t.frozen = true)) := by
  cases c <;> simp only [isTap, Bool.false_eq_true] at h2
  · simp only [exec, execBypass] at h; cases h; exact .inr ⟨rfl, fun h => h⟩
  · simp only [exec, execIdcode] at h; cases h; exact .inr ⟨rfl, fun h => h⟩
  · simp only [exec, execSamplePreload] at h; cases h; exact .inr ⟨rfl, fun h => h⟩
  all_goals
    simp only [exec, execExtest, execScanEn, scan] at h
    split at h
    · rename_i hs; cases h; exact .inl ⟨hs, _, rfl⟩
    · cases h; exact .inr ⟨tapTakes_frame s _, fun _ => by unfold State.tapTakes; split <;> rfl⟩

/-! ## The idle step -/

theorem idle_frame (s : State) : { idleStep s with tempo := s.tempo, wraps := s.wraps } = s := by
  unfold idleStep State.advanceLong; split <;> rfl

theorem idle_pending (s : State) : (idleStep s).pending = s.pending := by unfold idleStep State.advanceLong; split <;> rfl

theorem idle_build (s : State) : (idleStep s).build = s.build := by unfold idleStep State.advanceLong; split <;> rfl

end Sys2Proof.Machine
end

