-- ==== Sys2Proof/Laws/Field.lean ====
section
/-! SUPPORT. Register fields within a word, bit by bit. -/

namespace Sys2Proof.Machine

open Sys2Proof

/-- A field's value, bit by bit. -/
theorem FRef.get_testBit (f : FRef) (w : Word) (i : Nat) : (f.get w).testBit i = (decide (i < f.hi + 1 - f.lo) && w.getLsbD (f.lo + i)) := by
  simp [FRef.get, Nat.testBit_mod_two_pow, Nat.testBit_shiftRight, BitVec.getLsbD]

/-- A word made of a number, bit by bit. -/
theorem ofNat_bit (x i : Nat) (hi : i < 32) : (BitVec.ofNat 32 x).getLsbD i = x.testBit i := by
  rw [BitVec.getLsbD_ofNat]; simp [hi]

/-- A field's mask covers its bits. -/
theorem FRef.mask_bit (f : FRef) (i : Nat) (hi : i < 32) : f.mask.getLsbD i = (decide (f.lo ≤ i) && decide (i - f.lo < f.hi + 1 - f.lo)) := by
  unfold FRef.mask
  rw [ofNat_bit _ _ hi, Nat.testBit_shiftLeft, Nat.testBit_two_pow_sub_one]

/-- A word after a field is put into it, bit by bit. -/
theorem FRef.put_bit (f : FRef) (w : Word) (v i : Nat) (hi : i < 32) : (f.put w v).getLsbD i = ((w.getLsbD i && !f.mask.getLsbD i) || ((v <<< f.lo).testBit i && f.mask.getLsbD i)) := by
  unfold FRef.put
  rw [BitVec.getLsbD_or, BitVec.getLsbD_and, BitVec.getLsbD_and, BitVec.getLsbD_not, ofNat_bit _ _ hi]; simp [hi]

/-- A field read from a word it was put into, cut to its width. -/
theorem FRef.get_put_same (f : FRef) (w : Word) (v : Nat) (h : f.lo ≤ f.hi) (h2 : f.hi < 32) : f.get (f.put w v) = v % 2 ^ (f.hi + 1 - f.lo) := by
  apply Nat.eq_of_testBit_eq
  intro i
  rw [FRef.get_testBit, Nat.testBit_mod_two_pow]
  by_cases hi : i < f.hi + 1 - f.lo
  · have : f.lo + i < 32 := by omega
    rw [FRef.put_bit _ _ _ _ this, FRef.mask_bit _ _ this, Nat.testBit_shiftLeft]; simp [hi]
  · simp [hi]

/-- A field that shares no bit with the one put. -/
theorem FRef.get_put_disj (f g : FRef) (w : Word) (v : Nat) (h : f.hi < 32) (h4 : g.hi < 32) (h5 : f.hi < g.lo ∨ g.hi < f.lo) : g.get (f.put w v) = g.get w := by
  apply Nat.eq_of_testBit_eq
  intro i
  rw [FRef.get_testBit, FRef.get_testBit]
  by_cases hi : i < g.hi + 1 - g.lo
  · have : g.lo + i < 32 := by omega
    have hm : (f.mask.getLsbD (g.lo + i)) = false := by
      rw [FRef.mask_bit _ _ this]
      rcases h5 with h | h
      · have : ¬ (g.lo + i - f.lo < f.hi + 1 - f.lo) := by omega
        simp [this]
      · have : ¬ (f.lo ≤ g.lo + i) := by omega
        simp [this]
    rw [FRef.put_bit _ _ _ _ this, hm]; simp [hi]
  · simp [hi]

end Sys2Proof.Machine
end

