-- ==== Sys2Proof/Laws/Pages.lean ====
section
/-! SUPPORT. Register pages and key slots: a register write that has an effect of its own, and a slot after an update. -/

namespace Sys2Proof.Machine

open Sys2Proof

@[simp] theorem State.slot_setSlot (s : State) (k j : Nat) (x : Slot) : (s.setSlot k x).slot j = if j = k then x else s.slot j := by
  unfold State.slot State.setSlot
  by_cases h : j = k
  · subst h; simp
  · simp [h, tget_tput_ne]

/-- A write of a register with an effect of its own, on a page nobody claims: the effect, answered OK. -/
theorem State.mgtWrite_own {s s' : State} {agent : BitVec 4} {p key off : Nat} {w : Word} {v1 v2} (h : s.pageFree agent p) (hk : key = p * 0x1000 + off) (ho : off < 0x1000) (ho2 : 0x40 ≤ off)
   (hb : s.pageBuilt p = true) (hp : p < 0x1C) (h6 : p = 6 → agent.toNat = 3) (hno : ¬ (p = 0x13 ∧ off = 0x044) ∧ ¬ (p = 0x15 ∧ (off = 0x06C ∨ off = 0x070)))
   (hw : s.ownWrite agent.toNat p off w v1 v2 = some s') (hm : s'.mode ≠ .sleep) : s.mgtWrite agent.toNat key w v1 v2 = s'.okAck := by
  obtain ⟨g1, g2, g3, g4⟩ := h
  unfold State.mgtWrite
  simp only [g3, Bool.not_true, Bool.false_eq_true, if_false]
  unfold State.busWrite
  have e1 : key / 0x1000 = p := by omega
  have e2 : key % 0x1000 = off := by omega
  rw [e1, e2]
  rw [if_neg (by omega)]
  have w1 : s.wakeAccess p 4 = s := by unfold State.wakeAccess; rw [if_pos (.inr (.inr g2))]
  have w2 : s.touchClaim agent.toNat p = s := by unfold State.touchClaim; rw [g4]
  have w3 : s.heldByOther agent.toNat p = false := by unfold State.heldByOther; rw [g4]
  simp only [w1, w2]
  unfold State.writeBody
  rw [if_neg (by omega), if_neg (by omega), if_neg (by omega), if_neg (by simp [hb]), if_neg (by rintro ⟨a, b, c⟩; exact c (h6 a)), if_neg hno.1, if_neg hno.2]
  simp only [w3, hw, Bool.false_and, Bool.false_eq_true, if_false]
  have : s'.wakeWork = s' := by unfold State.wakeWork; rw [if_neg (by intro h; exact hm h.1)]
  rw [this]; rfl

end Sys2Proof.Machine
end

