-- ==== Sys2Proof/WellFormed.lean ====
section
/-! DEFINITION. Which operands a command's row allows: numbers of units within the largest configuration (R3), lists of the length the
spec gives, points of a sweep in order. Whether a unit was built is a matter of the state. -/

namespace Sys2Proof

/-- Port 0 to 7. -/
def okPort (p : Nat) : Bool := decide (p < 8)

/-- A request at port 0 to 7; an opcode of the flit's own is one R34 does not list. -/
def okRq (p : Nat) (f : RqFlit) : Bool :=
  okPort p && (match f.xop with | some c => !listedCodes.contains c.toNat | none => true)

/-- Channel 0 to 3. -/
def okChan (c : Nat) : Bool := decide (c < 4)

/-- Subchannel 0 to 7, numbered 2 * channel + subchannel. -/
def okSub (sc : Nat) : Bool := decide (sc < 8)

/-- R180: bank engine 0 to 511. -/
def okEng (b : Nat) : Bool := decide (b < 512)

/-- A register page: its number has five bits (R514). -/
def okPage (p : Nat) : Bool := decide (p < 32)

/-- A run of points in order. -/
def okRun (r : LaneRun) : Bool := decide (r.first ≤ r.last)

/-- A report of the ALERT_n sequence names a rank of the channel. -/
def okRep (r : AlertRep) : Bool := decide (r.sck < 2) && decide (r.rk < 2)

/-- A ring message: TYPE is a byte, DST and SRC have 5 bits, LEN at most 48, MSEQ 12 bits, DEFL 8 (R139). -/
def okMsg (m : RingMsg) : Bool :=
  decide (m.type < 32) && decide (m.dst < 32) && decide (m.src < 32) && decide (m.len = m.payload.length) && decide (m.len ≤ 48) &&
  decide (m.mseq < 4096) && decide (m.defl < 256) && decide (m.arg < 2 ^ 86)

/-- What a training step measured: runs in order. -/
def okTrain (x : TrainRes) : Bool := x.runs.all okRun && x.wruns.all okRun

/-- The operands of a command are those its row allows. -/
def Instr.wf (i : Instr) : Bool :=
  match i with
  | .rd p f | .wr p f | .wrp p f | .rdl p f | .wru p f | .ulk p f | .afadd p f | .aswp p f | .acas p f | .aor p f | .aand p f | .flush p f => okRq p f
  | .writeDataFlit p _ | .responseSend p _ | .negativeAcknowledge p _ | .responseRelease p _ => okPort p
  | .hpResetRise p | .hpResetFall p | .panicRise p | .panicFall p => okPort p
  | .lockTimeout i => decide (i < 16)
  | .proposalPlace sc | .latticeTick sc | .proposalLifeExpiry sc | .accept sc | .refuse sc => okSub sc
  | .commandIssue sc _ | .writeAlertWindowClose sc | .drainStart sc | .rtBucketRefill sc | .readDataReturn sc _ => okSub sc
  | .gambitIdleTimeout b => okEng b
  | .zqcalStartDue sc _ | .zqcalLatchDue sc _ | .refreshIncrement sc _ _ | .parWinExpiry sc => okSub sc
  | .alertN c reps => okChan c && reps.all okRep
  | .scrubLineDue c | .scrubPassStart c => okChan c
  | .trackerWindowExpiry i => decide (i < 32)
  | .remapCopyComplete i _ _ => decide (i < 16)
  | .pllLock c | .pllLockTimeout c | .pllLossOfLock c | .phyZqRecal c _ _ | .tempSample c _ => okChan c
  | .relockCheckDone c _ runs => okChan c && runs.all okRun
  | .idleGapTrimApply sc | .gapInsert sc => okSub sc
  | .dramInitDone c | .fillLineWrite c => okChan c
  | .trainStepDone sc res => okSub sc && okTrain res
  | .pprEntryDone n _ _ => decide (n < 64)
  | .spdReadDone c outcome words => okChan c && decide (outcome ≠ 0) && decide (words.length = 256)
  | .pmicPgoodTimeout c | .pmicPowerGood c | .phyImpedanceCalibrationDone c _ _ => okChan c
  | .thermalPoll mods => decide (mods.length = 4)
  | .epPassStart c => okChan c
  | .epRunDone sc _ a b => okSub sc && a.all okRun && b.all okRun
  | .epProbeWaitExpiry sc _ | .epRunTimeout sc _ => okSub sc
  | .keySlotChangeComplete k _ _ => decide (1 ≤ k) && decide (k < 256)
  | .voteAgree v | .voteRefuse v | .voteWithdraw v => decide (v < 8)
  | .force _ page _ | .commit _ page _ | .commitSafePoint page | .claim _ page | .release _ page | .claimIdleTimeout page => okPage page
  | .faultReport src loc aux _ addr => decide (src < 64) && decide (loc < 256) && decide (aux < 2 ^ 16) && decide (addr < 2 ^ 46)
  | .mapOffer _ _ _ _ _ _ _ words => decide (words.length = 192)
  | .ringDeflect _ msg => okMsg msg
  | .arbiterGrant | .deadlineClamp _ | .mrcmdMrr _ _ _ _ _ | .mrcmdMrw _ _ _ _ _ _ | .mr4Poll | .deviceCountDecay | .eccsInjArm _ _ => true
  | .rmreq _ _ _ _ _ _ | .ersreq _ _ _ _ _ | .castle _ _ | .retire _ _ | .sideDxferRead _ _ _ _ | .sideDxferWrite _ _ _ _ _ => true
  | .load _ | .clear _ | .clearAll _ _ _ | .tamperRise _ _ | .bypass | .idcode | .samplePreload _ | .extest _ _ | .scanEn _ _ => true
  | .vreqComplete | .vreqTimeout _ | .pwrGoodFall | .pgoodDownTimeout | .vloopWindow _ | .idleTimerExpiry | .voteTimeout => true
  | .sleepEntryComplete | .wakeEvent _ | .wakeComplete | .coreIdleRegate | .tileResetRelease _ | .tileResetAssert => true
  | .bootGo _ | .goActedOn | .shutdownRequest _ | .endgameDrainComplete _ _ | .endgameDrainTimeout _ _ | .bistSliceDone _ => true
  | .bistSliceBudgetExpiry | .captureWindowClose _ _ | .checkTimerExpiry | .faultStatusClear _ _ _ | .firstFaultClear _ | .logPop _ _ => true
  | .bengDataAccess _ _ | .pprw1Access _ _ | .spddatRead _ | .agentReset _ | .targetResetPattern | .sidebandWrite _ => true
  | .sidebandRead _ _ _ | .registerWrite _ _ _ _ _ => true
  | .disc _ _ _ _ | .discDone _ _ | .discReq _ | .discRepeatTimer | .discLoopTimeout | .mapOfferReturn _ _ _ | .mapOfferTimeout => true
  | .mapCommit _ _ _ | .mapSwitch | .mapAbort _ _ _ | .mapRetire _ _ _ | .mapRetireGo _ | .retTmoExpiry | .migrationGo _ _ _ _ => true
  | .migrationCopyLine | .fwdReq _ _ _ _ _ _ _ _ _ | .fwdWd _ _ _ _ _ | .fwdRsp _ _ _ _ _ _ _ | .mirrorWr _ _ _ _ _ _ => true
  | .mirrorAck _ _ _ | .mirrorRd _ _ _ _ _ | .mirrorData _ _ _ _ | .refToken _ _ | .tokenHoldExpiry _ | .tokenReturnTimeout _ => true
  | .faultNote _ _ _ _ _ | .linkDown _ _ _ _ | .linkAckTimeout _ | .ringFlitError _ _ | .ringUnknownType _ | .rspTmoExpiry _ => true
  | .pwrGoodRise | .voutModeReadDone _ | .sideDxferDone _ _ | .dynamicAddressAssignment _ => true

end Sys2Proof
end

