-- ==== Sys2Proof/Tests/Slice0.lean ====
section
/-! SUPPORT. Tests. First an ill-formed term for each check of well-formedness, then one-step tests with expected results worked out from
the spec, then for every statement a state and operands that meet its hypotheses, clause by clause, on small states built by the helpers
below. -/

namespace Sys2Proof.Tests

set_option Elab.async false

open Sys2Proof Sys2Proof.Machine

/-! ## Helper states -/

/-- A tile in service with nothing to do. -/
def tile : State := { State.reset with mode := .service, memReady := true }

/-- Channel 0 of a tile trained, its PLL locked. -/
def ready (s : State) : State := s.setPhy 0 { phy0 with pll := .locked, phase := .passed, resetN := true }

def rt : State := ready tile

/-- A tile of a numbered ring of four. -/
def num : State := (rt.setFld Reg.RING_STAT_NUMBERED 1).setFld Reg.RING_STAT_TILES 4

def flit : RqFlit := ⟨0, 0, 5, 0, 0, 100, false, false, false, 0, 0, 0, none⟩

/-- A request accepted at port 0. -/
def req (op : Op) (st : Stage) : Req :=
  ⟨7, .port 0, op, flit, 0, 0, 200, 200, false, false, st, false, 1, 0, 1, 0, [], [], false, false⟩

def place : Loc := ⟨0, 0, 0, 3, 9, 2, 66⟩

/-- A queue entry of that request. -/
def entry : QE := { mkQE false .host place 200 with tag := 4, rid := 7, port := 0, age := 3 }

def issue (c : Cmd) : Issue := ⟨c, 0, 3, 9, 2, 4, 10, 4, 0, 0, 0⟩
def rsp : Rsp := ⟨7, 0, 5, 0, .ok, false, 0, true, 0⟩
def report (src : Nat) (t : Tempo) : Report := ⟨t, src, 0, 0, false, 0, false, false, false⟩
def withReq (s : State) (r : Req) : State := { s with reqs := [r], nextRid := 8 }
def withQE (s : State) (q : QE) : State := { s with qes := [q], nextTag := 5, age := 5 }
def withSub (s : State) (f : Sub → Sub) : State := s.setSub 0 (f sub0)
def withPower (s : State) (f : Power → Power) : State := { s with power := f s.power }
def withRing (s : State) (f : RingSt → RingSt) : State := { s with ring := f s.ring }
def withFault (s : State) (f : FaultSt → FaultSt) : State := { s with fault := f s.fault }

/-- Entry 0 of the map gives blocks 0 to 15 to channel 0 of this tile. -/
def mapped (s : State) : State :=
  ((s.setWord (blockKey 0 1) 15).setWord (blockKey 0 2) 0x100).setFld (Reg.GLOB_FILLWM_WM 0) 1000

/-- The words of an offer of that map. -/
def okWords : List Word := (List.range 192).map (fun i => if i = 1 then 15 else if i = 2 then 0x100 else 0)

def await (t w : Nat) : Await := ⟨7, t, 3, w, 0, false, ⟨t, 3, 0, false, 0, 7, 0, 0, []⟩⟩
def msg0 : RingMsg := ⟨8, 3, 0, false, 0, 7, 0, 0, []⟩

/-- The state a command leads to. -/
def after (c : Instr) (s : State) : State :=
  match exec c s with
  | .next t => t
  | _ => State.reset

/-- Some report names this source. -/
def reported (s : State) (n : Nat) : Bool := s.fault.reports.any (fun r => r.src == n)

/-! ## Well-formedness: an ill-formed term for each check -/

theorem test_wf_port : (Instr.rd 8 flit).wf = false ∧ (Instr.rd 7 flit).wf = true := by decide
theorem test_wf_op : (Instr.rd 0 { flit with xop := some 3 }).wf = false := by decide
theorem test_wf_port_channel : (Instr.writeDataFlit 8 ⟨0, 0, 0, 0⟩).wf = false := by decide
theorem test_wf_port_pin : (Instr.panicRise 8).wf = false := by decide
theorem test_wf_lock : (Instr.lockTimeout 16).wf = false := by decide
theorem test_wf_sub : (Instr.latticeTick 8).wf = false ∧ (Instr.commandIssue 8 0).wf = false ∧ (Instr.parWinExpiry 8).wf = false := by decide
theorem test_wf_eng : (Instr.gambitIdleTimeout 512).wf = false := by decide
theorem test_wf_alert : (Instr.alertN 4 []).wf = false ∧ (Instr.alertN 0 [⟨2, 0, false, false, false⟩]).wf = false := by decide
theorem test_wf_chan : (Instr.scrubLineDue 4).wf = false ∧ (Instr.pllLock 4).wf = false ∧ (Instr.epPassStart 4).wf = false := by decide
theorem test_wf_tracker : (Instr.trackerWindowExpiry 32).wf = false := by decide
theorem test_wf_remap : (Instr.remapCopyComplete 16 [] []).wf = false := by decide
theorem test_wf_relock : (Instr.relockCheckDone 0 true [⟨0, 1, 0⟩]).wf = false := by decide
theorem test_wf_train : (Instr.trainStepDone 0 ⟨true, [⟨0, 5, -5⟩], [], [], [], [], [], 0, 0⟩).wf = false := by decide
theorem test_wf_ppr : (Instr.pprEntryDone 64 true true).wf = false := by decide
theorem test_wf_spd : (Instr.spdReadDone 0 0 (List.replicate 256 0)).wf = false ∧ (Instr.spdReadDone 0 1 []).wf = false := by decide
theorem test_wf_thermal : (Instr.thermalPoll []).wf = false := by decide
theorem test_wf_run : (Instr.epRunDone 0 0 [] [⟨0, 2, 1⟩]).wf = false := by decide
theorem test_wf_slot : (Instr.keySlotChangeComplete 0 true true).wf = false ∧ (Instr.keySlotChangeComplete 256 true true).wf = false := by decide
theorem test_wf_voter : (Instr.voteAgree 8).wf = false := by decide
theorem test_wf_page : (Instr.claim 0 32).wf = false := by decide
theorem test_wf_report : (Instr.faultReport 64 0 0 false 0).wf = false ∧ (Instr.faultReport 0 0 0 false (2 ^ 46)).wf = false := by decide
theorem test_wf_offer : (Instr.mapOffer 0 0 0 0 false 0 0 []).wf = false := by decide
theorem test_wf_message : (Instr.ringDeflect .cw { msg0 with len := 1 }).wf = false := by decide

/-! ## One step, with what the spec gives -/

/-- R43: 100 units of 2 ns after the request edge. -/
theorem test_rd_deadline : (after (.rd 0 flit) tile).reqs.map (·.dl) = [200] := by decide +kernel

/-- R5, R42: HALTED in HALT. -/
theorem test_halt_answers : ((after (.wr 0 flit) { tile with mode := .halt }).port 0).ready.map (·.status) = [.halted] := by decide +kernel

/-- R60: sequence numbers restart at 0. -/
theorem test_port_restart : ((after (.hpResetFall 0) (tile.setPort 0 { port0 with next := 9 })).port 0).next = 0 := by decide +kernel

/-- R542: the identification code of release 4 with a manufacturer code of 0. -/
theorem test_idcode : (after .idcode tile).outputs = [.tdo 0x4B401001] := by decide +kernel

/-- R437: GO is taken from agent 0 alone. -/
theorem test_go_agent : (after (.bootGo 0) State.reset).startup.go = true ∧ (after (.bootGo 1) State.reset).startup.go = false := by decide +kernel

/-- R494: a report of class F, here PWR_GOOD absent for 2 ms, ends in HALT. -/
theorem test_class_f_halts : (after (.captureWindowClose true true) (withFault rt (fun f => { f with reports := [report 0x2E 5] }))).mode = .halt := by
  decide +kernel

/-- R487: of two reports of one window the class U one is handled before the class C one, whichever came first. -/
theorem test_window_order :
    (after (.captureWindowClose true true) (withFault rt (fun f => { f with reports := [report 0x0E 5, report 0x0C 6] }))).fault.log.map (fun r => r.w0.toNat / 2 ^ 16 % 256) =
      [0x0C, 0x0E] := by decide +kernel

/-- R497: a note is shown and the mode stays. -/
theorem test_fault_note : (after (.faultNote 0 5 3 0x2E 0) num).mode = .service ∧ (after (.faultNote 0 5 3 0x2E 0) num).fld Reg.RING_NOTE_SRC = 0x2E := by
  decide +kernel

/-- R141: the tile after the anchor is number 1 and passes 1 on. -/
theorem test_disc_number : (after (.disc 0 .cw false 0) (withRing rt (fun r => { r with anchor := false }))).fld Reg.RING_STAT_TILE_NO = 1 := by decide +kernel

/-- R522, R523: an access to a page another agent claims is refused. -/
theorem test_claim_denies : (after (.claim 0 4) (after (.claim 1 4) rt)).outputs.getLast? = some (.mgt 0 1) := by decide +kernel

/-- R9: a staged field keeps its active value until COMMIT takes effect. -/
theorem test_staged_waits :
    (after (.registerWrite 0 0x10044 0xFFFFFFFF true true) rt).word (regKey 0x10 0x044) = rt.word (regKey 0x10 0x044) := by decide +kernel

/-- R396: CLEAR leaves the slot's port mask. -/
theorem test_clear_slot : ((after (.clear 3) { (rt.setFld Reg.CRYP_KSEL_SLOT 5) with crypt := ⟨[(5, ⟨.valid, 3, 77, 0⟩)], [], false, false⟩ }).slot 5) =
    ⟨.empty, 3, 0, 0⟩ := by decide +kernel

/-- R339: a relock whose check fails fails the channel. -/
theorem test_relock_fails : (after (.relockCheckDone 0 false []) (rt.setPhy 0 { rt.phy 0 with relock := 3 })).flag (Reg.CHN_EVT_RELOCK_FAIL 0) = true := by decide +kernel

/-- R57: a negative acknowledge of the oldest sent number repeats from it. -/
theorem test_nak_repeats : ((after (.negativeAcknowledge 0 0) (tile.setPort 0 { port0 with sent := [rsp], next := 1 })).port 0).rep = some 0 := by decide +kernel

/-- R412: a window at UP or above asks for one step more than the last target. -/
theorem test_vloop_up :
    ((after (.vloopWindow 100) ((tile.setFld Reg.PWRM_VLOOP_EN 1).setFld Reg.PWRM_VSTAT_MODE_OK 1)).power.vreq.map (·.target)) = some 1 := by decide +kernel

/-- R3: a port that was not built. -/
theorem test_unit_not_built : exec (.rd 3 flit) { tile with build := ⟨2, 1, true, true, 0⟩ } = .fault .unitNotBuilt := rfl

/-- R113, the worked example: column field 0x66 leaves as column address 0x660. -/
theorem test_column_sent : ∃ par, sentCmd 2 .rd 0 0 0x8D1 0x66 = .command 2 .rd 0 0 0x8D1 0x660 par := ⟨_, rfl⟩

/-- R271, the example: bit 5 of D41 lies on DQ21 at beat 3, and nowhere else. -/
theorem test_lane_of_symbol :
    let b : Burst := BitVec.ofNat 640 (2 ^ (8 * (16 + 41) + 5))
    (List.range 16).flatMap (fun t => ((List.range 40).filter (fun n => (beatOf b t).getLsbD n)).map (fun n => (n, t))) = [(21, 3)] := by decide +kernel

/-- R34: an opcode that is not listed makes its request illegal. -/
theorem test_unlisted_op : ((after (.rd 0 { flit with xop := some 0x1F }) tile).reqs.map reqIllegal) = [true] := by decide +kernel

/-! ## The hypotheses of the statements can be met

Each theorem shows, for the statement it names and for each of its clauses, a state and operands that meet the hypotheses together; the
boundaries of a range stand beside each other. -/

theorem test_meets_StepRunsFront : ∃ (s : State) (c : Instr) (rest : List Instr), s.pending = c :: rest := ⟨{ tile with pending := [.idcode] }, _, _, rfl⟩

theorem test_meets_IdleCountsTempo : tile.pending = [] := rfl

theorem test_meets_StepsKeepBuildAndOrder : ∃ t, Host.Core.run core 2 { tile with pending := [.idcode, .bypass] } = .next t := ⟨_, rfl⟩

theorem test_meets_ResetAssertsAndReleases :
    tile.resetN = true ∧ let s := { tile with resetN := false }; s.resetN = false ∧ s.build.ring = true ∧ s.ring.broken = [] := by decide +kernel

theorem blank_reset (s : State) (h : s = { State.reset with resetN := false }) : s.blank := by
  subst h
  refine ⟨rfl, rfl, rfl, rfl, rfl, rfl, rfl, rfl, rfl, fun _ => rfl, ?_⟩
  decide +kernel

theorem test_meets_HeldInResetInvariant : State.heldInReset { State.reset with resetN := false } ∧ ∃ t, step { State.reset with resetN := false } = .next t :=
  ⟨fun _ => blank_reset _ rfl, ⟨_, rfl⟩⟩

theorem test_meets_ResetLowIgnores :
    ({ State.reset with resetN := false } : State).resetN = false ∧ isReset (.rd 0 flit) = false ∧ isTap (.rd 0 flit) = false := by decide +kernel

theorem test_meets_ScanStopsService :
    ∃ s t : State, s.frozen = true ∧ s.pending.all (fun c => !isReset c) = true ∧ Host.Core.run core 1 s = .next t :=
  ⟨{ tile with frozen := true, pending := [.bypass] }, _, rfl, rfl, rfl⟩

theorem test_meets_FieldReadAfterWrite :
    let f := Reg.CRYP_KSEL_SLOT
    let g := Reg.RING_STAT_TILE_NO
    f.lo ≤ f.hi ∧ f.hi < 32 ∧ g.lo ≤ g.hi ∧ g.hi < 32 ∧ f.key ≠ g.key := by decide +kernel

theorem test_meets_RegisterStoreCanonical : State.reset.regsOk ∧ (State.reset.setFld Reg.CRYP_KSEL_SLOT 5).regs ≠ [] := by
  unfold State.regsOk; decide +kernel

theorem test_meets_RequestAccepted :
    listedOp .rd = true ∧ listedOp .flush = true ∧ tile.serving = true ∧ tile.portBuilt 0 = true ∧ tile.portBuilt 7 = true ∧ tile.inService = true ∧
      tile.power.vote = none ∧ (tile.port 0).rst = false ∧ (tile.port 0).retired = false ∧ tile.flag (Reg.HPT_PCTL_PEN 0) = true ∧
      tile.flag (Reg.HPT_PCTL_PEN 7) = true ∧ (tile.port 0).rqHeld = [] ∧ (tile.waiting 0).length < 8 ∧
      tile.wbuf.all (fun w => w.rid.isSome && decide (w.rid ≠ some tile.nextRid)) = true := by decide +kernel

theorem test_meets_RequestTurnedAway :
    (let s := State.reset; s.serving = true ∧ s.mode ≠ .sleep ∧ s.power.vote = none ∧ (s.port 0).rst = false ∧ s.modeStatus 0 = some .notready ∧
      (s.port 0).rqHeld = [] ∧ (s.port 0).statusFlits < 16 ∧ s.wbuf = []) ∧
    ({ tile with mode := .halt } : State).modeStatus 0 = some .halted ∧
    (tile.setFld (Reg.HPT_PCTL_PEN 0) 0).modeStatus 0 = some .offline := by decide +kernel

theorem test_meets_WriteDataFlitTakesACredit :
    (let s := (withReq tile (req .wr .queued)).setPort 0 { port0 with creds := 1 }
     (s.port 0).rst = false ∧ (s.port 0).creds ≠ 0 ∧ s.wdOwner 0 5 = some (req .wr .queued) ∧ (0 : BitVec 2).toNat < (req .wr .queued).lines ∧
      (req .wr .queued).lines ≤ (1 : BitVec 2).toNat ∧ s.hasLine 7 0 = false ∧ s.wdOwner 0 6 = none ∧ s.serving = true) ∧
    (tile.port 0).creds = 0 ∧ (tile.port 0).rst = false ∧ ((tile.setPort 7 { port0 with rst := true }).port 7).rst = true := by decide +kernel

theorem test_meets_ResponseSentInSequence :
    let s := (withReq tile (req .rd .answered)).setPort 0 { port0 with ready := [rsp] }
    let t := tile.setPort 0 { port0 with sent := [rsp, { rsp with seq := 1 }], next := 2, rep := some 1 }
    s.serving = true ∧ (s.port 0).rst = false ∧ (s.port 0).rep = none ∧ s.nextReady 0 = some rsp ∧
      (t.port 0).rep = some 1 ∧ (t.port 0).sent[1]? = some { rsp with seq := 1 } := by decide +kernel

theorem test_meets_ReleaseAndNegativeAcknowledge :
    let s := tile.setPort 7 { port0 with sent := [rsp, { rsp with seq := 1 }], next := 2, nakSeq := some 1, nakRun := 7 }
    s.serving = true ∧ s.portBuilt 7 = true ∧ (s.port 7).rst = false ∧ (s.port 7).place 0 = some 0 ∧ (s.port 7).place 1 = some 1 ∧
      (s.port 7).place 2 = none ∧ (s.port 7).nakSeq = some 1 ∧ (s.port 7).nakRun = 7 ∧ ((tile.setPort 0 { port0 with rst := true }).port 0).rst = true := by
  decide +kernel

theorem test_meets_PortResetAndPanic :
    tile.serving = true ∧ tile.portBuilt 0 = true ∧ tile.portBuilt 7 = true ∧ tile.latches = false ∧ (tile.port 0).panic = false ∧
      ({ tile with mode := .sleep } : State).latches = true ∧ ((tile.setPort 0 { port0 with panic := true }).port 0).panic = true := by decide +kernel

theorem test_meets_ArbiterGrants :
    (let s := withReq tile (req .rd .ingress)
     s.serving = true ∧ s.arbDead = none ∧ s.arbHolder = none ∧ s.arbPick = some (0, req .rd .ingress)) ∧
    (let a := { req .rd .ingress with dl := 100, eff := 100 }
     let b := { req .rd .ingress with rid := 8, org := .port 1 }
     let s : State := { tile with reqs := [a, b], nextRid := 9, arbHolder := some 1 }
     s.arbPick = some (0, a) ∧ s.arbHolder = some 1 ∧ (s.presents 1).isSome = true) ∧
    ({ tile with arbDead := some ⟨3, none⟩ } : State).deadStands ⟨3, none⟩ = true ∧ tile.arbPick = none := by decide +kernel

theorem test_meets_TempoReachesHostLimits :
    (withReq tile (req .rd .queued)).reqs.find? (fun r => r.rid == 7) = some (req .rd .queued) ∧ (req .rd .queued).clamped = false ∧
    (req .rd .queued).stage ≠ .answered ∧
    (let s := withQE (withReq tile (req .wr .answered)) { entry with wr := true }
     s.reqs.find? (fun r => r.rid == 7) = some (req .wr .answered) ∧ s.qes.any (fun q => q.rid == 7 && q.ofWrite && !q.clamped) = true) ∧
    (∀ i ∈ [0, 15], tget none ({ tile with locks := [(i, some ⟨0, 5, 0, 3, 100⟩)] } : State).locks i = some ⟨0, 5, 0, 3, 100⟩) ∧
    tget none tile.locks 15 = none := by decide +kernel

theorem test_meets_LoneCandidateIsProposed :
    (let s := withQE rt entry
     let x := ((s.proxy 0).trainPoint 0 0).trainPoint 0 1
     let y := (((x.drainEnd 0).turnRound 0).yieldTrain 0).withdrawRefresh 0
     s.serving = true ∧ s.subBuilt 0 = true ∧ s.mode ≠ .sleep ∧ s.mode ≠ .halt ∧ s.chUp 0 = true ∧ (s.proxy 0).latticeOn 0 = true ∧
       (y.cands 0).length = 1 ∧ (y.sub 0).window = []) ∧
    tile.subBuilt 7 = true ∧ ({ tile with mode := .halt } : State).serving = true := by decide +kernel

theorem test_meets_SchedulerTimeEvents :
    (rt.serving = true ∧ rt.subBuilt 0 = true ∧ rt.subBuilt 7 = true ∧ rt.latticeOn 0 = true ∧ rt.latticeOn 3 = false ∧ (rt.sub 0).drain = .read) ∧
    (let s := { (rt.setFld Reg.SCHD_WDRN_WHI 1) with qes := [{ entry with wr := true }] }
     s.latticeOn 0 = true ∧ (s.sub 0).drain = .read ∧ s.fld Reg.SCHD_WDRN_WHI = (s.writesOf 0).length) ∧
    (let s := rt.setEng 3 { eng0 with row := some 9, idle := some 300 }
     s.engBuilt 3 = true ∧ s.engBuilt 511 = true ∧ (s.eng 3).idle = some 300 ∧ (s.eng 3).row = some 9 ∧ (s.eng 3).outstanding = false ∧
      (s.advanceTo 300).qes.any (fun q => q.loc.eng == 3 && (s.advanceTo 300).phaseCand 0 q) = false ∧ (s.sub 0).window.length < 8 ∧ s.latticeOn 0 = true) ∧
    (let s := (withQE rt entry).setEng 3 { eng0 with row := some 9, idle := some 300 }
     (s.advanceTo 300).qes.any (fun q => q.loc.eng == 3 && (s.advanceTo 300).phaseCand 0 q) = true) := by
  decide +kernel

def verdict (a : Bool) (c : Cmd) : Verdict := ⟨a, 4, c, 0, 3, 9, 7, 10, 2, 15⟩

theorem test_meets_VerdictsReachTheEngine :
    ∀ c ∈ [Cmd.act, .pre, .rd, .rda, .wra, .refsb, .mrr],
      let s := withSub rt (fun u => { u with verdicts := [verdict true c, verdict false .act] })
      s.serving = true ∧ s.subBuilt 0 = true ∧ (s.sub 0).verdicts.find? (fun v => v.accept == true) = some (verdict true c) ∧
        (s.sub 0).verdicts.find? (fun v => v.accept == false) = some (verdict false .act) ∧
        (rt.sub 0).verdicts.find? (fun v => v.accept == true) = none ∧ (rt.sub 0).verdicts.find? (fun v => v.accept == false) = none := by decide +kernel

theorem test_meets_EarliestSlotIssues :
    ∀ c ∈ [Cmd.act, .pre, .preab, .refab, .refsb, .rfmab, .rfmsb, .sre, .srx, .rd, .rda, .wr, .wra, .mrr, .mrw, .zqs, .zql],
      let s := withSub rt (fun u => { u with accepted := [issue c] })
      s.serving = true ∧ s.subBuilt 0 = true ∧ (s.sub 0).nextIssue = some (issue c) ∧ (rt.sub 0).accepted = [] := by decide +kernel

theorem test_meets_OldestReadAndWindowEnd :
    (∀ k ∈ [0, 1],
      let q : QE := { entry with stage := .issued, retries := k }
      let s := withSub (withQE rt q) (fun u => { u with reading := [issue .rd], alertWin := [issue .wr] })
      s.serving = true ∧ (s.sub 0).reading = [issue .rd] ∧ (s.sub 0).alertWin = [issue .wr] ∧ (issue .rd).cmd ≠ .mrr ∧ s.qe? 4 = some q ∧ q.retries = k ∧
        ((s.setSub 0 { s.sub 0 with alertWin := [] }).tickTo 0 (s.timg.alertEnd 10) 4096).qe? 4 = some q) ∧
    ((withSub rt (fun u => { u with reading := [issue .mrr] })).sub 0).reading = [issue .mrr] ∧ (issue .mrr).cmd = .mrr ∧ (rt.sub 7).reading = [] ∧
      (rt.sub 7).alertWin = [] := by decide +kernel

theorem test_meets_ModeRegisterAndZqCommands :
    (rt.pageFree 0 0x11 ∧ rt.flag Reg.TIMG_MRCMD_GO = false ∧ rt.mrAborts false 0 0 0 9 = false ∧ rt.mrAborts true 0 0 0 9 = false ∧
      (rt.setChState 3 2).mrAborts false 3 0 0 9 = true ∧ rt.mrAborts true 0 0 0 8 = true) ∧
    (rt.dramUp 0 = true ∧ rt.rankAwake 0 0 = true ∧ rt.rankAwake 1 0 = true ∧ (rt.sub 0).calibrating 0 = false) ∧
    (let s := withSub rt (fun u => { u with zqLatch := [0] }); (s.sub 0).zqLatch.contains 0 = true ∧ (s.sub 0).hasSeq .zql 0 = false) := by
  unfold State.pageFree; decide +kernel

theorem test_meets_RefreshAndTemperature :
    (∀ d ∈ [(-1 : Int), 3, 4, 5],
      let s := rt.setGroup (groupKey 0 0 1) { group0 with running := true, debt := d }
      s.serving = true ∧ s.subBuilt 0 = true ∧ (s.group (groupKey 0 0 1)).running = true ∧ (s.group (groupKey 0 0 1)).debt = d ∧ s.dramUp 0 = true ∧
        s.rankAwake 0 0 = true ∧ 1 < s.groupsPer 0) ∧
    rt.refP' = 4 ∧ (rt.setFld Reg.REFD_RCTL_TEMP_EN 1).flag Reg.REFD_RCTL_TEMP_EN = true ∧ (rt.setFld Reg.REFD_RCTL_TEMP_EN 0).flag Reg.REFD_RCTL_TEMP_EN = false ∧
    rt.mode ≠ .halt ∧ 0 ∈ rt.ranks 0 ∧ rt.rankAwake 1 0 = true := by decide +kernel

theorem test_meets_AlertAndParityWindow :
    (rt.alertOn 0 = true ∧ rt.alertOn 3 = false ∧ rt.chanBuilt 3 = true) ∧
    (let q : QE := { entry with stage := .issued }
     let s := withSub (withQE rt q) (fun u => { u with parWait := [(4, false)] })
     (s.sub 0).parWait = [(q.tag, false)] ∧ s.qe? q.tag = some q ∧ (s.flag Reg.RPMR_CFG_RR_EN && s.copyUp q.loc.ch q.mir) = false) ∧
    (let q : QE := { entry with stage := .issued, mir := 1 }
     let s := (withSub (withQE rt q) (fun u => { u with parWait := [(4, true)] })).setFld Reg.RPMR_CFG_RR_EN 1
     (s.sub 0).parWait = [(q.tag, true)] ∧ s.qe? q.tag = some q ∧ (s.flag Reg.RPMR_CFG_RR_EN && s.copyUp q.loc.ch q.mir) = true) := by decide +kernel

/-- A pass of the patrol scrubber at line 0, with the fill watermark given. -/
def scrubbing (wm : Nat) : State := ((rt.setFld Reg.ECCS_SCRB_EN 1).setFld (Reg.GLOB_FILLWM_WM 0) wm).setScrub 0 ⟨true, 0, 1000, false, 0⟩

theorem test_meets_ScrubTrackerAndDecay :
    (∀ wm ∈ [0, 1],
      let s := scrubbing wm
      s.serving = true ∧ s.chanBuilt 0 = true ∧ s.flag Reg.ECCS_SCRB_EN = true ∧ s.ownWork = true ∧ s.chUp 0 = true ∧ s.fld (Reg.ECCS_SCRPOS_POS 0) = 0 ∧
      (s.scrubOf 0).running = true ∧ (s.scrubOf 0).busy = false ∧ s.scrubDue 0 0 ≤ (s.advanceLong (s.scrubDue 0 0)).longTime ∧
      s.erase? (ersIdx (s.placeOf 0 0).sc (s.placeOf 0 0).rk) = none ∧ s.fld (Reg.GLOB_FILLWM_WM 0) = wm ∧ s.scrubSkips (s.placeOf 0 0) = false) ∧
    (let s := (scrubbing 1).setErase 0 (some ⟨1, 4⟩)
     ersIdx (s.placeOf 0 0).sc (s.placeOf 0 0).rk = 0 ∧ s.erase? 0 = some ⟨1, 4⟩) ∧
    ((rt.setFld Reg.ECCS_SCRB_EN 1).scrubOf 0).running = false ∧ 1 < (rt.chDec 0).capacity ∧
    (rt.setTrack 31 (some ⟨0, 5, 1, 2, 0, false⟩)).track? 31 = some ⟨0, 5, 1, 2, 0, false⟩ ∧
    rt.fld Reg.ECCS_DEVCFG_DECAY ≠ 0 ∧
    Tab.wf (fun _ => 0) ({ rt with repair := { rt.repair with devCnt := [(3, 5), (17, 1)] } } : State).repair.devCnt = true := by decide +kernel

theorem test_meets_RepairRequestsAct :
    rt.pageFree 0 0x14 ∧ rt.pageFree 0 0x15 ∧ Reg.ECCS_INJ_GROUP.get 0x9000000 ≤ 9 ∧ ¬ Reg.ECCS_INJ_GROUP.get 0xA000000 ≤ 9 ∧
    (let s := rt.setFld Reg.RPMR_CFG_CRIT 0
     s.chUp 0 = true ∧ s.fbit Reg.RPMR_CFG_CRIT 0 = false ∧ s.inPprList ⟨0, 0, 0, 3, 99⟩ = false ∧
      (List.range 16).find? (fun i => (tget none s.repair.props i).isNone) = some 0) ∧
    (let s := (rt.setFld Reg.RPMR_CFG_CRIT 1).setFld Reg.RPMR_CFG_RM_EN 1
     s.fbit Reg.RPMR_CFG_CRIT 0 = true ∧ s.flag Reg.RPMR_CFG_RM_EN = true ∧
      (s.repair.remap.filterMap (·.2)).any (fun m => m.id == ⟨0, 0, 0, 3, 99⟩) = false ∧
      (List.range 16).find? (fun i => (tget none s.repair.remap i).isNone) = some 0 ∧ (s.freeSpare ⟨0, 0, 0, 3, 99⟩).isSome = true) ∧
    rt.erase? (ersIdx 0 0) = none ∧ rt.sharesOf 0 = [] ∧ rt.secondSharesOf 0 = [] ∧ (mapped rt).sharesOf 0 ≠ [] := by unfold State.pageFree; decide +kernel

theorem test_meets_CastleAndRemap :
    rt.pageFree 0 0x15 ∧ rt.chUp 0 = true ∧ rt.chUp 3 = true ∧
    (let m : Remap := ⟨⟨0, 0, 0, 3, 9⟩, 1, false, true, 9⟩
     let s := { rt with repair := { rt.repair with remap := [(15, some m)] } }
     tget none s.repair.remap 15 = some m ∧ m.copy = true ∧ s.copyWaits m.id = false ∧ s.latticeOn m.id.ch = true ∧
       (withQE s { entry with stage := .accepted }).copyWaits m.id = true) := by
  unfold State.pageFree; decide +kernel

/-- Channel 0 with its PLL in this state and relock. -/
def pll (p : PllSt) (r : Nat) : State := tile.setPhy 0 { phy0 with pll := p, relock := r }

theorem test_meets_PllLocksTimesOutAndRelocks :
    (∀ p ∈ [PllSt.first, .second, .off, .locked], ∀ r ∈ [0, 1, 2, 3], let s := pll p r
      s.serving = true ∧ s.chanBuilt 0 = true ∧ (s.phy 0).pll = p ∧ (s.phy 0).relock = r ∧ s.power.sleep ≠ .waking ∧ s.inS4 = false) ∧
    ({ pll .second 0 with bist := { tile.bist with startup := true, slice := some 4 } } : State).inS4 = true ∧
    (withPower (pll .first 0) (fun p => { p with sleep := .waking })).power.sleep = .waking ∧
    ((rt.phy 0).pll = .locked ∧ (rt.phy 0).phase = .passed ∧ rt.chUp 0 = true ∧ rt.inService = true) ∧
    (let s := rt.setPhy 0 { rt.phy 0 with relock := 3 }
     let runs : List LaneRun := (List.range 2).flatMap (fun k => (List.range 2).flatMap (fun rk => (List.range 10).map (fun g => ⟨laneKey k rk g, -8, 8⟩)))
     (s.phy 0).relock = 3 ∧ ∀ k < 2, ∀ rk ∈ s.ranks 0, ∀ g < 10, ∃ r ∈ runs, r.lane = laneKey k rk g ∧ r.first ≤ -8 ∧ 8 ≤ r.last) := by decide +kernel

theorem test_meets_PhyCalibrationSamplesAndGaps :
    (tile.setPhy 0 { phy0 with phase := .powered } |>.phy 0).phase = .powered ∧ (rt.phy 0).phase ≠ .powered ∧
    (let s := rt.setFld (Reg.CHN_ZQ_DONE 0) 1
     s.latticeOn 0 = true ∧ s.flag (Reg.CHN_ZQ_DONE 0) = true ∧ s.gapOpen 0 = true ∧ s.gapOpen 1 = true) ∧
    (withSub rt (fun u => { u with reading := [issue .rd], tick := (10 + rt.timg.winStart false) / 4 })).gapOpen 0 = false ∧ rt.latticeOn 3 = false ∧ rt.sensorOn 0 = true ∧ rt.sensorOn 3 = false ∧
    (let s := { rt with pendTrims := [(0, some ⟨3, [(5, rt.trim 5)]⟩)] }
     s.latticeOn 0 = true ∧ s.gapOpen 0 = true ∧ tget none s.pendTrims 0 = some ⟨3, [(5, rt.trim 5)]⟩ ∧ tget none s.pendTrims 1 = none ∧
      s.pendSince 0 = some 3 ∧ (s.sub 0).gapHold = false ∧ (s.sub 0).window.any (fun p => p.tier == 1) = false) ∧ rt.pendSince 0 = none := by decide +kernel

/-- Channel 0 in training, its first subchannel at a step. -/
def training (step tries : Nat) : State :=
  { tile.setPhy 0 { phy0 with pll := .locked, phase := .training } with
    trains := [(0, ⟨step, 0, tries, []⟩)], startup := { tile.startup with present := [0] } }

theorem test_meets_TrainingBeginsAndGoesOn :
    (((tile.setPhy 0 { phy0 with phase := .released }).phy 0).phase = .released ∧ (tile.phy 0).phase ≠ .released ∧ (tile.phy 0).phase ≠ .training) ∧
    (let s := training 7 0
     s.serving = true ∧ s.subBuilt 0 = true ∧ (s.phy 0).phase = .training ∧ (s.train 0).step = 7 ∧
       s.misses 0 7 [] ⟨true, [], [], [], [], [], [], 63, 63⟩ = [] ∧
       ((s.train 0).erase.filter (fun e => (s.trainRanks 7 0).contains e.1)).map (·.2) = []) ∧
    (let s := training 1 0
     (s.train 0).step = 1 ∧ s.misses 0 1 [] ⟨true, [], [], [], [], [], [], 63, 63⟩ ≠ [] ∧ (s.train 0).tries < s.fld Reg.TRAIN_CTL_RETRY ∧ 0 ∈ s.startup.present) ∧
    (let s := (training 1 7).setFld Reg.TRAIN_CTL_ERS_OK 0
     s.misses 0 1 [] ⟨false, [], [], [], [], [], [], 63, 63⟩ = [(0xF, 4)] ∧ s.fld Reg.TRAIN_CTL_RETRY ≤ (s.train 0).tries ∧ s.flag Reg.TRAIN_CTL_ERS_OK = false) := by
  decide +kernel

theorem test_meets_PprResultsAndFillLines :
    (let s : State := { State.reset with startup := { State.reset.startup with ppr := [63] } }
     s.serving = true ∧ s.startup.ppr.find? (fun m => s.pprCh m == s.pprCh 63) = some 63 ∧
       State.reset.startup.ppr.find? (fun m => s.pprCh m == s.pprCh 0) ≠ some 0) ∧
    (let s : State := { (rt.setFld Reg.GLOB_FILLST_DONE 0) with startup := { tile.startup with filling := true, fillOn := [0], present := [0] } }
     s.startup.filling = true ∧ s.startup.fillOn.contains 0 = true ∧ s.latticeOn 0 = true ∧ s.fbit Reg.GLOB_FILLST_DONE 0 = false ∧
      s.qes.any (fun q => q.src == .fill && q.loc.ch == 0) = false) ∧ rt.startup.filling = false := by decide +kernel

/-- A run of group 2 in progress, at the reset settings of BOOK. -/
def epRun (wr : Bool) (bad : Nat) : EpRank := ⟨[(2, wr)], true, bad, 0, 0, 0, 0, rt.word Reg.BOOK_EPCTL_SPAN.key, rt.word Reg.BOOK_PROBE_PWAIT.key⟩

/-- An En Passant run on rank 0 of subchannel 0. -/
def enPassant (wr : Bool) (bad : Nat) : State :=
  mapped { rt with eps := [(0, { ep0 with running := true, ranks := [(0, some (epRun wr bad))] })] }

def sweep : List LaneRun := (List.range 4).map (fun l => ⟨l, -200, 200⟩)

theorem test_meets_EnPassantPass :
    (let s := rt.setFld Reg.BOOK_LCTL_EP_EN 1
     s.serving = true ∧ s.flag Reg.BOOK_LCTL_EP_EN = true ∧ s.ownWork = true ∧ s.chUp 0 = true ∧ (s.phy 0).phase = .passed ∧ (s.ep 0).running = false) ∧
    (rt.setFld Reg.BOOK_LCTL_EP_EN 0).flag Reg.BOOK_LCTL_EP_EN = false ∧ rt.epRank? 7 1 = none ∧
    (∀ b ∈ [0, 1, 2], ∀ wr ∈ [true, false], (enPassant wr b).epRank? 0 0 = some (epRun wr b)) ∧
    (∀ f ∈ [Reg.TRAIN_CRIT_MINW_RD, Reg.TRAIN_CRIT_MINW_WR],
      (trusted (rt.minw f) (eyeFit sweep [0, 1, 2, 3]) (eyeFit sweep [0, 1, 2, 3])).isSome = true ∧
      trusted (rt.minw f) (eyeFit [] [0, 1, 2, 3]) (eyeFit [] [0, 1, 2, 3]) = none) ∧
    (let s := enPassant false 0
     let r := epRun false 0
     let x := s.advanceTo (r.sample + ns (1000 * max 1 (Reg.BOOK_PROBE_PWAIT.get r.probe)))
     s.qes.any (fun q => q.adm && q.loc.sc == 0 && q.loc.rk == 0) = false ∧
      ((x.setEpRank 0 0 (some { r with sample := x.tempo })).probePick 0 0).isSome = true) := by decide +kernel

theorem test_meets_ModuleEventsAreShown :
    (tile.serving = true ∧ tile.chanBuilt 3 = true ∧ (3 : Nat) < 4 ∧ (3 : BitVec 2) ≠ 0 ∧ tile.fld Reg.SIDE_SPDSTAT_SPD / 4 ^ 3 % 4 = 0 ∧
      (tile.setFld Reg.SIDE_SPDSTAT_SPD 64).fld Reg.SIDE_SPDSTAT_SPD / 4 ^ 3 % 4 ≠ 0) ∧
    (let s := tile.setPhy 0 { phy0 with phase := .powered }; (s.phy 0).phase = .powered ∧ (s.phy 0).pmic = false ∧ (tile.phy 0).phase ≠ .powered) ∧
    (let s : State := { (tile.setFld Reg.GLOB_STAT_PHASE 3) with startup := { tile.startup with present := [0] } }
     s.fld Reg.SIDE_DCFG_TSPER ≠ 0 ∧ 3 ≤ s.fld Reg.GLOB_STAT_PHASE ∧ 0 ∈ s.startup.present) ∧ (tile.setFld Reg.SIDE_DCFG_TSPER 0).fld Reg.SIDE_DCFG_TSPER = 0 := by
  decide +kernel

theorem test_meets_OnlyIdleTimerFollows :
    rt.ring.awaits.all (fun a => a.type != 0x08) = true ∧
      (withReq rt (req .rd .queued)).reqs.all (fun r => r.stage != .heldFill && r.stage != .flushing && !((r.op == .wr || r.op == .wru) && r.stage == .queued)) = true ∧
      (∀ p < 8, (rt.port p).rqHeld = []) ∧ (∀ sc < 8, (rt.sub sc).drain = .read) ∧ rt.startup.filling = false ∧ rt.mode ≠ .bringup := by decide +kernel

theorem test_meets_SidebandTransfers :
    tile.pageFree 0 4 ∧ tile.flag Reg.SIDE_DXFER_GO = false ∧ (tile.setFld Reg.SIDE_DXFER_GO 1).pageFree 0 4 ∧
    (tile.setFld Reg.SIDE_DXFER_GO 1).flag Reg.SIDE_DXFER_GO = true ∧ tile.flag Reg.SIDE_DXFER_WR = false := by
  unfold State.pageFree; decide +kernel

/-- Key slot `k` is selected and stands as given; the two halves of the key words differ. -/
def keyed (k : Nat) (x : Slot) : State :=
  { (tile.setFld Reg.CRYP_KSEL_SLOT k) with crypt := ⟨[(k, x)], (List.range 16).map (fun i => (i, (BitVec.ofNat 32 (77 * i + 1) : Word))), false, false⟩ }

theorem test_meets_KeySlotsChange :
    (∀ k ∈ [1, 255], ∀ st ∈ [SlotSt.empty, .valid],
      let s := keyed k ⟨st, 3, 0, 0⟩
      s.pageFree 3 6 ∧ s.build.crypt = true ∧ s.flag Reg.CRYP_KCMD_BUSY = false ∧ s.crypt.tamper = false ∧ s.anyPending = false ∧ s.crypt.clearAll = false ∧
        s.fld Reg.CRYP_KSEL_SLOT = k ∧ sameHalves s.keyBlock = false ∧ s.bist.keyBad = false ∧ (s.slot k).st = st ∧ s.slotBusy k = false) ∧
    (let s := withQE (keyed 5 ⟨.valid, 3, 77, 0⟩) { entry with key := 5 }
     s.pageFree 3 6 ∧ s.anyPending = false ∧ s.fld Reg.CRYP_KSEL_SLOT = 5 ∧ (s.slot 5).st = .valid ∧ s.slotBusy 5 = true) ∧
    (∀ st ∈ [SlotSt.pendLoad, .pendClear], let s := keyed 5 ⟨st, 3, 77, 99⟩; s.serving = true ∧ (s.slot 5).st = st ∧ s.slotBusy 5 = false) ∧
    ({ tile with build := ⟨8, 4, false, true, 0⟩ } : State).build.crypt = false := by
  unfold State.pageFree; decide +kernel

/-- No slot of it is in use, so CLEAR_ALL may empty them all at once. -/
theorem test_meets_KeySlotsChange_idle : ∀ k, 1 ≤ k → (keyed 5 ⟨.valid, 3, 77, 0⟩).slotBusy k = false := fun _ _ => rfl

theorem test_meets_TestPortInstructions :
    tile.serving = true ∧ tile.flag Reg.CRYP_KSTAT_VERIFY_FAIL = false ∧ tile.build.crypt = true ∧ (true || false) = true ∧ (false || false) = false ∧
      ({ tile with resetN := false } : State).serving = false ∧ ({ tile with frozen := true } : State).serving = false := by
  decide +kernel

def volt (target tries why : Nat) (next : Option VReq) : State :=
  withPower tile (fun p => { p with vreq := some ⟨target, 0, tries, why⟩, vnext := next })

theorem test_meets_RegulatorEventsAct :
    ((volt 30 1 1 none).power.vreq = some ⟨30, 0, 1, 1⟩ ∧ (volt 30 1 1 none).power.pgood = true ∧ (volt 0 2 1 (some ⟨7, 0, 0, 2⟩)).power.vnext = some ⟨7, 0, 0, 2⟩) ∧
    (∀ w ∈ [0, 1, 2, 3], ∀ n ∈ [1, 2], (volt 0 n w none).power.vreq = some ⟨0, 0, n, w⟩) ∧
    (tile.power.pgood = true ∧ tile.power.vreq = none ∧ tile.power.pgLost = false) ∧
    ((after .pwrGoodFall tile).serving = true ∧ (after .pwrGoodFall tile).power.pgood = false ∧ (after .pwrGoodFall tile).power.pgLost = true) ∧
    (tile.flag Reg.PWRM_VSTAT_MODE_OK = false ∧ tile.power.vmodeFails < 2 ∧ (withPower tile (fun p => { p with vmodeFails := 1 })).power.vmodeFails = 1 ∧
      (∀ b ∈ [(16 : BitVec 8), 24], b.toNat / 32 = 0 ∧ 16 ≤ b.toNat ∧ b.toNat ≤ 24)) ∧
    (let s := (tile.setFld Reg.PWRM_VLOOP_EN 1).setFld Reg.PWRM_VSTAT_MODE_OK 1
     s.flag Reg.PWRM_VLOOP_EN = true ∧ s.inService = true ∧ s.flag Reg.PWRM_VSTAT_MODE_OK = true ∧ s.power.vreq = none ∧ s.power.vstop = false ∧
      s.fullDemand = false ∧ s.fld Reg.PWRM_VLOOP_UP ≤ s.fld Reg.PWRM_VLOOP_UP ∧ s.fld Reg.PWRM_VSTAT_VCMD < stepCode (s.fld Reg.PWRM_VLIM_VMAX)) ∧
    (tile.setFld Reg.PWRM_VLOOP_EN 0).flag Reg.PWRM_VLOOP_EN = false := by decide +kernel

def voting (agreed : Nat) : State := withPower (rt.setFld Reg.PWRM_SLP_EN 1) (fun p => { p with vote := some 0, agreed := agreed })

theorem test_meets_SleepVote :
    (let s := rt.setFld Reg.PWRM_SLP_EN 1; s.serving = true ∧ s.flag Reg.PWRM_SLP_EN = true ∧ s.inService = true ∧ s.isIdle = true ∧ s.power.vote = none) ∧
    (∀ v ∈ [0, 7], (voting 0).power.agreed.testBit v = false ∧ (voting 0).voterRefuses v = false) ∧
    (voting 0xFE).power.agreed ||| 2 ^ 0 = 0xFF ∧ (voting 0).power.agreed ||| 2 ^ 7 ≠ 0xFF ∧
    (let s := (voting 0x80).setFld Reg.SIDE_DXFER_GO 1; s.power.vote.isSome = true ∧ s.power.agreed.testBit 7 = true ∧ s.voterRefuses 7 = true) ∧
    (let s := (voting 0).setFld Reg.SIDE_DXFER_GO 1; s.power.agreed.testBit 7 = false ∧ s.voterRefuses 7 = true) ∧ rt.power.vote = none := by decide +kernel

def sleeping (k : SleepSt) (core : Bool) : State := withPower { rt with mode := .sleep } (fun p => { p with sleep := k, coreOn := core, crypOn := core })

theorem test_meets_SleepAndWake :
    (let s := sleeping .entering true; s.serving = true ∧ s.mode = .sleep ∧ s.power.sleep = .entering ∧ s.power.latched = none ∧ s.chUp 0 = true) ∧
    (let s := sleeping .asleep false; s.serving = true ∧ s.mode = .sleep ∧ s.power.sleep = .asleep) ∧
    (sleeping .waking true).power.sleep = .waking ∧ (sleeping .waking true).wakeReady = false ∧
    (let s := (List.range 4).foldl (fun s c => s.setPhy c { phy0 with pll := .locked, phase := .passed }) (sleeping .waking true)
     s.serving = true ∧ s.wakeReady = true ∧ s.power.sdWake = false) ∧
    (let s := sleeping .asleep true
     s.power.coreOn = true ∧ s.reqs.all (fun r => match r.org with | .port _ => false | .ring _ _ => true) = true) ∧
    (let s := sleeping .asleep false
     let m : RingIn := .mirrorRd 3 7 0 0
     arrivalOf (.mirrorRd 2 3 7 0 0) = some (2, m) ∧ quietMsg m = false ∧ s.addressed m = true ∧ s.rxFlits (s.arrivedCw m) + flitCount m ≤ 128 ∧
       (withRing s (fun r => { r with rx := List.replicate 127 (s.arrivedCw m, m) })).rxFlits (s.arrivedCw m) + flitCount m = 128) ∧
    arrivalOf (.refToken 0 1) = some (0, .refToken 1) ∧ quietMsg (.refToken 1) = true := by decide +kernel

theorem test_meets_StartupAndShutdown :
    (State.reset.pageFree 0 0 ∧ State.reset.pageFree 3 0 ∧ State.reset.mode = .bringup ∧ State.reset.startup.go = false) ∧
    (let s : State := { withPower (State.reset.setFld Reg.RING_STAT_NUMBERED 1) (fun p => { p with vmaxDone := true }) with startup := { State.reset.startup with go := true } }
     s.serving = true ∧ s.goReady = true ∧ s.recordValid = false) ∧ State.reset.goReady = false ∧
    (rt.pageFree 0 5 ∧ rt.pageFree 1 5 ∧ (1 : BitVec 4).toNat < 2 ∧ rt.inService = true ∧ rt.mode ≠ .endgame) ∧
    (let s := { rt with mode := .endgame }.setFld Reg.BIST_STAT_PHASE 1
     s.serving = true ∧ s.mode = .endgame ∧ s.fld Reg.BIST_STAT_PHASE = 1 ∧ s.drained = true ∧ (withQE s entry).drained = false) ∧
    (∀ k ∈ [0, 4, 5], let s : State := { rt with mode := .endgame, bist := { rt.bist with slice := some k } }
     s.serving = true ∧ s.bist.slice = some k ∧ s.bist.startup = false ∧ s.build.crypt = true ∧ s.build.ring = true) ∧ rt.bist.slice = none := by
  unfold State.pageFree; decide +kernel

theorem test_meets_WindowsAreHandledInOrder :
    let s := withFault rt (fun f => { f with reports := [report 0x0E 5, report 0x0C 6, report 0x0C 3000] })
    s.serving = true ∧ s.fault.reports ≠ [] ∧ rt.fault.reports = [] := by decide +kernel

theorem test_meets_FatalReportHalts :
    let r := report 0x2E 5; let s := withFault rt (fun f => { f with reports := [r] })
    s.serving = true ∧ s.fault.reports = [r] ∧ r.cls = 3 ∧ r.src < 64 ∧ s.mode ≠ .halt := by decide +kernel

theorem test_meets_FaultRegistersAct :
    (srcRow 0x0C).isSome = true ∧ srcRow 0x3F = none ∧
    (let s := withFault rt (fun f => { f with timers := [⟨0x2C, 900⟩, ⟨0x14, 800⟩] }); s.serving = true ∧ s.firstTimer = some ⟨0x14, 800⟩) ∧ rt.firstTimer = none ∧
    rt.pageFree 0 1 ∧ (rt.set1 ⟨1, 0x080, 12, 12⟩).serving = true ∧
    (withFault rt (fun f => { f with log := [⟨1, 2, 3, 4⟩] })).fault.log = [⟨1, 2, 3, 4⟩] ∧ rt.fault.log = [] ∧
    rt.pageFree 0 0 ∧ rt.pageFree 0 0x1B ∧ (rt.setFld Reg.FLTC_CFG_FORCE_F 1).flag Reg.FLTC_CFG_FORCE_F = true := by unfold State.pageFree; decide +kernel

theorem test_meets_ClaimsAreTakenAndFreed :
    (∀ p ∈ [0, 0x1B], rt.claim p = none ∧ (p ≠ 6 ∨ (0 : BitVec 4) = 3)) ∧ (rt.claim 6 = none ∧ ((6 : Nat) ≠ 6 ∨ (3 : BitVec 4) = 3)) ∧
    rt.serving = true ∧ rt.mode ≠ .sleep ∧ mgtAgent 0 = true ∧ mgtAgent 3 = true ∧
    (let s := after (.claim 1 4) rt; s.claim 4 = some ⟨1, 0⟩ ∧ (1 : Nat) ≠ (0 : BitVec 4).toNat ∧ (1 : Nat) = (1 : BitVec 4).toNat ∧ s.serving = true ∧
      s.mode ≠ .sleep) := by decide +kernel

theorem test_meets_RegisterWriteFollowsAccessKind :
    (∀ x ∈ [(0x10, 0x40), (0x17, 0x40), (0, 0xFFC), (0x1B, 0xFFC)],
      rt.pageFree 0 x.1 ∧ rt.pageBuilt x.1 = true ∧ x.1 < 0x1C ∧ 0x40 ≤ x.2 ∧ x.2 < 0x1000 ∧ x.2 % 4 = 0 ∧ x.1 ≠ 6 ∧ ¬ (x.1 = 0x13 ∧ x.2 = 0x044) ∧
        ¬ (x.1 = 0x15 ∧ (x.2 = 0x06C ∨ x.2 = 0x070)) ∧ (rt.ownWrite 0 x.1 x.2 0xFFFFFFFF true true).isNone = true) ∧ mgtAgent 2 = false := by
  unfold State.pageFree; decide +kernel

theorem test_meets_DataRegistersStepTheirIndex :
    rt.pageFree 0 0x13 ∧ rt.pageFree 0 0x15 ∧ rt.pageFree 0 4 ∧
    (∀ i ∈ [0, 1023], (rt.setFld Reg.BENG_IDX_INDEX i).fld Reg.BENG_IDX_SPACE = 0 ∧ (rt.setFld Reg.BENG_IDX_INDEX i).fld Reg.BENG_IDX_INDEX < 1024) := by
  unfold State.pageFree; decide +kernel

/-- A page with one staged bit. -/
def staged (p off : Nat) : State := rt.setStaged (regKey p off) (rt.stagedWord (regKey p off) ^^^ accMask p off .rs)

theorem test_meets_CommitAndSideband :
    (let s := staged 0x14 0x40; s.pageFree 0 0x14 ∧ accMask 0x14 8 .rs = 0 ∧ s.copyChanges (s.stagedOf 0x14) = true) ∧
    (let s := rt.setStaged (regKey 0x11 0x40) 0; s.pageFree 0 0x11 ∧ s.timgOk (s.stagedOf 0x11) = false) ∧
    (let c : Copy := ⟨[], []⟩
     (∀ p ∈ [0, 3], let s : State := { rt with copies := [(p, some c)] }
       s.serving = true ∧ s.copy p = some c ∧ p ≠ 7 ∧ heldPage p = false ∧ s.atSafePoint p = true ∧ ¬ (p = 2 ∧ (s.power.idle.isSome = true ∨ s.power.vote.isSome = true))) ∧
     (let s : State := { sleeping .asleep false with copies := [(0x13, some c)] }
      s.copy 0x13 = some c ∧ heldPage 0x13 = false ∧ s.atSafePoint 0x13 = false)) ∧ rt.copy 3 = none ∧
    sideAddr [1, 0, 0] = none ∧ sideAddr [0, 0, 2] = none ∧ sideAddr [0xFC, 0xFF, 1] = some 0x1FFFC ∧ sideAddr [0xFC, 0xFF, 1, 1, 2, 3, 4] = some 0x1FFFC := by
  unfold State.pageFree; decide +kernel

theorem test_meets_DiscoveryNumbersTiles :
    (let s := withRing rt (fun r => { r with anchor := false })
     s.serving = true ∧ s.build.ring = true ∧ s.mode ≠ .sleep ∧ s.ring.broken = [] ∧ s.ring.anchor = false ∧ s.flag Reg.RING_STAT_NUMBERED = false) ∧
    (0 : BitVec 6).toNat < 31 ∧ (30 : BitVec 6).toNat < 31 ∧
    (∀ n ∈ [0, 31], let s := withRing rt (fun r => { r with discRun := true, discCw := some n })
     s.ring.anchor = true ∧ s.ring.discRun = true ∧ s.ring.discWait = false ∧ s.ring.discCw = some (BitVec.ofNat 6 n).toNat ∧ (BitVec.ofNat 6 n).toNat < 32) ∧
    32 ≤ (32 : BitVec 6).toNat ∧ (rt.ring.anchor = true ∧ rt.ring.discStop = false ∧ rt.ring.discRun = false) ∧
    (let s := withRing rt (fun r => { r with discRun := true, discWait := true }); s.ring.discRun = true ∧ s.ring.discWait = true) := by decide +kernel

theorem test_meets_LinksAndLosses :
    num.serving = true ∧ num.build.ring = true ∧ num.mode ≠ .sleep ∧ num.ring.broken = [] ∧ num.ring.broken.contains (true, 0) = false ∧
    num.ring.broken.contains (false, 31) = false ∧ num.bist.ringBad = false ∧ num.tileNo = 0 ∧
    (∀ n ∈ [6, 7], let s := withRing num (fun r => { r with lastCw := some (msg0, 9), lastCcw := some (msg0, 9), errCw := n, errCcw := n })
      s.lastOn true = some (msg0, 9) ∧ s.lastOn false = some (msg0, 9) ∧ s.ring.errCw = n ∧ s.ring.errCcw = n) ∧
    knownType 0x77 = false ∧ knownType 8 = true ∧ msg0.src = num.tileNo ∧ msg0.bc = false ∧ ({ msg0 with src := 1 } : RingMsg).src ≠ num.tileNo ∧
    (∀ t ∈ [0x08, 0x0B, 0x0D], (withRing num (fun r => { r with awaits := [await t 7] })).ring.awaits.find? (fun a => a.mseq == (7 : BitVec 12).toNat) = some (await t 7) ∧
      (await t 7).type = t ∧ (await t 7).again = false) ∧
    ((withReq num (req .rd .forwarded)).req? (await 8 7).forWhat).isSome = true ∧ num.ring.awaits.find? (fun a => a.mseq == (7 : BitVec 12).toNat) = none := by
  decide +kernel

theorem test_meets_MapsAreAgreed :
    num.serving = true ∧ num.build.ring = true ∧ num.mode ≠ .sleep ∧ num.ring.offer = none ∧
    (num.bump Reg.RING_CNT0_CORR 3).offerRefusal 3 9 okWords = none ∧ num.ring.applied.contains (3, 9) = false ∧
    (num.bump Reg.RING_CNT0_CORR 3).offerRefusal 3 9 (okWords.set 1 0x100000) = some 3 ∧
    (∀ mine ∈ [true, false], ∀ src ∈ [0, 3], let s := withRing num (fun r => { r with offer := some ⟨9, src, okWords, mine, 0, false⟩ })
      s.ring.offer = some ⟨9, src, okWords, mine, 0, false⟩) ∧ (3 : BitVec 5).toNat ≠ num.tileNo := by decide +kernel

theorem test_meets_MapsSwitchRetireAndMigrate :
    (let w : Switch := ⟨[0, 15], okWords, 0, 9⟩
     let s := withRing (mapped num) (fun r => { r with switch := some w })
     s.serving = true ∧ s.ring.switch = some w ∧ s.mapDrained w = true ∧ (withQE s entry).mapDrained w = false) ∧
    num.ring.applied.contains (3 + 64, 9) = false ∧ num.pageFree 0 7 ∧ num.mig = none ∧ num.ring.retire = none ∧
    (let s := withRing num (fun r => { r with offeredLast := true, retire := some 5 }); s.ring.offeredLast = true ∧ s.ring.retire = some 5 ∧ s.pageFree 0 7) ∧
    (∀ b ∈ [true, false], let g : Migration := ⟨0, 1, 5, b, 0, 0⟩
     let s := { mapped num with mig := some g }
     s.pageFree 0 7 ∧ s.mig = some g ∧ g.busy = b ∧ (s.entry 0).vld = true ∧ nextOwn (s.entry 0) s.tileNo 80 g.next.toNat = some 5) ∧
    (num.entry 0).vld = false ∧ nextOwn ((mapped num).entry 0) 0 80 (16 * 2 ^ 14) = none ∧ nextOwn ((mapped num).entry 0) 0 80 (16 * 2 ^ 14 - 1) = some (16 * 2 ^ 14 - 1) := by
  unfold State.pageFree; decide +kernel

theorem test_meets_ForwardedRequests :
    (let s := mapped num
     s.serving = true ∧ s.build.ring = true ∧ s.mode ≠ .sleep ∧ s.bist.ringBad = false ∧ s.ring.broken = [] ∧ s.reqs.all (fun r => r.rid != s.nextRid) = true ∧
      s.fwdStatus = none ∧ s.switchHolds 0 = false ∧ (match s.lookup 0 with | .here e m _ _ => decide (e = 0 ∧ m.ver = 0) | _ => false) = true) ∧
    (withRing (mapped num) (fun r => { r with switch := some ⟨[0], okWords, 0, 0⟩ })).switchHolds 0 = true ∧
    (match num.lookup 0 with | .here _ _ _ _ => false | _ => true) = true ∧
    ({ num with mode := .halt } : State).fwdStatus = some .halted ∧
    (let s := withReq num { req .wr .queued with org := .ring 3 9 }
     s.reqs.find? (fun r => r.org == .ring 3 9 && carriesData r.op) = some { req .wr .queued with org := .ring 3 9 } ∧
      (0 : BitVec 2).toNat < (req .wr .queued).lines ∧ s.wbuf.any (fun w => w.rid == some 7 && w.idx == 0) = false) ∧
    (let s := withRing (withReq num { req .rd .forwarded with rsv := 1 }) (fun r => { r with awaits := [await 8 7] })
     s.awaitOf 0x08 7 = some (await 8 7) ∧ s.req? 7 = some { req .rd .forwarded with rsv := 1 } ∧ (statusOf 0).whole = false ∧ (statusOf 3).whole = false ∧
       (statusOf 4).whole = true ∧ (1 : Nat) = (req .rd .forwarded).owed) ∧ num.awaitOf 0x08 7 = none := by decide +kernel

theorem test_meets_MirrorTraffic :
    num.serving = true ∧ num.build.ring = true ∧ num.chUp 0 = true ∧ num.mode ≠ .sleep ∧ num.mode ≠ .endgame ∧ num.mode ≠ .halt ∧ (num.setChState 0 2).chUp 0 = false ∧
    (∀ w ∈ [0, 4], ∀ t ∈ [0x0B, 0x0D], let s := (withRing num (fun r => { r with awaits := [await t w] })).bump Reg.RING_CNT0_CORR 1
      s.awaitOf t 7 = some (await t w) ∧ (await t w).forWhat = w) ∧ num.awaitOf 0x0B 7 = none ∧ num.awaitOf 0x0D 7 = none := by decide +kernel

theorem test_meets_TokensGoRound :
    num.serving = true ∧ num.build.ring = true ∧ num.ring.broken = [] ∧ num.mode ≠ .sleep ∧ num.mode ≠ .endgame ∧
    num.ring.tokens.any (fun t => t.1 == (7 : BitVec 3).toNat) = false ∧ num.ring.tokBack.contains (7 : BitVec 3).toNat = false ∧
    num.ring.tokOut.any (fun t => t.1 == (7 : BitVec 3).toNat) = false ∧ num.ring.anchor = true ∧ ({ num with mode := .endgame } : State).mode = .endgame ∧
    (let s := withRing num (fun r => { r with tokens := [(7, 0)], tokOut := [(7, 0)] })
     s.ring.tokens.any (fun t => t.1 == (7 : BitVec 3).toNat) = true ∧ s.ring.tokOut.any (fun t => t.1 == (7 : BitVec 3).toNat) = true ∧ s.ring.anchor = true) := by
  decide +kernel

theorem test_meets_FaultNoteOnlyShows :
    num.serving = true ∧ num.build.ring = true ∧ (5 : BitVec 5).toNat ≠ num.tileNo ∧ (0 : BitVec 5).toNat = num.tileNo ∧
    ({ num with mode := .sleep } : State).serving = true ∧
    (let g := Reg.RING_STAT_TILE_NO
     g.lo ≤ g.hi ∧ g.hi < 32 ∧ [Reg.RING_CNT0_CORR, Reg.RING_NOTE_TILE, Reg.RING_NOTE_SRC, Reg.RING_NOTE_CLASS, Reg.RING_NOTET_TEMPO, Reg.RING_EVT_NOTE].all
          (fun f => decide (f.key ≠ g.key) || decide (f.hi < g.lo) || decide (g.hi < f.lo)) = true) := by decide +kernel

theorem test_meets_LengthEncoding :
    (req .rd .queued).op = .rd ∧ (req .ulk .queued).op ≠ .flush ∧ (∀ n : BitVec 2, ({ req .wr .queued with flit := { flit with len := n } } : Req).flit.len = n) ∧
    (∀ c ∈ [(6 : BitVec 5), 0x1F], listedOp (req (.other c) .queued).op = false) := by decide +kernel

theorem test_meets_BankHash : ({ rt.chDec 0 with bhash := true } : ChDec).bhash = true := rfl

end Sys2Proof.Tests
end

/-! SUPPORT and settlements of the statements about the register store: a field's read after a write (O9), the canonical form of the
store (O10), and the write of an ordinary register (O48). -/

namespace Sys2Proof.Machine

open Sys2Proof

/-! ## Fields (O9, O10) -/

/-- Within one register a field is put into the register's word. -/
theorem State.setFld_fld_same_key (s : State) {f g : FRef} (v : Nat) (h : f.key = g.key) :
    (s.setFld f v).fld g = g.get (f.put (s.word g.key) v) := by
  unfold State.fld State.setFld
  rw [← h, State.setWord_word]

/-- A field of another register, or of the same one without a bit in common, reads as before. -/
theorem State.setFld_fld_of_apart (s : State) {f g : FRef} (v : Nat) (hf : f.hi < 32) (hg : g.hi < 32)
    (hapart : f.key ≠ g.key ∨ f.hi < g.lo ∨ g.hi < f.lo) : (s.setFld f v).fld g = s.fld g := by
  by_cases hkey : f.key = g.key
  · have hbits : f.hi < g.lo ∨ g.hi < f.lo := hapart.resolve_left (absurd hkey)
    rw [State.setFld_fld_same_key s v hkey, FRef.get_put_disj f g _ v hf hg hbits]
    rfl
  · exact State.setFld_fld_ne s f g v (Ne.symm hkey)

/-- Settles O9: the word read back is the word put, and `FRef.put` changes the field's own bits alone. -/
theorem fieldReadAfterWrite : Obligations.FieldReadAfterWrite := by
  intro s f g v hf hf32 _ hg32
  refine ⟨?_, State.setFld_fld_of_apart s v hf32 hg32⟩
  rw [State.setFld_fld_same_key s v rfl, FRef.get_put_same f _ v hf hf32]

theorem State.setWord_regsOk {s : State} (h : s.regsOk) (key : Nat) (w : Word) : (s.setWord key w).regsOk :=
  Tab.wf_tput resetWord key w s.regs h

/-- Settles O10: a register write is one `tput` against the register's reset word. -/
theorem registerStoreCanonical : Obligations.RegisterStoreCanonical :=
  fun _ _ _ h => State.setWord_regsOk h _ _

/-! ## A plain write (R9, R521) -/

@[simp] theorem State.setStaged_stagedWord (s : State) (k : Nat) (w : Word) : (s.setStaged k w).stagedWord k = w := by
  simp [State.stagedWord, State.setStaged, tget_tins _ _ _ _ _ (tdel_ne s.stg k)]

/-- An active word after a write: RW bits take the new value, W1C bits written 1 clear, every other bit stays. -/
def writtenWord (p off : Nat) (old w : Word) : Word :=
  (old &&& ~~~accMask p off .rw &&& ~~~(accMask p off .w1c &&& w)) ||| (w &&& accMask p off .rw)

/-- The part of a plain write that takes effect at once: the active word, where the register has a bit that is written at once. -/
def State.writeActive (s : State) (p off : Nat) (w : Word) : State :=
  if accMask p off .rw ||| accMask p off .w1c = 0 then s else s.setWord (regKey p off) (writtenWord p off (s.word (regKey p off)) w)

theorem State.plainWrite_eq (s : State) (p off : Nat) (w : Word) (stage : Bool) :
    s.plainWrite p off w stage =
      if stage && decide (accMask p off .rs ≠ 0) then
        (s.writeActive p off w).setStaged (regKey p off)
          ((s.stagedWord (regKey p off) &&& ~~~accMask p off .rs) ||| (w &&& accMask p off .rs))
      else s.writeActive p off w := rfl

/-- The active word is as R9 says also where no word is written, for want of a bit that is written at once. -/
theorem State.writeActive_word (s : State) (p off : Nat) (w : Word) :
    (s.writeActive p off w).word (regKey p off) = writtenWord p off (s.word (regKey p off)) w := by
  unfold State.writeActive
  split
  next hnone =>
    obtain ⟨hrw, hw1c⟩ := BitVec.or_eq_zero_iff.1 hnone
    simp only [writtenWord, hrw, hw1c, BitVec.not_zero, BitVec.zero_and, BitVec.and_zero, BitVec.or_zero, BitVec.and_allOnes]
  next => exact State.setWord_word _ _ _

theorem State.plainWrite_word (s : State) (p off : Nat) (w : Word) (stage : Bool) :
    (s.plainWrite p off w stage).word (regKey p off) = writtenWord p off (s.word (regKey p off)) w := by
  rw [State.plainWrite_eq, ← State.writeActive_word]
  split
  · exact State.setStaged_word _ _ _ _
  · rfl

/-- RS bits are written in the staged word. -/
theorem State.plainWrite_stagedWord (s : State) (p off : Nat) (w : Word) (hrs : accMask p off .rs ≠ 0) :
    (s.plainWrite p off w true).stagedWord (regKey p off) =
      (s.stagedWord (regKey p off) &&& ~~~accMask p off .rs) ||| (w &&& accMask p off .rs) := by
  rw [State.plainWrite_eq, if_pos (by simpa using hrs), State.setStaged_stagedWord]

/-- A plain write touches the register store and the staged words alone. -/
theorem State.plainWrite_frame (s : State) (p off : Nat) (w : Word) (stage : Bool) :
    { s.plainWrite p off w stage with regs := s.regs, stg := s.stg } = s := by
  rw [State.plainWrite_eq]
  unfold State.writeActive
  split <;> split <;> rfl

/-! ## A write over the management port (R515, R516, R524) -/

/-- On a free page of a tile that is awake an access has no effect beside its body's. -/
theorem State.busWrite_of_pageFree {s : State} {agent : BitVec 4} {p off : Nat} (h : s.pageFree agent p) (hp : p < 0x1C) (hoff : off < 0x1000)
    (w : Word) (src : Nat) (v1 v2 : Bool) :
    s.busWrite agent.toNat (regKey p off) w src v1 v2 =
      ((s.writeBody agent.toNat p off w v1 v2).1, (s.writeBody agent.toNat p off w v1 v2).2.wakeWork) := by
  obtain ⟨-, hawake, -, hclaim⟩ := h
  have hpage : regKey p off / 0x1000 = p := by unfold regKey; omega
  have hofs : regKey p off % 0x1000 = off := by unfold regKey; omega
  have hwake : s.wakeAccess p src = s := if_pos (.inr (.inr hawake))
  have htouch : s.touchClaim agent.toNat p = s := by simp [State.touchClaim, hclaim]
  simp [State.busWrite, hpage, hofs, hwake, htouch, Nat.not_le.2 hp]

/-- The body of a write of a register without an effect of its own, on a page nobody claims: the plain write with staging, then what it
triggers, answered OK. -/
theorem State.writeBody_plain {s : State} {agent p off : Nat} {w : Word} {v1 v2 : Bool} (hclaim : s.claim p = none) (hoff : 0x40 ≤ off)
    (hbuilt : s.pageBuilt p = true) (hcryp : p ≠ 6) (hbeng : ¬ (p = 0x13 ∧ off = 0x044))
    (hppr : ¬ (p = 0x15 ∧ (off = 0x06C ∨ off = 0x070))) (hown : s.ownWrite agent p off w v1 v2 = none) :
    s.writeBody agent p off w v1 v2 = (stOk, (s.plainWrite p off w true).triggers agent p off w) := by
  have hheld : s.heldByOther agent p = false := by simp [State.heldByOther, hclaim]
  unfold State.writeBody
  rw [if_neg (by omega), if_neg (by omega), if_neg (by omega), if_neg (by simp [hbuilt]), if_neg (fun h => hcryp h.1), if_neg hbeng,
    if_neg hppr]
  simp [hheld, hown]

/-- An agent the port does not accept is answered DECLINED. -/
theorem State.mgtWrite_declined (s : State) {agent : Nat} (h : mgtAgent agent = false) (a : Nat) (w : Word) (v1 v2 : Bool) :
    s.mgtWrite agent a w v1 v2 = s.emit (.mgt 0 2) := by
  simp [State.mgtWrite, h, stDeclined]

/-- An accepted agent's write over the management port: its bus write, then the answer. -/
theorem State.mgtWrite_accepted {s u : State} {agent a st : Nat} {w : Word} {v1 v2 : Bool} (h : mgtAgent agent = true)
    (hbus : s.busWrite agent a w 4 v1 v2 = (st, u)) : s.mgtWrite agent a w v1 v2 = u.emit (.mgt 0 (BitVec.ofNat 2 st)) := by
  simp [State.mgtWrite, h, hbus]

theorem exec_registerWrite {s : State} (h : s.serving = true) (agent : BitVec 4) (addr : BitVec 17) (w : Word) (v1 v2 : Bool) :
    exec (.registerWrite agent addr w v1 v2) s = .next (s.done (s.mgtWrite agent.toNat (addr.toNat / 4 * 4) w v1 v2)) := by
  show execRegisterWrite agent addr w v1 v2 s = _
  unfold execRegisterWrite
  rw [act_next h]
  rfl

/-- The seventeen address bits hold every register's address, and a register's address is a multiple of 4 (R514, R518). -/
theorem regKey_of_addr {p off : Nat} (hp : p < 0x1C) (hoff : off < 0x1000) (halign : off % 4 = 0) :
    (BitVec.ofNat 17 (p * 0x1000 + off)).toNat / 4 * 4 = regKey p off := by
  rw [BitVec.toNat_ofNat]
  unfold regKey
  omega

/-- Settles O48: on a free page the write is the plain write, and an agent not accepted leaves only the answer. -/
theorem registerWriteFollowsAccessKind : Obligations.RegisterWriteFollowsAccessKind := by
  refine ⟨?_, ?_⟩
  · intro agent p off w v1 v2 s hfree hbuilt hp hlow hoff halign hcryp hbeng hppr hown
    have ⟨hserve, _, hagent, hclaim⟩ := hfree
    have hbody := State.writeBody_plain hclaim hlow hbuilt hcryp hbeng hppr hown
    have hbus := State.busWrite_of_pageFree hfree hp hoff w 4 v1 v2
    rw [hbody] at hbus
    refine ⟨s.plainWrite p off w true, ?_, State.plainWrite_word s p off w true, State.plainWrite_stagedWord s p off w,
      State.plainWrite_frame s p off w true⟩
    rw [exec_registerWrite hserve, regKey_of_addr hp hoff halign, State.mgtWrite_accepted hagent hbus]
    rfl
  · intro agent addr w v1 v2 s hserve hagent
    rw [exec_registerWrite hserve, State.mgtWrite_declined s hagent]

end Sys2Proof.Machine

/-! SUPPORT and settlement of the statement about the step on an empty queue (O2). -/

namespace Sys2Proof.Machine

open Sys2Proof

/-- Moving Tempo forward stands at the later of the two times: nothing is lost between the 40 bits of Tempo and their wraps. -/
theorem State.advanceLong_longTime (s : State) (n : Nat) : (s.advanceLong n).longTime = max s.longTime n := by
  unfold State.advanceLong
  split
  next hle => exact (max_eq_left hle).symm
  next hlt =>
    calc n / 2 ^ 40 * 2 ^ 40 + (BitVec.ofNat 40 n).toNat
      _ = n / 2 ^ 40 * 2 ^ 40 + n % 2 ^ 40 := by rw [BitVec.toNat_ofNat]
      _ = n := Nat.div_add_mod' n _
      _ = max s.longTime n := (max_eq_right (Nat.le_of_not_le hlt)).symm

theorem step_of_pending_nil {s : State} (h : s.pending = []) : step s = .next (idleStep s) := by
  simp only [step, h]

/-- Settles O2: the idle step moves Tempo to one nanosecond later, and moving Tempo touches nothing else. -/
theorem idleCountsTempo : Obligations.IdleCountsTempo := by
  intro s hempty
  have htime : (idleStep s).longTime = s.longTime + 1 :=
    (State.advanceLong_longTime s _).trans (max_eq_right (Nat.le_succ _))
  exact ⟨idleStep s, step_of_pending_nil hempty, htime, idle_frame s⟩

end Sys2Proof.Machine

/-! SUPPORT. The host port family (O11, O13-O15, O36, O55, O59): what its shared operations over the state leave as it was. -/

namespace Sys2Proof.Machine

open Sys2Proof

/-! ## Lists -/

theorem mapIf_eq_self {α : Type} {p : α → Bool} {l : List α} (f : α → α) (h : ∀ x ∈ l, p x = false) : mapIf p f l = l := by
  have hid : ∀ x ∈ l, (if p x then f x else x) = id x := fun x hx => by simp [h x hx]
  rw [mapIf, List.map_congr_left hid, List.map_id]

/-- The element an update meets is there afterwards, updated. -/
theorem mem_mapIf {α : Type} {p : α → Bool} {l : List α} (f : α → α) {x : α} (hx : x ∈ l) : (if p x then f x else x) ∈ mapIf p f l :=
  List.mem_map_of_mem hx

theorem mem_mapIf_of_pos {α : Type} {p : α → Bool} {l : List α} (f : α → α) {x : α} (hx : x ∈ l) (hp : p x = true) :
    f x ∈ mapIf p f l := by
  simpa [hp] using mem_mapIf (p := p) f hx

/-- A fold whose step does nothing for any listed element does nothing. -/
theorem foldl_eq_self_of_mem {α β : Type} {f : β → α → β} {l : List α} {b : β} (h : ∀ x ∈ l, f b x = b) : l.foldl f b = b := by
  induction l with
  | nil => rfl
  | cons x l ih => rw [List.foldl_cons, h x List.mem_cons_self, ih fun y hy => h y (List.mem_cons_of_mem _ hy)]

/-! ## Buffer levels (R45, R46) -/

theorem State.level_frame (s : State) (occ : Nat) (hi lo lvl evHi evLo : FRef) :
    { s.level occ hi lo lvl evHi evLo with regs := s.regs } = s := by
  unfold State.level
  split <;> split <;> rfl

/-- A register that holds neither a live level nor a latch of one reads as before. -/
theorem State.level_fld {s : State} {lvl evHi evLo g : FRef} (hlvl : g.key ≠ lvl.key) (hhi : g.key ≠ evHi.key) (hlo : g.key ≠ evLo.key)
    (occ : Nat) (hi lo : FRef) : (s.level occ hi lo lvl evHi evLo).fld g = s.fld g := by
  unfold State.level State.set1 State.clr
  split <;> split
  · rw [State.setFld_fld_ne _ _ _ _ hlo, State.setFld_fld_ne _ _ _ _ hlvl]
  · rfl
  · rw [State.setFld_fld_ne _ _ _ _ hhi, State.setFld_fld_ne _ _ _ _ hlvl]
  · rfl

/-- The levels touch the register store alone. -/
theorem State.levels_frame (s : State) : { s.levels with regs := s.regs } = s := by
  unfold State.levels
  refine Eq.trans ?_ (State.level_frame s s.wbOcc Reg.GLOB_WBWM_HI Reg.GLOB_WBWM_LO Reg.GLOB_BUFLVL_WB_LVL Reg.GLOB_BUFEVT_WB_HI
    Reg.GLOB_BUFEVT_WB_LO)
  exact congrArg (fun t : State => { t with regs := s.regs }) (State.level_frame _ _ _ _ _ _ _)

@[simp] theorem State.levels_ports (s : State) : s.levels.ports = s.ports := (congrArg State.ports s.levels_frame :)
@[simp] theorem State.levels_port (s : State) (p : Nat) : s.levels.port p = s.port p := congrArg (tget port0 · p) s.levels_ports
@[simp] theorem State.levels_outputs (s : State) : s.levels.outputs = s.outputs := (congrArg State.outputs s.levels_frame :)

/-- The levels and their latches stand on page GLOB: a register of another page reads as before. -/
theorem State.levels_fld {g : FRef} (hpage : 0x1000 ≤ g.key) (s : State) : s.levels.fld g = s.fld g := by
  have hne : ∀ f : FRef, f.key < 0x1000 → g.key ≠ f.key := fun f hf => by omega
  unfold State.levels
  rw [State.level_fld (hne _ (by decide)) (hne _ (by decide)) (hne _ (by decide)),
    State.level_fld (hne _ (by decide)) (hne _ (by decide)) (hne _ (by decide))]

/-! ## Register fields -/

theorem State.set1_flag_same (s : State) {f : FRef} (hf : f.lo ≤ f.hi) (hf32 : f.hi < 32) : (s.set1 f).flag f = true := by
  have hone : 1 < 2 ^ (f.hi + 1 - f.lo) := Nat.one_lt_two_pow (by omega)
  rw [State.flag, State.set1, (fieldReadAfterWrite s f f 1 hf hf32 hf hf32).1, Nat.mod_eq_of_lt hone]
  rfl

/-- A counter field reads its saturated sum: it never needs a bit beyond its own. -/
theorem State.bump_fld_same (s : State) {f : FRef} (n : Nat) (hf : f.lo ≤ f.hi) (hf32 : f.hi < 32) :
    (s.bump f n).fld f = satAdd (f.hi + 1 - f.lo) (s.fld f) n := by
  have hpos : 0 < 2 ^ (f.hi + 1 - f.lo) := Nat.two_pow_pos _
  have hfits : satAdd (f.hi + 1 - f.lo) (s.fld f) n < 2 ^ (f.hi + 1 - f.lo) := by unfold satAdd; omega
  rw [State.bump, (fieldReadAfterWrite s f f _ hf hf32 hf hf32).1, Nat.mod_eq_of_lt hfits]

theorem State.exists_report_of_raise (s : State) (n : Nat) (w : Place) : ∃ r ∈ (s.raise n w).fault.reports, r.src = n :=
  ⟨_, List.mem_append_right _ List.mem_cons_self, rfl⟩

/-! ## A port's commands in service -/

/-- A command of a built port, in service, is its effect with what follows. -/
theorem exec_writeDataFlit {s : State} {p : Nat} (h : s.serving = true) (hb : s.portBuilt p = true) (f : WdFlit) :
    exec (.writeDataFlit p f) s = .next (s.done (s.wdArrive p f)) := actIf_next hb h _

theorem exec_responseSend {s : State} {p : Nat} (h : s.serving = true) (hb : s.portBuilt p = true) (upset : LineData) :
    exec (.responseSend p upset) s = .next (s.done (s.sendNext p upset)) := actIf_next hb h _

theorem exec_responseRelease {s : State} {p : Nat} (h : s.serving = true) (hb : s.portBuilt p = true) (q : BitVec 12) :
    exec (.responseRelease p q) s = .next (s.done (s.release p q)) := actIf_next hb h _

theorem exec_negativeAcknowledge {s : State} {p : Nat} (h : s.serving = true) (hb : s.portBuilt p = true) (q : BitVec 12) :
    exec (.negativeAcknowledge p q) s = .next (s.done (s.nak p q)) := actIf_next hb h _

end Sys2Proof.Machine

/-! SUPPORT and settlement of the statement about the len field (O59). -/

namespace Sys2Proof.Machine

open Sys2Proof

theorem lineCount_of_rd_or_wr {op : Op} (h : op = .rd ∨ op = .wr) (f : RqFlit) :
    lineCount op f = if f.len = 1 then 2 else if f.len = 2 then 4 else 1 := by
  rcases h with rfl | rfl <;> rfl

theorem reqIllegal_of_len_three {r : Req} (hop : r.op ≠ .flush) (hlen : r.flit.len = 3) : reqIllegal r = true := by
  simp [reqIllegal, hop, hlen]

theorem reqIllegal_of_not_listed {r : Req} (h : listedOp r.op = false) : reqIllegal r = true := by
  simp [reqIllegal, h]

/-- Settles O59: the line count goes by len (R33), and a len of 0b11 (R33, R35) or an opcode not listed (R34, log entry 76) is a ground of its own
to be illegal. -/
theorem lengthEncoding : Obligations.LengthEncoding := by
  refine ⟨fun r hop => ?_, fun r => reqIllegal_of_len_three, fun r => reqIllegal_of_not_listed⟩
  have hlines : r.lines = if r.flit.len = 1 then 2 else if r.flit.len = 2 then 4 else 1 := lineCount_of_rd_or_wr hop r.flit
  refine ⟨fun hlen => ?_, fun hlen => ?_, fun hlen => ?_⟩ <;> rw [hlines, hlen] <;> rfl

end Sys2Proof.Machine

/-! SUPPORT and settlement of the statement about write-data flits (O13). -/

namespace Sys2Proof.Machine

open Sys2Proof

/-! ## Where a write-data flit goes (R37, R38, R48, R50, R60) -/

/-- A flit with a credit takes it and is placed. -/
theorem State.wdArrive_of_credit {s : State} {p : Nat} (hrst : (s.port p).rst = false) (hcred : (s.port p).creds ≠ 0) (f : WdFlit) :
    s.wdArrive p f = (s.setPort p { s.port p with creds := (s.port p).creds - 1 }).placeWd p f := by
  simp [State.wdArrive, hrst, hcred]

/-- The flit of a line its request waits for is buffered, and may complete the request. -/
theorem State.placeWd_of_fits {s : State} {p : Nat} {f : WdFlit} {r : Req} (howner : s.wdOwner p f.tag = some r)
    (hidx : f.idx.toNat < r.lines) (hnew : s.hasLine r.rid f.idx.toNat = false) :
    s.placeWd p f =
      ((s.noteData (some r.rid)).pushLine ⟨some p, some r.rid, f.tag, f.idx.toNat, f.data, f.upset⟩).levels.tryAnswer r.rid := by
  have hfits : (decide (r.lines ≤ f.idx.toNat) || s.hasLine r.rid f.idx.toNat) = false := by simp [hidx, hnew]
  unfold State.hasLine at hfits
  simp only [State.placeWd, State.putWd, howner, hfits, Bool.false_eq_true, if_false]

/-- A flit beyond its request's lines, or of a line already there, is discarded. -/
theorem State.placeWd_of_bad {s : State} {p : Nat} {f : WdFlit} {r : Req} (howner : s.wdOwner p f.tag = some r)
    (hbad : r.lines ≤ f.idx.toNat ∨ s.hasLine r.rid f.idx.toNat = true) : s.placeWd p f = (s.badFlit p).tryAnswer r.rid := by
  have hunfit : (decide (r.lines ≤ f.idx.toNat) || s.hasLine r.rid f.idx.toNat) = true := by simpa using hbad
  unfold State.hasLine at hunfit
  simp only [State.placeWd, State.putWd, howner, hunfit, if_true]

/-- The flit of no request is an orphan line, unless the same one is there. -/
theorem State.placeWd_of_orphan {s : State} {p : Nat} {f : WdFlit} (howner : s.wdOwner p f.tag = none) :
    s.placeWd p f =
      if s.wbuf.any (fun w => w.own == some p && w.rid == none && w.tag == f.tag && w.idx == f.idx.toNat) then s.badFlit p
      else (s.pushLine ⟨some p, none, f.tag, f.idx.toNat, f.data, f.upset⟩).levels := by
  simp only [State.placeWd, State.putWd, howner]
  rfl

/-- Settles O13: by the port's reset, its credits, and the request the flit belongs to. -/
theorem writeDataFlitTakesACredit : Obligations.WriteDataFlitTakesACredit := by
  intro p f s x hserve hbuilt hx
  rw [exec_writeDataFlit hserve hbuilt]
  refine ⟨fun hrst => ?_, fun hrst hcred => ?_, fun hrst hcred => ?_⟩
  · simp [State.wdArrive, hrst]
  · simp [State.wdArrive, hrst, hcred]
  · have howner : x.wdOwner p f.tag = s.wdOwner p f.tag := by rw [hx]; rfl
    have hline : ∀ rid i, x.hasLine rid i = s.hasLine rid i := fun _ _ => by rw [hx]; rfl
    have hwbuf : s.wbuf = x.wbuf := by rw [hx]; rfl
    rw [State.wdArrive_of_credit hrst hcred, ← hx, ← howner, hwbuf]
    refine ⟨fun r hr hidx hnew => ?_, fun r hr hbad => ?_, fun hnone => ?_⟩
    · rw [State.placeWd_of_fits hr hidx ((hline _ _).trans hnew)]
    · rw [State.placeWd_of_bad hr (hbad.imp_right (hline _ _).trans)]
    · rw [State.placeWd_of_orphan hnone]

end Sys2Proof.Machine

/-! SUPPORT and settlements of the statements about a port's response channel: RESPONSE_SEND (O14), RESPONSE_RELEASE and NEGATIVE_ACKNOWLEDGE
(O15). -/

namespace Sys2Proof.Machine

open Sys2Proof

/-! ## Sending (R55, R57) -/

/-- Settles O14: a port that does not repeat sends its next ready flit, one that repeats the kept flit it has come to. -/
theorem responseSentInSequence : Obligations.ResponseSentInSequence := by
  intro p upset f s hserve hbuilt hrst
  rw [exec_responseSend hserve hbuilt]
  refine ⟨fun hrep hnext => ?_, fun k hrep hsent => ?_⟩
  · simp only [State.sendNext, hrst, hrep, hnext, Bool.false_eq_true, if_false]
  · simp only [State.sendNext, hrst, hrep, hsent, Bool.false_eq_true, if_false]

/-! ## Release and rewind (R56-R58, R60) -/

/-- What is left to repeat, of a repeat that stands at `rep`, once the first `k + 1` of `n` sent entries are freed. -/
def repeatLeft (rep : Option Nat) (k n : Nat) : Option Nat :=
  match rep with
  | some j => if j - (k + 1) < n - (k + 1) then some (j - (k + 1)) else none
  | none => none

/-- The port after a release of place `k`. -/
def Port.released (x : Port) (k : Nat) : Port :=
  { x with sent := x.sent.drop (k + 1), rep := repeatLeft x.rep k x.sent.length, nakSeq := none, nakRun := 0 }

theorem State.release_of_place {s : State} {p k : Nat} {q : BitVec 12} (hrst : (s.port p).rst = false) (hk : (s.port p).place q = some k) :
    s.release p q = (s.setPort p ((s.port p).released k)).levels := by
  simp only [State.release, hk]
  exact if_neg (by simp [hrst])

theorem State.release_port {s : State} {p k : Nat} {q : BitVec 12} (hrst : (s.port p).rst = false) (hk : (s.port p).place q = some k)
    (j : Nat) : (s.release p q).port j = if j = p then (s.port p).released k else s.port j := by
  rw [State.release_of_place hrst hk, State.levels_port, State.setPort_port]

/-- The length of the run of negative acknowledges that one of `q` makes (R58). -/
def Port.nakLength (x : Port) (q : BitVec 12) : Nat := if x.nakSeq = some q then x.nakRun + 1 else 1

theorem Port.nakLength_eq_eight_iff (x : Port) (q : BitVec 12) : x.nakLength q = 8 ↔ x.nakSeq = some q ∧ x.nakRun = 7 := by
  unfold Port.nakLength
  split <;> simp_all

/-- The port after a negative acknowledge of place `k`: it repeats from there. -/
def Port.rewound (x : Port) (q : BitVec 12) (k : Nat) : Port :=
  { x with sent := x.sent.drop k, rep := some 0, nakSeq := some q, nakRun := if x.nakLength q = 8 then 0 else x.nakLength q }

theorem Port.rewound_nakRun_of_eight {x : Port} {q : BitVec 12} (h : x.nakLength q = 8) (k : Nat) : (x.rewound q k).nakRun = 0 := by
  simp [Port.rewound, h]

/-- The tile after a counted negative acknowledge of place `k`, before the run is judged. -/
def State.rewound (s : State) (p : Nat) (q : BitVec 12) (k : Nat) : State :=
  ((s.bump (Reg.HPT_NAKCNT_NAKS p)).setPort p ((s.port p).rewound q k)).levels

theorem State.nak_of_place {s : State} {p k : Nat} {q : BitVec 12} (hrst : (s.port p).rst = false) (hk : (s.port p).place q = some k) :
    s.nak p q = if (s.port p).nakLength q = 8 then ((s.rewound p q k).set1 (Reg.HPT_EVT_NAK_LIMIT p)).raise 0x04 (atPort p)
      else s.rewound p q k := by
  simp only [State.nak, hk, decide_eq_true_eq]
  exact if_neg (by simp [hrst])

/-- A rewind touches its port and the register store alone. -/
theorem State.rewound_frame (s : State) (p k : Nat) (q : BitVec 12) : { s.rewound p q k with ports := s.ports, regs := s.regs } = s :=
  congrArg (fun t : State => { t with ports := s.ports, regs := s.regs }) (State.levels_frame _)

theorem State.rewound_fault (s : State) (p k : Nat) (q : BitVec 12) : (s.rewound p q k).fault = s.fault :=
  (congrArg State.fault (s.rewound_frame p k q) :)

/-- The count stands on the port's page, out of the levels' reach. -/
theorem State.rewound_nakCount (s : State) (p k : Nat) (q : BitVec 12) :
    (s.rewound p q k).fld (Reg.HPT_NAKCNT_NAKS p) = satAdd 16 (s.fld (Reg.HPT_NAKCNT_NAKS p)) 1 := by
  have hpage : 0x1000 ≤ (Reg.HPT_NAKCNT_NAKS p).key := by simp only [FRef.key, regKey, Reg.HPT_NAKCNT_NAKS]; omega
  rw [State.rewound, State.levels_fld hpage, State.setPort_fld,
    State.bump_fld_same s 1 (show 0 ≤ 15 by decide) (show 15 < 32 by decide)]
  rfl

/-- The event of the eighth negative acknowledge has a register of its own, beside the count's. -/
theorem HPT_NAKCNT_key_ne_HPT_EVT_key (p : Nat) : (Reg.HPT_NAKCNT_NAKS p).key ≠ (Reg.HPT_EVT_NAK_LIMIT p).key := by
  simp only [FRef.key, regKey, Reg.HPT_NAKCNT_NAKS, Reg.HPT_EVT_NAK_LIMIT]
  omega

/-- An event and a report touch the register store and the fault collector alone. -/
theorem State.set1_raise_frame {s t : State} (h : { t with ports := s.ports, regs := s.regs } = s) (f : FRef) (n : Nat) (w : Place) :
    { (t.set1 f).raise n w with ports := s.ports, regs := s.regs, fault := s.fault } = s :=
  congrArg (fun u : State => { u with fault := s.fault }) h

section
variable {s : State} {p k : Nat} {q : BitVec 12} (hrst : (s.port p).rst = false) (hk : (s.port p).place q = some k)
include hrst hk

theorem State.nak_port (j : Nat) : (s.nak p q).port j = if j = p then (s.port p).rewound q k else s.port j := by
  rw [State.nak_of_place hrst hk]
  split <;> simp [State.rewound]

theorem State.nak_nakCount : (s.nak p q).fld (Reg.HPT_NAKCNT_NAKS p) = satAdd 16 (s.fld (Reg.HPT_NAKCNT_NAKS p)) 1 := by
  rw [State.nak_of_place hrst hk, ← s.rewound_nakCount p k q]
  split
  · rw [State.raise_fld, State.set1, State.setFld_fld_ne _ _ _ _ (HPT_NAKCNT_key_ne_HPT_EVT_key p)]
  · rfl

theorem State.nak_frame : { s.nak p q with ports := s.ports, regs := s.regs, fault := s.fault } = s := by
  rw [State.nak_of_place hrst hk]
  split
  · exact State.set1_raise_frame (s.rewound_frame p k q) _ _ _
  · exact congrArg (fun t : State => { t with fault := s.fault }) (s.rewound_frame p k q)

end

theorem State.release_frame {s : State} {p k : Nat} {q : BitVec 12} (hrst : (s.port p).rst = false) (hk : (s.port p).place q = some k) :
    { s.release p q with ports := s.ports, regs := s.regs } = s := by
  rw [State.release_of_place hrst hk]
  exact congrArg (fun t : State => { t with ports := s.ports, regs := s.regs }) (State.levels_frame _)

/-- Settles O15: by the number's place among the sent entries, and for a negative acknowledge by whether it is the eighth of its run. That one
outside the range leaves a run as it is, is log entry 85. -/
theorem releaseAndNegativeAcknowledge : Obligations.ReleaseAndNegativeAcknowledge := by
  intro p q s hserve hbuilt _
  rw [exec_responseRelease hserve hbuilt, exec_negativeAcknowledge hserve hbuilt]
  refine ⟨fun hrst => ?_, fun hrst hnone => ?_, fun k hrst hk => ⟨⟨_, rfl, ?_⟩, ⟨_, rfl, ?_⟩⟩⟩
  · simp [State.release, State.nak, hrst]
  · simp [State.release, State.nak, hrst, hnone]
  · have hport := State.release_port hrst hk
    have hself := hport p
    rw [if_pos rfl] at hself
    rw [hself]
    exact ⟨rfl, rfl, rfl, rfl, fun j hj => (hport j).trans (if_neg hj), State.release_frame hrst hk⟩
  · have hport := State.nak_port hrst hk
    have hself := hport p
    rw [if_pos rfl] at hself
    rw [hself]
    refine ⟨rfl, rfl, rfl, rfl, State.nak_nakCount hrst hk, ?_, fun j hj => (hport j).trans (if_neg hj), State.nak_frame hrst hk⟩
    split
    next heighth =>
      have hlen := (Port.nakLength_eq_eight_iff _ q).2 heighth
      rw [State.nak_of_place hrst hk, if_pos hlen]
      refine ⟨Port.rewound_nakRun_of_eight hlen k, ?_, State.exists_report_of_raise _ _ _⟩
      rw [State.raise_flag]
      exact State.set1_flag_same _ (show 3 ≤ 3 by decide) (show 3 < 32 by decide)
    next hless =>
      have hlen := mt (Port.nakLength_eq_eight_iff _ q).1 hless
      rw [State.nak_of_place hrst hk, if_neg hlen, State.rewound_fault]

end Sys2Proof.Machine

/-! SUPPORT and settlement of the statement about what follows an effect (O36). -/

namespace Sys2Proof.Machine

open Sys2Proof

/-! ## Where nothing follows an effect (R23, R31, R100, R146, R177, R446-R448) -/

theorem State.sendNewLines_eq_self {u : State} (h : ∀ a ∈ u.ring.awaits, a.type ≠ 0x08) (s : State) : u.sendNewLines s = u := by
  have hnone : u.ring.awaits.filter (fun a => a.type == 0x08) = [] := by simpa using h
  rw [State.sendNewLines, hnone, List.foldl_nil]

theorem State.answerFreed_eq_self {s : State} (h : ∀ r ∈ s.reqs, ((r.op == .wr || r.op == .wru) && r.stage == .queued) = false) :
    s.answerFreed = s := by
  rw [State.answerFreed, List.filter_eq_nil_iff.2 fun r hr => by simp [h r hr], List.foldl_nil]

theorem State.checkFlush_eq_self {s : State} (h : ∀ r ∈ s.reqs, r.stage ≠ .flushing) : s.checkFlush = s := by
  have hnone : s.reqs.filter (fun r => s.flushDone r) = [] :=
    List.filter_eq_nil_iff.2 fun r hr => by simp [State.flushDone, h r hr]
  rw [State.checkFlush, hnone, List.foldl_nil]

/-- A port with nothing withheld at its pins takes nothing. -/
theorem State.takeHeldRq_eq_self {s : State} {p : Nat} (h : (s.port p).rqHeld = []) (n : Nat) : s.takeHeldRq p n = s := by
  cases n with
  | zero => rfl
  | succ n => simp only [State.takeHeldRq, h]

theorem State.takeAllHeld_eq_self {s : State} (h : ∀ p < 8, (s.port p).rqHeld = []) : s.takeAllHeld = s :=
  foldl_eq_self_of_mem fun p hp => State.takeHeldRq_eq_self (h p (List.mem_range.1 hp)) _

theorem State.drainEnd_eq_self {s : State} {sc : Nat} (h : (s.sub sc).drain = .read) : s.drainEnd sc = s := by
  simp [State.drainEnd, h]

theorem State.endDrains_eq_self {s : State} (h : ∀ sc < 8, (s.sub sc).drain = .read) : s.endDrains = s :=
  foldl_eq_self_of_mem fun sc hsc => State.drainEnd_eq_self (h sc (List.mem_range.1 hsc))

theorem State.releaseFill_eq_self {s : State} (h : ∀ r ∈ s.reqs, r.stage ≠ .heldFill) : s.releaseFill = s := by
  have hnone : s.heldReqs = [] := List.filter_eq_nil_iff.2 fun r hr => by simp [h r hr]
  rw [State.releaseFill, hnone, List.foldl_nil]

theorem State.fillJudge_eq_self {s : State} (h : s.startup.filling = false) : s.fillJudge = s := by
  simp [State.fillJudge, h]

theorem State.memCheck_eq_self {s : State} (h : s.mode ≠ .bringup) : s.memCheck = s :=
  if_neg fun hall => h hall.1

/-- Settles O36: each consequence but the idle timer finds nothing to act on. -/
theorem onlyIdleTimerFollows : Obligations.OnlyIdleTimerFollows := by
  intro s u hawaits hreqs hheld hdrain hfill hmode
  have hawait : ∀ a ∈ u.ring.awaits, a.type ≠ 0x08 := by simpa using hawaits
  have hreq : ∀ r ∈ u.reqs, (r.stage != .heldFill && r.stage != .flushing &&
      !((r.op == .wr || r.op == .wru) && r.stage == .queued)) = true := List.all_eq_true.1 hreqs
  have hfilled : ∀ r ∈ u.reqs, r.stage ≠ .heldFill := fun r hr hstage => by simpa [hstage] using hreq r hr
  have hflush : ∀ r ∈ u.reqs, r.stage ≠ .flushing := fun r hr hstage => by simpa [hstage] using hreq r hr
  have hwrite : ∀ r ∈ u.reqs, ((r.op == .wr || r.op == .wru) && r.stage == .queued) = false := fun r hr => by
    have hall := hreq r hr
    rw [Bool.and_eq_true, Bool.not_eq_true'] at hall
    exact hall.2
  have hafter : s.after u = u.touchIdle := by
    rw [State.after, State.sendNewLines_eq_self hawait, State.answerFreed_eq_self hwrite, State.checkFlush_eq_self hflush,
      State.takeAllHeld_eq_self hheld, State.endDrains_eq_self hdrain, State.settleAll, State.fillSettle,
      State.releaseFill_eq_self hfilled, State.fillJudge_eq_self hfill, State.memCheck_eq_self hmode]
  rw [State.done, hafter]
  rfl

end Sys2Proof.Machine

/-! SUPPORT and settlement of the statement about accepted requests (O11). -/

namespace Sys2Proof.Machine

open Sys2Proof

/-! ## Acceptance (R31, R36, R42, R43) -/

/-- The command of an opcode R34 lists is that opcode's request handshake. -/
theorem exec_requestCmd {op : Op} (h : listedOp op = true) (p : Nat) (f : RqFlit) (s : State) :
    exec (requestCmd op p f) s = request p op f s := by
  cases op with
  | other c => cases h
  | _ => rfl

/-- Item 1 of R42 answers nothing at an open port in service. -/
theorem State.modeStatus_eq_none {s : State} {p : Nat} (hserv : s.inService = true) (hopen : s.flag (Reg.HPT_PCTL_PEN p) = true)
    (hret : (s.port p).retired = false) : s.modeStatus p = none := by
  have hmode : s.mode = .service ∨ s.mode = .degraded := by simpa [State.inService] using hserv
  rcases hmode with hmode | hmode <;> simp [State.modeStatus, hmode, hopen, hret]

theorem State.mode_ne_sleep_of_inService {s : State} (h : s.inService = true) : s.mode ≠ .sleep := by
  rintro hmode
  simp [State.inService, hmode] at h

theorem State.modeStatus_setPort (s : State) {p : Nat} (x : Port) (hret : x.retired = (s.port p).retired) :
    (s.setPort p x).modeStatus p = s.modeStatus p := by
  have hport : ((s.setPort p x).port p).retired = (s.port p).retired := by simp [hret]
  unfold State.modeStatus
  rw [hport]
  rfl

/-- Awake and with fewer than eight requests waiting, a request to be served is acknowledged. -/
theorem State.withholdRq_eq_false {s : State} {p : Nat} (hst : s.modeStatus p = none) (hawake : s.mode ≠ .sleep)
    (hroom : (s.waiting p).length < 8) (h : HeldRq) : s.withholdRq p h = false := by
  simp [State.withholdRq, hst, hawake, hroom]

theorem State.hostAborts_eq_self {s : State} (h : s.power.vote = none) : s.hostAborts = s := by
  simp [State.hostAborts, h]

/-- With no orphan in the buffer and no line under the request's identity, a request takes no line. -/
theorem State.joinOrphans_eq_self {s : State} {rid : Nat} (h : ∀ w ∈ s.wbuf, w.rid ≠ none ∧ w.rid ≠ some rid) (p : Nat) (op : Op)
    (f : RqFlit) : s.joinOrphans p op f rid = s := by
  have hmap : s.mapLines (fun w => w.own == some p && w.rid == none && w.tag == f.tag) (fun w => { w with rid := some rid }) = s := by
    rw [State.mapLines, mapIf_eq_self _ fun w hw => by simp [(h w hw).1]]
  have hextra : s.wbuf.any (fun w => w.rid == some rid && decide (lineCount op f ≤ w.idx)) = false :=
    List.any_eq_false.2 fun w hw => by simp [(h w hw).2]
  unfold State.joinOrphans
  simp only [hmap, hextra, Bool.false_eq_true, if_false, ite_self]

/-- What the acceptance of request flit `h` at port `p` leaves: a fresh identity, and the request in the ingress stage with its deadline. -/
structure State.Accepted (s : State) (p : Nat) (h : HeldRq) (u : State) : Prop where
  nextRid : u.nextRid = s.nextRid + 1
  mode : u.mode = s.mode
  pins : (u.port p).rqHeld = (s.port p).rqHeld
  waits : ∃ r ∈ u.reqs, r.rid = s.nextRid ∧ r.org = .port p ∧ r.op = h.op ∧ r.flit = h.flit ∧ r.stage = .ingress ∧
    r.promo = (s.port p).panic ∧ r.dl = h.tq + BitVec.ofNat 40 (2 * s.budget p h.flit)

/-- A FLUSH pulls the effective deadlines of the writes it covers, which leaves the request as accepted. -/
theorem State.Accepted.flushPull {s u : State} {p : Nat} {h : HeldRq} (hu : s.Accepted p h u) (cov : List Nat) (d : Tempo) :
    s.Accepted p h (u.flushPull cov d) := by
  obtain ⟨r, hr, hprops⟩ := hu.waits
  refine ⟨hu.nextRid, hu.mode, hu.pins, _, mem_mapIf _ hr, ?_⟩
  split <;> exact hprops

/-- A request of the port has the flit's tag (R36). -/
def State.tagInUse (s : State) (p : Nat) (f : RqFlit) : Bool := s.reqs.any (fun r => r.org == .port p && r.flit.tag == f.tag)

/-- The request that an accepted flit becomes (R43). -/
def State.ingressReq (s : State) (p : Nat) (h : HeldRq) : Req :=
  let dl : Tempo := h.tq + BitVec.ofNat 40 (2 * s.budget p h.flit)
  { rid := s.nextRid, org := .port p, op := h.op, flit := h.flit, t0 := h.tq, tLast := h.tq, dl := dl, eff := dl, clamped := false,
    promo := (s.port p).panic, stage := .ingress, dup := s.tagInUse p h.flit, rsv := 0, moved := 0,
    owed := if h.op == .rd then lineCount h.op h.flit else 1, nextIdx := 0, covers := if h.op == .flush then s.coverSet p else [],
    admitted := [], wue := false, gone := false }

/-- The tile once the request has joined the ingress stage. -/
def State.withIngress (s : State) (p : Nat) (h : HeldRq) : State :=
  let t : State := { s with nextRid := s.nextRid + 1 }
  let t := if s.tagInUse p h.flit then t.set1 (Reg.HPT_EVT_DUP_TAG p) else t
  { t with reqs := t.reqs ++ [s.ingressReq p h] }

theorem State.withIngress_wbuf (s : State) (p : Nat) (h : HeldRq) : (s.withIngress p h).wbuf = s.wbuf := by
  unfold State.withIngress
  split <;> rfl

theorem State.withIngress_accepted (s : State) (p : Nat) (h : HeldRq) : s.Accepted p h (s.withIngress p h) := by
  unfold State.withIngress
  split <;> exact ⟨rfl, rfl, rfl, s.ingressReq p h, List.mem_append_right _ List.mem_cons_self, rfl, rfl, rfl, rfl, rfl, rfl, rfl⟩

/-- A request that no status of R42 item 1 answers joins the ingress stage, and a FLUSH pulls the writes it covers. -/
theorem State.acceptRq_of_served {s : State} {p : Nat} (hst : s.modeStatus p = none)
    (hbuf : ∀ w ∈ s.wbuf, w.rid ≠ none ∧ w.rid ≠ some s.nextRid) (h : HeldRq) :
    s.acceptRq p h = if h.op == .flush then (s.withIngress p h).flushPull (if h.op == .flush then s.coverSet p else []) (s.ingressReq p h).dl
      else s.withIngress p h := by
  have hjoin : ∀ t : State, t.wbuf = s.wbuf → t.joinOrphans p h.op h.flit s.nextRid = t := fun t ht =>
    State.joinOrphans_eq_self (ht ▸ hbuf) p h.op h.flit
  have hst' : ({ s with nextRid := s.nextRid + 1 } : State).modeStatus p = none := hst
  unfold State.acceptRq
  simp only [hst']
  rw [hjoin, ite_self]
  · rfl
  · split <;> exact s.withIngress_wbuf p h

theorem State.acceptRq_accepted {s : State} {p : Nat} (hst : s.modeStatus p = none)
    (hbuf : ∀ w ∈ s.wbuf, w.rid ≠ none ∧ w.rid ≠ some s.nextRid) (h : HeldRq) : s.Accepted p h (s.acceptRq p h) := by
  rw [State.acceptRq_of_served hst hbuf]
  split
  · exact (s.withIngress_accepted p h).flushPull _ _
  · exact s.withIngress_accepted p h

/-- The one request at the pins, not withheld, leaves them and is accepted. -/
theorem State.takeHeldRq_one {s : State} {p : Nat} {h : HeldRq} (hheld : (s.port p).rqHeld = [h]) (hopen : s.withholdRq p h = false) :
    s.takeHeldRq p 1 = (s.setPort p { s.port p with rqHeld := [] }).acceptRq p h := by
  simp only [State.takeHeldRq, hheld, hopen, Bool.false_eq_true, if_false]

/-- A handshake that nothing withholds, with nothing before it at the pins, is accepted. -/
theorem State.rqArrive_accepted {s : State} {p : Nat} (hrst : (s.port p).rst = false) (hst : s.modeStatus p = none)
    (hawake : s.mode ≠ .sleep) (hroom : (s.waiting p).length < 8) (hheld : (s.port p).rqHeld = [])
    (hbuf : ∀ w ∈ s.wbuf, w.rid ≠ none ∧ w.rid ≠ some s.nextRid) (op : Op) (f : RqFlit) :
    s.Accepted p ⟨op, f, s.tempo⟩ (s.rqArrive p op f) := by
  let h : HeldRq := ⟨op, f, s.tempo⟩
  let atPins := s.setPort p { s.port p with rqHeld := [h] }
  let taken := atPins.setPort p { atPins.port p with rqHeld := [] }
  have hself : atPins.port p = { s.port p with rqHeld := [h] } := by simp [atPins]
  have hstPins : atPins.modeStatus p = none := (s.modeStatus_setPort { s.port p with rqHeld := [h] } rfl).trans hst
  have hstTaken : taken.modeStatus p = none := (atPins.modeStatus_setPort { atPins.port p with rqHeld := [] } rfl).trans hstPins
  have harrive : s.rqArrive p op f = taken.acceptRq p h := by
    have htake := State.takeHeldRq_one (congrArg Port.rqHeld hself) (State.withholdRq_eq_false hstPins hawake hroom h)
    simp only [State.rqArrive, hheld]
    exact (if_neg (by simp [hrst])).trans htake
  have hport : taken.port p = { s.port p with rqHeld := [] } := by simp [taken, hself]
  have hacc := State.acceptRq_accepted hstTaken hbuf h
  have hpins := hacc.pins
  have hwaits := hacc.waits
  rw [hport] at hpins hwaits
  exact harrive ▸ ⟨hacc.nextRid, hacc.mode, hpins.trans hheld.symm, hwaits⟩

/-- A handshake at a port that may take it, with nothing before it at the pins, is accepted. -/
theorem State.hostRequest_accepted {s : State} {p : Nat} (hvote : s.power.vote = none) (hrst : (s.port p).rst = false)
    (hst : s.modeStatus p = none) (hawake : s.mode ≠ .sleep) (hroom : (s.waiting p).length < 8) (hheld : (s.port p).rqHeld = [])
    (hbuf : ∀ w ∈ s.wbuf, w.rid ≠ none ∧ w.rid ≠ some s.nextRid) (op : Op) (f : RqFlit) :
    s.Accepted p ⟨op, f, s.tempo⟩ (s.hostRequest p op f) := by
  have harrive := State.rqArrive_accepted hrst hst hawake hroom hheld hbuf op f
  have hnosleep : (s.rqArrive p op f).mode ≠ .sleep := harrive.mode ▸ hawake
  have hempty : ((s.rqArrive p op f).port p).rqHeld = [] := harrive.pins.trans hheld
  rw [State.hostRequest, State.hostAborts_eq_self hvote]
  simp only [hrst, hnosleep, Bool.false_eq_true, if_false, State.takeHeldRq_eq_self hempty]
  exact harrive

/-- Settles O11: the status of R42 item 1 is none and nothing withholds the acknowledge, so the handshake is accepted. -/
theorem requestAccepted : Obligations.RequestAccepted := by
  intro op p f s hop hserve hbuilt hserv hvote hrst hret hopen hheld hroom hwbuf
  have hbuf : ∀ w ∈ s.wbuf, w.rid ≠ none ∧ w.rid ≠ some s.nextRid := by
    simpa [Option.isSome_iff_ne_none] using hwbuf
  have hacc := State.hostRequest_accepted hvote hrst (State.modeStatus_eq_none hserv hopen hret) (State.mode_ne_sleep_of_inService hserv)
    hroom hheld hbuf (seenOp op f) f
  exact ⟨_, (exec_requestCmd hop p f s).trans (actIf_next hbuilt hserve _), hacc.nextRid, hacc.waits⟩

end Sys2Proof.Machine

/-! SUPPORT. Operations that leave the answers of the tile as they are: no ready response is lost, and nothing that left is taken back. -/

namespace Sys2Proof.Machine

open Sys2Proof

/-- From `s` to `t` every port keeps the responses it has ready, and what has left the tile stays recorded. -/
structure State.KeepsAnswers (s t : State) : Prop where
  ready : ∀ p, (t.port p).ready = (s.port p).ready
  outputs : s.outputs ⊆ t.outputs

theorem State.KeepsAnswers.refl (s : State) : s.KeepsAnswers s := ⟨fun _ => rfl, List.Subset.refl _⟩

theorem State.KeepsAnswers.trans {s t u : State} (hst : s.KeepsAnswers t) (htu : t.KeepsAnswers u) : s.KeepsAnswers u :=
  ⟨fun p => (htu.ready p).trans (hst.ready p), List.Subset.trans hst.outputs htu.outputs⟩

/-- An operation on other parts of the tile. -/
theorem State.KeepsAnswers.of_eq {s t : State} (hports : t.ports = s.ports) (hout : t.outputs = s.outputs) : s.KeepsAnswers t :=
  ⟨fun p => by rw [State.port, hports, State.port], hout ▸ List.Subset.refl _⟩

/-- The same, with another operation after it. -/
theorem State.KeepsAnswers.of_eq_left {s t u : State} (htu : t.KeepsAnswers u) (hports : t.ports = s.ports) (hout : t.outputs = s.outputs) :
    s.KeepsAnswers u := (State.KeepsAnswers.of_eq hports hout).trans htu

/-- An operation that only lets something leave. -/
theorem State.KeepsAnswers.of_append {s t : State} (hports : t.ports = s.ports) (l : List Output) (hout : t.outputs = s.outputs ++ l) :
    s.KeepsAnswers t :=
  ⟨fun p => by rw [State.port, hports, State.port], hout ▸ List.subset_append_left _ _⟩

theorem State.KeepsAnswers.foldl {α : Type} {f : State → α → State} (hf : ∀ (s : State) (a : α), s.KeepsAnswers (f s a)) (l : List α) (s : State) :
    s.KeepsAnswers (l.foldl f s) := by
  induction l generalizing s with
  | nil => exact .refl s
  | cons a l ih => exact (hf s a).trans (ih _)

theorem State.keepsAnswers_emit (s : State) (o : Output) : s.KeepsAnswers (s.emit o) := .of_append rfl [o] rfl

theorem State.keepsAnswers_setPort (s : State) {p : Nat} {x : Port} (hready : x.ready = (s.port p).ready) : s.KeepsAnswers (s.setPort p x) := by
  refine ⟨fun j => ?_, List.Subset.refl _⟩
  rw [State.setPort_port]
  split
  next hj => rw [hready, hj]
  next => rfl

theorem State.keepsAnswers_levels (s : State) : s.KeepsAnswers s.levels := .of_eq s.levels_ports s.levels_outputs

theorem State.keepsAnswers_mapReq (s : State) (rid : Nat) (f : Req → Req) : s.KeepsAnswers (s.mapReq rid f) := .of_eq rfl rfl

theorem State.keepsAnswers_dropReq (s : State) (rid : Nat) : s.KeepsAnswers (s.dropReq rid) := .of_eq rfl rfl

/-! ## Lines leave the write data buffer (R37, R48, R50) -/

theorem State.keepsAnswers_emitCredits (s : State) (p n : Nat) : s.KeepsAnswers (s.emitCredits p n) := by
  have hfull : s.KeepsAnswers ((List.range (n / 8)).foldl (fun s _ => s.emit (.credits p 8)) s) :=
    .foldl (fun s _ => s.keepsAnswers_emit _) _ s
  rw [State.emitCredits]
  split
  · exact hfull
  · exact hfull.trans (State.keepsAnswers_emit _ _)

theorem State.keepsAnswers_giveCredits (s : State) (p : Nat) : s.KeepsAnswers (s.giveCredits p) := by
  simp only [State.giveCredits]
  split
  · exact .refl s
  · refine State.KeepsAnswers.trans ?_ (State.keepsAnswers_emitCredits _ p _)
    exact s.keepsAnswers_setPort rfl

theorem State.keepsAnswers_badFlit (s : State) (p : Nat) : s.KeepsAnswers (s.badFlit p) :=
  (State.keepsAnswers_giveCredits (s.set1 (Reg.HPT_EVT_WD_BAD p)) p).of_eq_left rfl rfl

theorem State.keepsAnswers_noteData (s : State) (rid : Option Nat) : s.KeepsAnswers (s.noteData rid) := by
  cases rid with
  | none => exact .refl s
  | some i => exact .of_eq rfl rfl

theorem State.keepsAnswers_putWd (s : State) (p : Nat) (f : WdFlit) : s.KeepsAnswers (s.putWd p f) := by
  have hput : ∀ (bad : Bool) (rid : Option Nat) (w : WLine),
      s.KeepsAnswers (if bad then s.badFlit p else ((s.noteData rid).pushLine w).levels) := fun bad rid w => by
    split
    · exact s.keepsAnswers_badFlit p
    · have hline := (State.keepsAnswers_levels ((s.noteData rid).pushLine w)).of_eq_left (s := s.noteData rid) rfl rfl
      exact (s.keepsAnswers_noteData rid).trans hline
  simp only [State.putWd]
  split <;> exact hput _ _ _

theorem State.keepsAnswers_takeHeldWd (s : State) (free n : Nat) : s.KeepsAnswers (s.takeHeldWd free n) := by
  induction n generalizing s free with
  | zero => exact .refl s
  | succ n ih =>
    rw [State.takeHeldWd]
    split
    next => exact .refl s
    next p _ =>
      split
      next f rest _ _ =>
        have hset : s.KeepsAnswers (s.setPort p { s.port p with wdHeld := rest }) := s.keepsAnswers_setPort rfl
        have hput := (State.keepsAnswers_putWd ((s.setPort p { s.port p with wdHeld := rest }).set1 (Reg.HPT_EVT_CRD_OVER p)) p f)
        exact (hset.trans (hput.of_eq_left rfl rfl)).trans (ih _ _)
      next => exact .refl s

theorem State.keepsAnswers_dropLines (s : State) (gone : WLine → Bool) : s.KeepsAnswers (s.dropLines gone) := by
  have hcredits : ∀ (l : List Nat) (t : State), t.KeepsAnswers (l.foldl (fun s p => s.giveCredits p) t) :=
    .foldl (fun s p => s.keepsAnswers_giveCredits p)
  have hfreed := (hcredits ((s.wbuf.filter gone).filterMap (·.own)) { s with wbuf := s.wbuf.filter (fun w => !gone w) }).of_eq_left
    (s := s) rfl rfl
  exact (hfreed.trans (State.keepsAnswers_levels _)).trans (State.keepsAnswers_takeHeldWd _ _ _)

theorem State.keepsAnswers_freeLines (s : State) (gone : WLine → Bool) : s.KeepsAnswers (s.freeLines gone) := by
  rw [State.freeLines]
  split
  · exact s.keepsAnswers_dropLines gone
  · exact .refl s

/-! ## Messages leave on the ring (R139, R144, R154) -/

theorem State.keepsAnswers_emitRing (s : State) (cw : Bool) (m : RingMsg) : s.KeepsAnswers (s.emitRing cw m) := by
  unfold State.emitRing
  split
  · exact .refl s
  · exact .of_append rfl [.ring true m] rfl
  · exact .of_append rfl [.ring false m] rfl

theorem State.keepsAnswers_send (s : State) (type dst arg : Nat) (payload : List (BitVec 128)) :
    s.KeepsAnswers (s.send type dst arg payload) := by
  have hemit := fun m => State.keepsAnswers_emitRing { s with ring := { s.ring with mseq := (s.ring.mseq + 1) % 4096 } } (s.routeCw dst) m
  simp only [State.send, State.sendOn]
  split
  · exact .of_eq rfl rfl
  · exact (hemit _).of_eq_left rfl rfl

theorem State.keepsAnswers_forwardData (s : State) (rid dst mseq : Nat) (only : Option Nat) :
    s.KeepsAnswers (s.forwardData rid dst mseq only) :=
  .foldl (fun s _ => s.keepsAnswers_send _ _ _ _) _ s

/-- The message of a waiting request goes out on its new route, with the lines that are there. -/
theorem State.keepsAnswers_releaseRoutes (s : State) : s.KeepsAnswers s.releaseRoutes := by
  simp only [State.releaseRoutes]
  refine (State.KeepsAnswers.foldl (fun t a => ?_) _ _).of_eq_left rfl rfl
  have hmsg := t.keepsAnswers_emitRing (t.routeCw a.dst) a.msg
  split
  · exact hmsg.trans ((State.keepsAnswers_forwardData _ _ _ _ _).of_eq_left rfl rfl)
  · exact hmsg.trans (.of_eq rfl rfl)

theorem State.keepsAnswers_dropAwait (s : State) (mseq : Nat) : s.KeepsAnswers (s.dropAwait mseq) :=
  (State.keepsAnswers_releaseRoutes { s with ring := { s.ring with awaits := s.ring.awaits.filter (fun a => a.mseq != mseq) } }).of_eq_left
    rfl rfl

end Sys2Proof.Machine

/-! SUPPORT and settlement of the statement about requests between tiles (O55). -/

namespace Sys2Proof.Machine

open Sys2Proof

/-! ## Ring messages in service -/

/-- Awake, a received message takes its effect at once. -/
theorem receive_of_awake {s : State} (hserve : s.serving = true) (hring : s.build.ring = true) (hawake : s.mode ≠ .sleep) (corr : Nat)
    (m : RingIn) : receive s corr m = .next (s.done ((s.bump Reg.RING_CNT0_CORR corr).ringTake m)) := by
  rw [receive, actIf_next hring hserve, State.ringArrive]
  simp [hawake]

theorem exec_fwdReq {s : State} (hserve : s.serving = true) (hring : s.build.ring = true) (hawake : s.mode ≠ .sleep) (corr : Nat)
    (src : BitVec 5) (mseq : BitVec 12) (dl : Tempo) (promo : Bool) (ver : BitVec 8) (ent : BitVec 4) (op : Op) (f : RqFlit) :
    exec (.fwdReq corr src mseq dl promo ver ent op f) s = .next (s.done
      ((s.bump Reg.RING_CNT0_CORR corr).ringFwdReq src.toNat mseq.toNat dl promo ver.toNat ent.toNat op f)) :=
  receive_of_awake hserve hring hawake corr _

theorem exec_fwdWd {s : State} (hserve : s.serving = true) (hring : s.build.ring = true) (hawake : s.mode ≠ .sleep) (corr : Nat)
    (src : BitVec 5) (mseq : BitVec 12) (idx : BitVec 2) (data : LineData) :
    exec (.fwdWd corr src mseq idx data) s = .next (s.done
      ((s.bump Reg.RING_CNT0_CORR corr).ringFwdWd src.toNat mseq.toNat idx.toNat data)) :=
  receive_of_awake hserve hring hawake corr _

theorem exec_fwdRsp {s : State} (hserve : s.serving = true) (hring : s.build.ring = true) (hawake : s.mode ≠ .sleep) (corr : Nat)
    (src : BitVec 5) (mseq : BitVec 12) (status : BitVec 4) (mis : Bool) (idx : BitVec 2) (data : LineData) :
    exec (.fwdRsp corr src mseq status mis idx data) s = .next (s.done
      ((s.bump Reg.RING_CNT0_CORR corr).ringFwdRsp mseq.toNat (statusOf status.toNat) mis idx.toNat data)) :=
  receive_of_awake hserve hring hawake corr _

/-! ## The answer to a forwarded request (R42, R146) -/

/-- A message of this tile leaves on a ring none of whose links is broken, from a ring stop that passed startup BIST (R478). -/
theorem State.send_outputs {s : State} (hgood : s.bist.ringBad = false) (hwhole : s.ring.broken = []) (type dst arg : Nat)
    (payload : List (BitVec 128)) :
    (s.send type dst arg payload).outputs =
      s.outputs ++ [.ring (s.routeCw dst) ⟨type, dst, s.tileNo, false, payload.length, s.ring.mseq, 0, arg, payload⟩] := by
  unfold State.send State.sendOn State.emitRing State.ringOut
  cases s.routeCw dst <;> simp [hgood, hwhole]

/-- An FWD_RSP with these arguments to tile `t` has left. -/
def State.FwdRspLeft (s : State) (t arg : Nat) : Prop :=
  ∃ (cw : Bool) (m : RingMsg), .ring cw m ∈ s.outputs ∧ m.type = 0x0A ∧ m.dst = t ∧ m.arg = arg

theorem State.FwdRspLeft.keep {s u : State} {t arg : Nat} (h : s.FwdRspLeft t arg) (hu : s.KeepsAnswers u) : u.FwdRspLeft t arg := by
  obtain ⟨cw, m, hm, hprops⟩ := h
  exact ⟨cw, m, hu.outputs hm, hprops⟩

/-- What an FWD_RSP of status `st` ends: its request owes one flit less, and with the last is forgotten. -/
def State.fwdFlitSent (s : State) (r : Req) (st : Status) : State :=
  let s := s.mapReq r.rid (fun r => { r with owed := r.owed - 1 })
  if decide (r.owed ≤ 1) then
    (if st.discards then s.dropLines (fun w => w.rid == some r.rid && w.own == none) else s).dropReq r.rid
  else s

theorem State.keepsAnswers_fwdFlitSent (s : State) (r : Req) (st : Status) : s.KeepsAnswers (s.fwdFlitSent r st) := by
  have howes := s.keepsAnswers_mapReq r.rid (fun r => { r with owed := r.owed - 1 })
  rw [State.fwdFlitSent]
  split
  · refine howes.trans (State.KeepsAnswers.trans ?_ (State.keepsAnswers_dropReq _ _))
    split
    · exact State.keepsAnswers_dropLines _ _
    · exact .refl _
  · exact howes

/-- A response to a forwarded request leaves as FWD_RSP. -/
theorem State.respond_leaves {s : State} {r : Req} {t m : Nat} (horg : r.org = .ring t m) (hgood : s.bist.ringBad = false)
    (hwhole : s.ring.broken = []) (idx : Nat) (st : Status) (mis : Bool) (data : LineData) (entry : Bool) :
    (s.respond r idx st mis data entry).FwdRspLeft t (m + st.code * 2 ^ 12 + b2n mis * 2 ^ 16 + idx * 2 ^ 17) := by
  have hsent : ∀ arg payload, (s.send 0x0A t arg payload).FwdRspLeft t arg := fun arg payload =>
    ⟨_, _, s.send_outputs hgood hwhole 0x0A t arg payload ▸ List.mem_append_right _ List.mem_cons_self, rfl, rfl, rfl⟩
  simp only [State.respond, horg]
  exact (hsent _ _).keep (State.keepsAnswers_fwdFlitSent _ r st)

/-- One FWD_RSP answers a whole forwarded request (R42). -/
theorem State.answer_leaves {s : State} {r : Req} {rid t m : Nat} (hr : s.req? rid = some r) (horg : r.org = .ring t m)
    (hgood : s.bist.ringBad = false) (hwhole : s.ring.broken = []) (st : Status) (mis : Bool) :
    (s.answer rid st mis).FwdRspLeft t (m + st.code * 2 ^ 12 + b2n mis * 2 ^ 16) := by
  have hleaves := State.respond_leaves (r := { r with owed := 1 })
    (s := s.mapReq rid (fun r => { r with stage := .answered, rsv := min r.rsv 1, owed := 1, nextIdx := 0 })) horg hgood hwhole 0 st mis
    zeroLine (decide (r.rsv ≠ 0))
  simpa only [State.answer, hr, Nat.zero_mul, Nat.add_zero] using hleaves

/-! ## FWD_REQ (R42, R119, R122, R146) -/

/-- The request that an FWD_REQ brings. -/
def State.fwdArrival (s : State) (src mseq : Nat) (dl : Tempo) (promo : Bool) (ver ent : Nat) (op : Op) (f : RqFlit) : Req :=
  { rid := s.nextRid, org := .ring src mseq, op := op, flit := f, t0 := s.tempo, tLast := s.tempo, dl := dl, eff := dl, clamped := false,
    promo := promo, stage := .ingress, dup := false, rsv := 0, moved := 0, owed := if op == .rd then lineCount op f else 1, nextIdx := 0,
    covers := [ent, ver], admitted := [], wue := false, gone := false }

/-- The tile with one more request, under a fresh identity. -/
def State.withReq (s : State) (r : Req) : State := { s with nextRid := s.nextRid + 1, reqs := s.reqs ++ [r] }

theorem State.withReq_req? {s : State} {r : Req} (hrid : r.rid = s.nextRid) (hfresh : s.reqs.all (fun r => r.rid != s.nextRid) = true) :
    (s.withReq r).req? s.nextRid = some r := by
  have hnone : s.reqs.find? (fun r => r.rid == s.nextRid) = none := by simpa using hfresh
  simp [State.req?, State.withReq, hnone, hrid]

theorem State.mem_withReq (s : State) (r : Req) : r ∈ (s.withReq r).reqs := List.mem_append_right _ List.mem_cons_self

theorem Req.line_zero (r : Req) : r.line 0 = r.flit.addr := by simp [Req.line]

section
variable {s : State} {src mseq ver ent : Nat} {dl : Tempo} {promo : Bool} {op : Op} {f : RqFlit} {r : Req}
  (hr : r = s.fwdArrival src mseq dl promo ver ent op f)
include hr

/-- The answer of the mode comes before anything else. -/
theorem State.ringFwdReq_of_status {st : Status} (h : s.fwdStatus = some st) :
    s.ringFwdReq src mseq dl promo ver ent op f = (s.withReq r).answer s.nextRid st := by
  have h' : (s.withReq r).fwdStatus = some st := h
  unfold State.withReq at h'
  simp only [hr, State.fwdArrival] at h' ⊢
  simp only [State.ringFwdReq, h']
  rfl

/-- A switch of the line's entry holds it; else the map decides. -/
theorem State.ringFwdReq_of_mode (h : s.fwdStatus = none) :
    s.ringFwdReq src mseq dl promo ver ent op f =
      if s.switchHolds f.addr then (s.withReq r).mapReq s.nextRid (fun r => { r with stage := .heldMap })
      else (s.withReq r).serveForwarded r := by
  have hline : r.line 0 = f.addr := hr ▸ Req.line_zero _
  have h' : (s.withReq r).fwdStatus = none := h
  unfold State.withReq at h'
  rw [← hline]
  simp only [hr, State.fwdArrival] at h' ⊢
  simp only [State.ringFwdReq, h']
  rfl

/-- One flit answers the request just arrived. -/
theorem State.arrival_answer_leaves (hfresh : s.reqs.all (fun r => r.rid != s.nextRid) = true) (hgood : s.bist.ringBad = false)
    (hwhole : s.ring.broken = []) (st : Status) (mis : Bool) :
    ((s.withReq r).answer s.nextRid st mis).FwdRspLeft src (mseq + st.code * 2 ^ 12 + b2n mis * 2 ^ 16) :=
  State.answer_leaves (State.withReq_req? (hr ▸ rfl) hfresh) (hr ▸ rfl) hgood hwhole st mis

theorem State.ringFwdReq_answers_mode {st : Status} (hst : s.fwdStatus = some st)
    (hfresh : s.reqs.all (fun r => r.rid != s.nextRid) = true) (hgood : s.bist.ringBad = false) (hwhole : s.ring.broken = []) :
    (s.ringFwdReq src mseq dl promo ver ent op f).FwdRspLeft src (mseq + st.code * 2 ^ 12) := by
  rw [State.ringFwdReq_of_status hr hst]
  simpa [b2n] using State.arrival_answer_leaves hr hfresh hgood hwhole st false

theorem State.ringFwdReq_holds (hst : s.fwdStatus = none) (hswitch : s.switchHolds f.addr = true) :
    { r with stage := .heldMap } ∈ (s.ringFwdReq src mseq dl promo ver ent op f).reqs := by
  rw [State.ringFwdReq_of_mode hr hst, if_pos hswitch]
  have hrid : r.rid = s.nextRid := hr ▸ rfl
  exact mem_mapIf_of_pos (p := fun r => r.rid == s.nextRid) (fun r => { r with stage := .heldMap }) (s.mem_withReq r) (by simp [hrid])

/-- Where no entry names this tile at the request's version, it is answered DECODE with misroute. -/
theorem State.ringFwdReq_answers_decode (hst : s.fwdStatus = none) (hswitch : s.switchHolds f.addr = false)
    (hmap : ∀ e m ch cb, s.lookup f.addr = .here e m ch cb → e ≠ ent ∨ m.ver ≠ ver)
    (hfresh : s.reqs.all (fun r => r.rid != s.nextRid) = true) (hgood : s.bist.ringBad = false) (hwhole : s.ring.broken = []) :
    (s.ringFwdReq src mseq dl promo ver ent op f).FwdRspLeft src (mseq + 4 * 2 ^ 12 + 2 ^ 16) := by
  have hother : ∀ e m ch cb, s.lookup f.addr = .here e m ch cb → r.covers ≠ [e, m.ver] := by
    intro e m ch cb hhere hcovers
    obtain ⟨rfl, rfl⟩ : ent = e ∧ ver = m.ver := by simpa [hr, State.fwdArrival] using hcovers
    exact (hmap ent m ch cb hhere).elim (· rfl) (· rfl)
  have hdecode : (s.withReq r).serveForwarded r = (s.withReq r).answer s.nextRid .decode true := by
    have hrid : r.rid = s.nextRid := hr ▸ rfl
    have hline : r.line 0 = f.addr := hr ▸ Req.line_zero _
    rw [State.serveForwarded, hline, ← hrid]
    split
    next e m ch cb hhere => exact if_neg (hother e m ch cb hhere)
    next => rfl
  rw [State.ringFwdReq_of_mode hr hst, if_neg (by simp [hswitch]), hdecode]
  exact State.arrival_answer_leaves hr hfresh hgood hwhole .decode true

/-- Where the entry the request was forwarded under names this tile at that version, it is served. -/
theorem State.ringFwdReq_serves {m : MapEntry} {ch cb : Nat} (hst : s.fwdStatus = none) (hswitch : s.switchHolds f.addr = false)
    (hmap : s.lookup f.addr = .here ent m ch cb) (hver : m.ver = ver) :
    s.ringFwdReq src mseq dl promo ver ent op f = (s.withReq r).serveHere r true := by
  have hline : r.line 0 = f.addr := hr ▸ Req.line_zero _
  have hhere : (s.withReq r).lookup f.addr = .here ent m ch cb := hmap
  have hcovers : r.covers = [ent, m.ver] := by rw [hr, hver]; rfl
  rw [State.ringFwdReq_of_mode hr hst, if_neg (by simp [hswitch])]
  simp only [State.serveForwarded, hline, hhere, hcovers, if_true]

end

/-! ## FWD_WD and FWD_RSP (R146) -/

/-- A line that its request still lacks is buffered, and may complete the request. -/
theorem State.ringFwdWd_of_new {s : State} {src mseq idx : Nat} {r : Req}
    (hr : s.reqs.find? (fun r => r.org == .ring src mseq && carriesData r.op) = some r) (hidx : idx < r.lines)
    (hnew : s.wbuf.any (fun w => w.rid == some r.rid && w.idx == idx) = false) (data : LineData) :
    s.ringFwdWd src mseq idx data = (s.pushLine ⟨none, some r.rid, r.flit.tag, idx, data, 0⟩).levels.tryAnswer r.rid := by
  simp only [State.ringFwdWd, hr]
  exact if_neg (by simp [hnew, hidx])

/-- A response to a port's request stands among the port's ready ones. -/
theorem State.respond_ready {s : State} {r : Req} {p : Nat} (horg : r.org = .port p) (idx : Nat) (st : Status) (mis : Bool) (data : LineData)
    (entry : Bool) :
    (⟨r.rid, r.flit.cls.toNat, r.flit.tag, idx, st, mis, data, entry, 0⟩ : Rsp) ∈ ((s.respond r idx st mis data entry).port p).ready := by
  simp [State.respond, horg]

section
variable {s : State} {mseq : Nat} {st : Status} {mis : Bool} {idx : Nat} {data : LineData} {a : Await} {r : Req}
  (ha : s.awaitOf 0x08 mseq = some a) (hr : s.req? a.forWhat = some r)
include ha hr

/-- One flit answers the whole request, which owes every flit yet. -/
theorem State.ringFwdRsp_of_whole (hst : st.whole = true) (hrsv : r.rsv = r.owed) :
    s.ringFwdRsp mseq st mis idx data =
      ((if st = .decode ∧ mis = true then (s.dropAwait mseq).bump Reg.AMAP_MISCNT_MIS else s.dropAwait mseq).answer r.rid st mis).freeLines
        (fun w => w.rid == some r.rid && carriesData r.op && !st.discards) := by
  simp [State.ringFwdRsp, ha, hr, hst, hrsv]

/-- A line's answer becomes a response of its request, whether or not it is the last. -/
theorem State.ringFwdRsp_keeps (hst : st.whole = false) :
    (s.respond r idx st mis (if st.code ≤ 1 then data else zeroLine)).KeepsAnswers (s.ringFwdRsp mseq st mis idx data) := by
  have hdrop := State.keepsAnswers_dropAwait (s.respond r idx st mis (if st.code ≤ 1 then data else zeroLine)) mseq
  simp only [State.ringFwdRsp, ha, hr, hst, Bool.false_and, Bool.false_eq_true, if_false]
  by_cases hlast : r.rsv ≤ 1
  · rw [if_pos hlast]
    exact (hdrop.trans (State.keepsAnswers_mapReq _ _ _)).trans (State.keepsAnswers_freeLines _ _)
  · rw [if_neg hlast]
    exact .refl _

end

/-- Settles O55: FWD_REQ by the mode, the switch and the map entry; FWD_WD by its request; FWD_RSP by the request that waits for it. -/
theorem forwardedRequests : Obligations.ForwardedRequests := by
  intro corr src mseq s x hserve hring hawake hx
  have hmode : x.fwdStatus = s.fwdStatus := by simp [hx, State.fwdStatus]
  have hbist : x.bist = s.bist := by simp [hx]
  have hstop : x.ring = s.ring := by simp [hx]
  have hreqs : x.reqs = s.reqs := by simp [hx]
  have hrid : x.nextRid = s.nextRid := by simp [hx]
  refine ⟨fun dl promo ver ent op f hfresh => ?_, fun idx data r hr hidx hnew => ?_, fun status mis idx data st hst => ?_⟩
  · rw [exec_fwdReq hserve hring hawake, ← hx, ← hmode, ← hbist, ← hstop, ← hrid]
    rw [← hreqs, ← hrid] at hfresh
    refine ⟨fun st hst hgood hwhole => ?_, fun hst hswitch => ⟨_, rfl, _, State.ringFwdReq_holds rfl hst hswitch, rfl, rfl, rfl, rfl, rfl⟩,
      fun hst hswitch hgood hwhole hmap => ?_, fun m ch cb hst hswitch hmap hver => ?_⟩
    · obtain ⟨cw, m, hleft⟩ := State.ringFwdReq_answers_mode rfl hst hfresh hgood hwhole
      exact ⟨_, cw, m, rfl, hleft⟩
    · obtain ⟨cw, m, hleft⟩ := State.ringFwdReq_answers_decode rfl hst hswitch hmap hfresh hgood hwhole
      exact ⟨_, cw, m, rfl, hleft⟩
    · exact ⟨_, _, by rw [State.ringFwdReq_serves rfl hst hswitch hmap hver], x.mem_withReq _, rfl, rfl, rfl, rfl⟩
  · rw [exec_fwdWd hserve hring hawake, ← hx, State.ringFwdWd_of_new hr hidx hnew]
  · have hawait : ∀ type m, x.awaitOf type m = s.awaitOf type m := fun _ _ => by rw [State.awaitOf, hstop, State.awaitOf]
    have hreq : ∀ i, x.req? i = s.req? i := fun _ => by rw [State.req?, hreqs, State.req?]
    rw [exec_fwdRsp hserve hring hawake, ← hx, ← hst, ← hawait]
    refine ⟨fun a r ha hr => ?_, fun ha => by simp only [State.ringFwdRsp, ha]⟩
    rw [← hreq] at hr
    refine ⟨fun p horg hst => ?_, fun y hst hrsv hy => by rw [hy, State.ringFwdRsp_of_whole ha hr hst hrsv]⟩
    have hready := (State.ringFwdRsp_keeps (mis := mis) (idx := idx.toNat) (data := data) ha hr hst).ready p
    exact ⟨_, rfl, _, hready ▸ State.respond_ready horg _ _ _ _ _, rfl, rfl, rfl, rfl, rfl, rfl⟩

end Sys2Proof.Machine

/-! SUPPORT and settlement of the statement about the oldest read and the oldest alert window of a subchannel (O23). -/

namespace Sys2Proof.Machine

open Sys2Proof

theorem exec_readDataReturn {s : State} {sc : Nat} (h : s.serving = true) (hb : s.subBuilt sc = true) (burst : Burst) :
    exec (.readDataReturn sc burst) s = .next (s.done (s.readReturn sc burst)) := actIf_next hb h _

theorem exec_writeAlertWindowClose {s : State} {sc : Nat} (h : s.serving = true) (hb : s.subBuilt sc = true) :
    exec (.writeAlertWindowClose sc) s = .next (s.done (s.closeAlertWin sc)) := actIf_next hb h _

/-! ## The oldest read (R222, R277, R379) -/

theorem State.readReturn_of_no_read {s : State} {sc : Nat} (h : (s.sub sc).reading = []) (burst : Burst) : s.readReturn sc burst = s := by
  simp only [State.readReturn, h]

section
variable {s x : State} {sc : Nat} {i : Issue} {rest : List Issue} (hread : (s.sub sc).reading = i :: rest)
  (hx : x = s.setSub sc { s.sub sc with reading := rest })
include hread hx

/-- The bytes of a mode register read go to their register. -/
theorem State.readReturn_of_mrr (hcmd : i.cmd = .mrr) (burst : Burst) : s.readReturn sc burst = (x.mrrIn sc i burst).settleAll := by
  simp only [State.readReturn, hread, hcmd, hx, if_true]

/-- The burst of an entry's read is decoded for it; a read made again (R379) lets En Passant go on. -/
theorem State.readReturn_of_entry {q : QE} (hcmd : i.cmd ≠ .mrr) (hq : s.qe? i.tag = some q) (burst : Burst) :
    s.readReturn sc burst =
      (if q.retries = 0 then x.burstIn sc i q burst else (x.burstIn sc i q burst).epResume (sc / 2)).checkFlush.settleAll := by
  have hq' : x.qe? i.tag = some q := by rw [hx]; exact hq
  rw [hx] at hq' ⊢
  simp only [State.readReturn, hread, hcmd, hq', if_false]

end

/-! ## The oldest alert window (R87, R217) -/

theorem State.closeAlertWin_of_no_window {s : State} {sc : Nat} (h : (s.sub sc).alertWin = []) : s.closeAlertWin sc = s := by
  simp only [State.closeAlertWin, h]

/-- The window's write counts as issued once the lattice has come to the window's end. -/
theorem State.closeAlertWin_of_entry {s x : State} {sc : Nat} {i : Issue} {rest : List Issue} {q : QE}
    (hwin : (s.sub sc).alertWin = i :: rest)
    (hx : x = (s.setSub sc { s.sub sc with alertWin := rest }).tickTo sc (s.timg.alertEnd i.slot) 4096) (hq : x.qe? i.tag = some q) :
    s.closeAlertWin sc = ((x.windowClosed q).drainEnd sc).settleAll := by
  have htimg : (s.setSub sc { s.sub sc with alertWin := rest }).timg = s.timg := rfl
  simp only [State.closeAlertWin, hwin, htimg, ← hx, hq]

/-- Settles O23: by the front of the reads that wait for data, and of the open alert windows. That nothing changes with none there is log
entry 4. -/
theorem oldestReadAndWindowEnd : Obligations.OldestReadAndWindowEnd := by
  refine ⟨fun sc i q rest s x hserve hbuilt => ⟨fun hread hx burst => ?_, fun hwin hx hq => ?_⟩,
    fun sc burst s hserve hbuilt => ⟨fun hread => ?_, fun hwin => ?_⟩⟩
  · rw [exec_readDataReturn hserve hbuilt]
    refine ⟨fun hcmd => ?_, fun hcmd hq hretries => ?_, fun hcmd hq hretries => ?_⟩
    · rw [State.readReturn_of_mrr hread hx hcmd]
    · rw [State.readReturn_of_entry hread hx hcmd hq, if_pos hretries]
    · rw [State.readReturn_of_entry hread hx hcmd hq, if_neg hretries]
  · rw [exec_writeAlertWindowClose hserve hbuilt, State.closeAlertWin_of_entry hwin hx hq]
  · rw [exec_readDataReturn hserve hbuilt, State.readReturn_of_no_read hread]
  · rw [exec_writeAlertWindowClose hserve hbuilt, State.closeAlertWin_of_no_window hwin]

end Sys2Proof.Machine

/-! SUPPORT and settlement of the statement about mirror traffic (O56). -/

namespace Sys2Proof.Machine

open Sys2Proof

theorem exec_mirrorWr {s : State} (hserve : s.serving = true) (hring : s.build.ring = true) (hawake : s.mode ≠ .sleep) (corr : Nat)
    (src : BitVec 5) (mseq : BitVec 12) (ch : BitVec 2) (line : BitVec 32) (burst : Burst) :
    exec (.mirrorWr corr src mseq ch line burst) s = .next (s.done
      ((s.bump Reg.RING_CNT0_CORR corr).ringMirrorWr src.toNat mseq.toNat ch.toNat line.toNat burst)) :=
  receive_of_awake hserve hring hawake corr _

theorem exec_mirrorRd {s : State} (hserve : s.serving = true) (hring : s.build.ring = true) (hawake : s.mode ≠ .sleep) (corr : Nat)
    (src : BitVec 5) (mseq : BitVec 12) (ch : BitVec 2) (line : BitVec 32) :
    exec (.mirrorRd corr src mseq ch line) s = .next (s.done
      ((s.bump Reg.RING_CNT0_CORR corr).ringMirrorRd src.toNat mseq.toNat ch.toNat line.toNat)) :=
  receive_of_awake hserve hring hawake corr _

theorem exec_mirrorAck {s : State} (hserve : s.serving = true) (hring : s.build.ring = true) (hawake : s.mode ≠ .sleep) (corr : Nat)
    (src : BitVec 5) (mseq : BitVec 12) :
    exec (.mirrorAck corr src mseq) s = .next (s.done ((s.bump Reg.RING_CNT0_CORR corr).ringMirrorAck mseq.toNat)) :=
  receive_of_awake hserve hring hawake corr _

theorem exec_mirrorData {s : State} (hserve : s.serving = true) (hring : s.build.ring = true) (hawake : s.mode ≠ .sleep) (corr : Nat)
    (src : BitVec 5) (mseq : BitVec 12) (burst : Burst) :
    exec (.mirrorData corr src mseq burst) s = .next (s.done ((s.bump Reg.RING_CNT0_CORR corr).ringMirrorData mseq.toNat burst)) :=
  receive_of_awake hserve hring hawake corr _

/-! ## What the count of corrected words leaves as it is (R112, R306, R319) -/

theorem State.bump_word_ne (s : State) (f : FRef) (n : Nat) {key : Nat} (h : key ≠ f.key) : (s.bump f n).word key = s.word key :=
  State.setWord_word_ne _ _ _ _ h

theorem State.bump_fld_ne (s : State) (f : FRef) (n : Nat) {g : FRef} (h : g.key ≠ f.key) : (s.bump f n).fld g = s.fld g :=
  State.setFld_fld_ne _ _ _ _ h

/-- The channels' decode registers stand on page AMAP. -/
theorem State.bump_chDec {f : FRef} (hpage : f.key < 0x7000) (s : State) (n c : Nat) : (s.bump f n).chDec c = s.chDec c := by
  have hword : ∀ off, (s.bump f n).word (regKey 7 off) = s.word (regKey 7 off) := fun off =>
    s.bump_word_ne f n (by unfold regKey; omega)
  rw [State.chDec, hword, hword, State.chDec]

/-- A line's place goes by its channel's decode registers and the remap entries. -/
theorem State.placeOf_congr {s u : State} (hdec : ∀ c, u.chDec c = s.chDec c) (hrepair : u.repair = s.repair) (c l : Nat) :
    u.placeOf c l = s.placeOf c l := by
  simp only [State.placeOf, State.locOf, State.physRow, State.remapOf, State.rowNow, State.spareRow, hdec, hrepair]

theorem State.bump_ringCorr_placeOf (s : State) (n c l : Nat) : (s.bump Reg.RING_CNT0_CORR n).placeOf c l = s.placeOf c l :=
  State.placeOf_congr (s.bump_chDec (by decide) n) (s.bump_repair _ _) c l

theorem State.bump_ringCorr_chUp (s : State) (n c : Nat) : (s.bump Reg.RING_CNT0_CORR n).chUp c = s.chUp c := by
  have hstate := s.bump_fld_ne Reg.RING_CNT0_CORR n (g := Reg.RPMR_CHSTAT_STATE) (by decide)
  have hchan : (s.bump Reg.RING_CNT0_CORR n).chState c = s.chState c := by
    rw [State.chState, hstate, State.bump_build, State.chState]
  rw [State.chUp, hchan, State.chUp]

/-! ## At the peer (R147, R468) -/

/-- The entry joins the queues under the next tag and age. -/
theorem State.mem_addQE (s : State) (q : QE) : { q with tag := s.nextTag, age := s.age } ∈ (s.addQE q).qes :=
  List.mem_append_right _ List.mem_cons_self

section
variable {s : State} {ch : Nat}

section
variable (hup : s.chUp ch = true) (hend : s.mode ≠ .endgame) (hhalt : s.mode ≠ .halt)
include hup hend hhalt

theorem State.ringMirrorWr_of_up (src mseq l : Nat) (b : Burst) :
    s.ringMirrorWr src mseq ch l b = s.addQE { mkQE true (.mirrorWr src mseq) (s.placeOf ch l) s.tempo with pay := .stored b } :=
  if_neg (by simp [hup, hend, hhalt])

theorem State.ringMirrorRd_of_up (src mseq l : Nat) :
    s.ringMirrorRd src mseq ch l = s.addQE (mkQE false (.mirrorRd src mseq) (s.placeOf ch l) s.tempo) :=
  if_neg (by simp [hup, hend, hhalt])

end

section
variable (hdrop : s.chUp ch = false ∨ s.mode = .endgame ∨ s.mode = .halt)
include hdrop

theorem State.ringMirrorWr_of_dropped (src mseq l : Nat) (b : Burst) : s.ringMirrorWr src mseq ch l b = s :=
  if_pos (by simpa [or_assoc] using hdrop)

theorem State.ringMirrorRd_of_dropped (src mseq l : Nat) : s.ringMirrorRd src mseq ch l = s :=
  if_pos (by simpa [or_assoc] using hdrop)

end

end

/-! ## The answers (R87, R125, R312, R313) -/

theorem State.ringMirrorAck_of_await {s : State} {mseq : Nat} {a : Await} (ha : s.awaitOf 0x0B mseq = some a) :
    s.ringMirrorAck mseq =
      if a.forWhat = 0 then (s.dropAwait mseq).migStep
      else ((s.dropAwait mseq).mapQE a.forWhat (fun q => { q with acks := q.acks - 1 })).sweep := by
  simp only [State.ringMirrorAck, ha]

theorem State.ringMirrorAck_of_no_await {s : State} {mseq : Nat} (ha : s.awaitOf 0x0B mseq = none) : s.ringMirrorAck mseq = s := by
  simp only [State.ringMirrorAck, ha]

theorem State.ringMirrorData_of_await {s : State} {mseq : Nat} {a : Await} (ha : s.awaitOf 0x0D mseq = some a) (b : Burst) :
    s.ringMirrorData mseq b = (s.dropAwait mseq).mirrorResult a.forWhat (some b) := by
  simp only [State.ringMirrorData, ha]

theorem State.ringMirrorData_of_no_await {s : State} {mseq : Nat} (ha : s.awaitOf 0x0D mseq = none) (b : Burst) :
    s.ringMirrorData mseq b = s := by
  simp only [State.ringMirrorData, ha]

/-- Settles O56: MIRROR_WR and MIRROR_RD by the channel's state and the mode, MIRROR_ACK and MIRROR_DATA by what waits for them. Counting the
words corrected on the way, which comes first, leaves all of these as they are. That an answer nothing waits for does nothing is log entry 4. -/
theorem mirrorTraffic : Obligations.MirrorTraffic := by
  intro corr src mseq s x hserve hring hawake hx
  have hmode : x.mode = s.mode := by simp [hx]
  have hup : ∀ c, x.chUp c = s.chUp c := fun c => by rw [hx, State.bump_ringCorr_chUp]
  have hplace : ∀ c l, x.placeOf c l = s.placeOf c l := fun c l => by rw [hx, State.bump_ringCorr_placeOf]
  refine ⟨fun ch line burst hchan hend hhalt => ?_, fun ch line burst hdrop => ?_, fun a ha => ?_, fun ha => ?_, fun burst => ?_⟩
  · rw [← hup] at hchan
    rw [← hmode] at hend hhalt
    rw [exec_mirrorWr hserve hring hawake, exec_mirrorRd hserve hring hawake, ← hx, State.ringMirrorWr_of_up hchan hend hhalt,
      State.ringMirrorRd_of_up hchan hend hhalt]
    exact ⟨⟨_, rfl, _, x.mem_addQE _, rfl, rfl, rfl, hplace _ _⟩, ⟨_, rfl, _, x.mem_addQE _, rfl, rfl, hplace _ _⟩⟩
  · rw [← hup, ← hmode] at hdrop
    rw [exec_mirrorWr hserve hring hawake, exec_mirrorRd hserve hring hawake, ← hx, State.ringMirrorWr_of_dropped hdrop,
      State.ringMirrorRd_of_dropped hdrop]
    exact ⟨rfl, rfl⟩
  · rw [exec_mirrorAck hserve hring hawake, ← hx, State.ringMirrorAck_of_await ha]
    exact ⟨fun hwrite => by rw [if_neg hwrite], fun hmig => by rw [if_pos hmig]⟩
  · rw [exec_mirrorAck hserve hring hawake, ← hx, State.ringMirrorAck_of_no_await ha]
  · rw [exec_mirrorData hserve hring hawake, ← hx]
    exact ⟨fun a ha => by rw [State.ringMirrorData_of_await ha], fun ha => by rw [State.ringMirrorData_of_no_await ha]⟩

end Sys2Proof.Machine

/-! SUPPORT and settlement of the statement about bank hashing (O60). -/

namespace Sys2Proof.Machine

open Sys2Proof

/-! ## Decode inside a channel (R112-R114) -/

theorem bitAt_le_one (x i : Nat) : bitAt x i ≤ 1 := by
  unfold bitAt b2n
  split <;> decide

/-- As many bits as positions are gathered. -/
theorem gather_lt (x : Nat) (ps : List Nat) : gather x ps < 2 ^ ps.length := by
  induction ps with
  | nil => exact Nat.one_pos
  | cons p ps ih =>
    have hbit := bitAt_le_one x p
    have hcons : gather x (p :: ps) = gather x ps * 2 + bitAt x p := rfl
    rw [hcons, List.length_cons, Nat.pow_succ]
    omega

/-- Without hashing the bank number is the selected bits themselves, and with it they are XORed with row bits; M and the columns do not go by
BHASH. -/
theorem ChDec.loc_bk (d : ChDec) (c l : Nat) :
    (d.loc c l).bk =
      if d.bhash then
        4 * (gather l [d.bg0, d.bg1, d.bg2] ^^^ (d.loc c l).row % 8) + (gather l [d.ba0, d.ba1] ^^^ (d.loc c l).row / 8 % 4)
      else 4 * gather l [d.bg0, d.bg1, d.bg2] + gather l [d.ba0, d.ba1] := by
  cases h : d.bhash <;> simp [ChDec.loc, h]

/-- Of a location BHASH touches the bank number alone. -/
theorem ChDec.loc_bhash_frame (d : ChDec) (b : Bool) (c l : Nat) :
    { ({ d with bhash := b } : ChDec).loc c l with bk := (d.loc c l).bk } = d.loc c l := rfl

/-- Settles O60: of a bank number without hashing, the quotient and remainder by 4 are the selected bank group and bank bits. -/
theorem bankHash : Obligations.BankHash := by
  intro d c l hhash
  let plain : ChDec := { d with bhash := false }
  refine ⟨plain.loc c l, rfl, ?_⟩
  have hba : gather l [d.ba0, d.ba1] < 4 := gather_lt l _
  have hplain : (plain.loc c l).bk = 4 * gather l [d.bg0, d.bg1, d.bg2] + gather l [d.ba0, d.ba1] := plain.loc_bk c l
  have hbg : (plain.loc c l).bk / 4 = gather l [d.bg0, d.bg1, d.bg2] := by omega
  have hbank : (plain.loc c l).bk % 4 = gather l [d.ba0, d.ba1] := by omega
  have hhashed := d.loc_bk c l
  rw [if_pos hhash] at hhashed
  rw [hbg, hbank, ← d.loc_bhash_frame false c l, hhashed]
  rfl

end Sys2Proof.Machine

/-! SUPPORT and settlement of the statement about agreeing on a map (O53). -/

namespace Sys2Proof.Machine

open Sys2Proof

/-! ## The commands in service -/

theorem exec_mapOffer {s : State} (hserve : s.serving = true) (hring : s.build.ring = true) (hawake : s.mode ≠ .sleep) (corr : Nat)
    (src : BitVec 5) (mseq : BitVec 12) (id : BitVec 8) (refused : Bool) (refuser : BitVec 5) (reason : BitVec 4) (words : List Word) :
    exec (.mapOffer corr src mseq id refused refuser reason words) s = .next (s.done ((s.bump Reg.RING_CNT0_CORR corr).ringOffer
      src.toNat mseq.toNat id.toNat refused refuser.toNat reason.toNat words)) :=
  receive_of_awake hserve hring hawake corr _

theorem exec_mapCommit {s : State} (hserve : s.serving = true) (hring : s.build.ring = true) (hawake : s.mode ≠ .sleep) (corr : Nat)
    (src : BitVec 5) (id : BitVec 8) :
    exec (.mapCommit corr src id) s = .next (s.done ((s.bump Reg.RING_CNT0_CORR corr).ringCommit src.toNat id.toNat)) :=
  receive_of_awake hserve hring hawake corr _

theorem exec_mapAbort {s : State} (hserve : s.serving = true) (hring : s.build.ring = true) (hawake : s.mode ≠ .sleep) (corr : Nat)
    (src : BitVec 5) (id : BitVec 8) :
    exec (.mapAbort corr src id) s = .next (s.done ((s.bump Reg.RING_CNT0_CORR corr).ringAbort src.toNat id.toNat)) :=
  receive_of_awake hserve hring hawake corr _

theorem exec_mapOfferReturn {s : State} (hserve : s.serving = true) (hring : s.build.ring = true) (corr : Nat) (id : BitVec 8)
    (refused : Bool) :
    exec (.mapOfferReturn corr id refused) s = .next (s.done ((s.bump Reg.RING_CNT0_CORR corr).offerReturn id.toNat refused)) :=
  actIf_next hring hserve _

theorem exec_mapOfferTimeout {s : State} (hserve : s.serving = true) (hring : s.build.ring = true) :
    exec .mapOfferTimeout s = .next (s.done s.offerTimeout) := actIf_next hring hserve _

/-! ## What the count of corrected words leaves as it is (R107, R119, R142) -/

theorem State.bump_ringCorr_tileNo (s : State) (n : Nat) : (s.bump Reg.RING_CNT0_CORR n).tileNo = s.tileNo := by
  have hno := s.bump_fld_ne Reg.RING_CNT0_CORR n (g := Reg.RING_STAT_TILE_NO) (by decide)
  rw [State.tileNo, hno, State.bump_build, State.tileNo]

/-- The map entries stand on page AMAP. -/
theorem State.bump_entry {f : FRef} (hpage : f.key < 0x7000) (s : State) (n e : Nat) : (s.bump f n).entry e = s.entry e := by
  have hword : ∀ i, (s.bump f n).word (regKey 7 (0x100 + 0x40 * e + 4 * i)) = s.word (regKey 7 (0x100 + 0x40 * e + 4 * i)) := fun i =>
    s.bump_word_ne f n (by unfold regKey; omega)
  simp only [State.entry, hword]

theorem State.bump_ringCorr_changedBy (s : State) (n : Nat) (ws : List Word) :
    (s.bump Reg.RING_CNT0_CORR n).changedBy ws = s.changedBy ws := by
  simp only [State.changedBy, s.bump_entry (f := Reg.RING_CNT0_CORR) (by decide) n]

/-! ## An offer passes by (R116, R151) -/

/-- An offer of tile `src` as it travels on. -/
def offerMsg (src mseq arg : Nat) (ws : List Word) : RingMsg := ⟨0x04, 0, src, true, 48, mseq, 0, arg, offerFlits ws⟩

/-- The tile with another tile's offer held. -/
def State.holdOffer (s : State) (src id : Nat) (ws : List Word) : State :=
  { s with ring := { s.ring with offer := some ⟨id, src, ws, false, s.tempo, false⟩ } }

section
variable {s : State} {src id : Nat} {ws : List Word}

/-- With nothing against it the offer is held and passed on unrefused. -/
theorem State.ringOffer_of_accepted (hno : s.offerRefusal src id ws = none) (hnew : s.ring.applied.contains (src, id) = false)
    (mseq refuser reason : Nat) :
    s.ringOffer src mseq id false refuser reason ws =
      (s.holdOffer src id ws).emitRing true (offerMsg src mseq (id + refuser * 2 ^ 9 + reason * 2 ^ 14) ws) := by
  simp only [State.ringOffer, hno, hnew, b2n, Bool.false_eq_true, if_false, Option.isSome_none, Bool.or_false, Nat.zero_mul, Nat.add_zero]
  rfl

/-- A failed check of this tile is put into the offer, which is not held. -/
theorem State.ringOffer_of_failed {r : Nat} (hr : s.offerRefusal src id ws = some r) (mseq refuser reason : Nat) :
    s.ringOffer src mseq id false refuser reason ws =
      s.emitRing true (offerMsg src mseq (id + 2 ^ 8 + s.tileNo * 2 ^ 9 + r * 2 ^ 14) ws) := by
  simp only [State.ringOffer, hr, Bool.false_eq_true, if_false, Option.isSome_some, Bool.or_true, Bool.true_or, if_true]
  rfl

/-- Another tile's refusal is passed on. -/
theorem State.ringOffer_of_refused (s : State) (src mseq id refuser reason : Nat) (ws : List Word) :
    s.ringOffer src mseq id true refuser reason ws =
      s.emitRing true (offerMsg src mseq (id + 2 ^ 8 + refuser * 2 ^ 9 + reason * 2 ^ 14) ws) := by
  simp only [State.ringOffer, b2n, if_true, Bool.true_or, Nat.one_mul]
  rfl

end

/-! ## What a message that leaves does not touch -/

/-- What the agreement on a map turns on: the offer held, the switch under way and the words kept of a COMMIT. -/
def State.agreement (s : State) : Option Offer × Option Switch × Tab (Option Copy) := (s.ring.offer, s.ring.switch, s.copies)

theorem State.emitRing_agreement (s : State) (cw : Bool) (m : RingMsg) : (s.emitRing cw m).agreement = s.agreement := by
  unfold State.emitRing
  split <;> rfl

theorem State.sendOn_agreement (s : State) (cw : Bool) (type dst : Nat) (bc : Bool) (arg : Nat) (payload : List (BitVec 128)) :
    (s.sendOn cw type dst bc arg payload).agreement = s.agreement := by
  simp only [State.sendOn]
  split
  · rfl
  · exact State.emitRing_agreement _ _ _

theorem State.announce_agreement (s : State) (type id : Nat) : (s.announce type id).agreement = s.agreement :=
  State.sendOn_agreement s true type 0 true id []

/-! ## The offer ends (R119, R151) -/

/-- From `s` to `u` the offer is dropped, with the words its COMMIT kept, and no switch begins. -/
structure State.Aborted (s u : State) : Prop where
  offer : u.ring.offer = none
  copy : u.copy 7 = none
  switch : u.ring.switch = s.ring.switch

theorem State.abortOffer_aborted (s : State) (id : Nat) : s.Aborted (s.abortOffer id) := by
  have hagree : (s.abortOffer id).agreement = (none, s.ring.switch, tput none 7 none s.copies) := State.announce_agreement _ _ _
  simp only [State.agreement, Prod.mk.injEq] at hagree
  obtain ⟨hoffer, hswitch, hcopies⟩ := hagree
  exact ⟨hoffer, by rw [State.copy, hcopies, tget_tput, if_pos rfl], hswitch⟩

/-- A commit drops the offer and begins the switch to its words. -/
theorem State.takeCommit_offer (s : State) (o : Offer) : (s.takeCommit o).ring.offer = none := rfl

theorem State.takeCommit_switch (s : State) (o : Offer) :
    (s.takeCommit o).ring.switch = some ⟨s.changedBy o.words, o.words, s.tempo, s.age⟩ := rfl

section
variable {s : State} {o : Offer} (ho : s.ring.offer = some o)
include ho

/-- The offering tile broadcasts MAP_COMMIT and takes it, or MAP_ABORT with the event of a refusal. -/
theorem State.offerReturn_of_mine {id : Nat} (hmine : o.mine = true) (hid : o.id = id) (refused : Bool) :
    s.offerReturn id refused =
      if refused then ((s.ownReturned 0x04 id).abortOffer id).amapEvt 8 else ((s.ownReturned 0x04 id).announce 0x05 id).takeCommit o := by
  simp only [State.offerReturn, ho]
  exact if_neg (by simp [hmine, hid])

theorem State.offerTimeout_of_mine (hmine : o.mine = true) :
    s.offerTimeout = ((s.advanceTo (o.sent + ns 1000000)).ownReturned 0x04 o.id).abortOffer o.id := by
  simp only [State.offerTimeout, ho, hmine, if_true]

theorem State.offerTimeout_aborted (hmine : o.mine = true) : s.Aborted s.offerTimeout := by
  have hring : (s.advanceTo (o.sent + ns 1000000)).ring = s.ring := State.advanceTo_ring _ _
  have habort := ((s.advanceTo (o.sent + ns 1000000)).ownReturned 0x04 o.id).abortOffer_aborted o.id
  rw [State.offerTimeout_of_mine ho hmine]
  exact ⟨habort.offer, habort.copy, habort.switch.trans (congrArg RingSt.switch hring :)⟩

section
variable {src id : Nat} (hother : src ≠ s.tileNo) (hsrc : o.src = src) (hid : o.id = id)
include hother hsrc hid

theorem State.ringCommit_of_held (hnew : s.ring.applied.contains (src, id) = false) : s.ringCommit src id = s.takeCommit o := by
  simp only [State.ringCommit, if_neg hother, ho]
  exact if_pos ⟨hsrc, hid, hnew⟩

theorem State.ringAbort_of_held : s.ringAbort src id = { s with ring := { s.ring with offer := none } } := by
  simp only [State.ringAbort, if_neg hother, ho]
  exact if_pos ⟨hsrc, hid⟩

end

end

theorem State.offerTimeout_of_no_offer {s : State} (h : s.ring.offer = none) : s.offerTimeout = s := by
  simp only [State.offerTimeout, h]

/-- Settles O53: MAP_OFFER by this tile's refusal and an earlier one's, the rest by the offer held. Counting the words corrected on the way, which
comes first, leaves the ring stop, this tile's number and the map as they are. That a timeout without an offer does nothing is log entry 4. -/
theorem mapsAreAgreed : Obligations.MapsAreAgreed := by
  intro s hserve hring hawake
  refine ⟨fun corr src mseq id refuser reason words x hx => ?_, fun corr o id ho hmine hid => ?_, fun o ho hmine => ?_, fun ho => ?_,
    fun corr src id o hother ho hsrc hid => ?_⟩
  · have htile : x.tileNo = s.tileNo := by rw [hx, State.bump_ringCorr_tileNo]
    have hstop : x.ring = s.ring := by simp [hx]
    have htempo : x.tempo = s.tempo := by simp [hx]
    rw [exec_mapOffer hserve hring hawake, exec_mapOffer hserve hring hawake, ← hx, ← htile, ← hstop, ← htempo]
    refine ⟨fun hno hnew => ?_, fun r hr => ?_, ?_⟩
    · have hid := id.isLt
      rw [State.ringOffer_of_accepted hno hnew]
      exact ⟨x.holdOffer src.toNat id.toNat words, _, rfl, rfl, rfl, rfl, by simp only [offerMsg]; omega, by simp only [offerMsg]; omega⟩
    · exact ⟨_, by rw [State.ringOffer_of_failed hr], rfl, rfl, rfl⟩
    · exact ⟨_, by rw [State.ringOffer_of_refused], rfl, rfl, rfl⟩
  · let x := s.bump Reg.RING_CNT0_CORR corr
    have hreturn := State.offerReturn_of_mine (s := x) ho hmine hid
    rw [exec_mapOfferReturn hserve hring, exec_mapOfferReturn hserve hring]
    refine ⟨⟨_, rfl, ?_⟩, ⟨_, rfl, ?_⟩⟩
    · rw [hreturn false]
      exact ⟨State.takeCommit_offer _ o, _, State.takeCommit_switch _ o, rfl⟩
    · have habort := (x.ownReturned 0x04 id.toNat).abortOffer_aborted id.toNat
      rw [hreturn true]
      exact ⟨habort.offer, habort.copy, habort.switch⟩
  · have habort := State.offerTimeout_aborted ho hmine
    exact ⟨_, exec_mapOfferTimeout hserve hring, habort.offer, habort.copy, habort.switch⟩
  · rw [exec_mapOfferTimeout hserve hring, State.offerTimeout_of_no_offer ho]
  · rw [exec_mapCommit hserve hring hawake, exec_mapAbort hserve hring hawake]
    have hno := s.bump_ringCorr_tileNo corr
    have hchanged := s.bump_ringCorr_changedBy corr o.words
    have hstop : (s.bump Reg.RING_CNT0_CORR corr).ring = s.ring := by simp
    have htempo : (s.bump Reg.RING_CNT0_CORR corr).tempo = s.tempo := by simp
    have hage : (s.bump Reg.RING_CNT0_CORR corr).age = s.age := by simp
    generalize s.bump Reg.RING_CNT0_CORR corr = x at hno hchanged hstop htempo hage ⊢
    rw [← hno] at hother
    rw [← hstop] at ho ⊢
    refine ⟨fun hnew => ⟨_, rfl, ?_⟩, ⟨_, rfl, ?_⟩⟩
    · rw [State.ringCommit_of_held ho hother hsrc hid hnew, State.takeCommit_switch, hchanged, htempo, hage]
      exact ⟨State.takeCommit_offer x o, rfl⟩
    · rw [State.ringAbort_of_held ho hother hsrc hid]

end Sys2Proof.Machine

/-! SUPPORT. The tile ring family (O4, O51, O52): what leaves when the ring stop sends, and what that leaves as it was. -/

namespace Sys2Proof.Machine

open Sys2Proof

/-- A fold keeps what each of its steps keeps. -/
theorem foldl_keeps {α β γ : Type} (g : β → γ) {f : β → α → β} {l : List α} (h : ∀ b, ∀ a ∈ l, g (f b a) = g b) (b : β) :
    g (l.foldl f b) = g b :=
  List.foldlRecOn (motive := fun c => g c = g b) l f rfl fun c hc a ha => (h c a ha).trans hc

/-! ## Fields without a bit in common -/

/-- Two fields within a word that lie in different registers or share no bit. -/
abbrev FRef.Apart (f g : FRef) : Prop := f.hi < 32 ∧ g.hi < 32 ∧ (f.key ≠ g.key ∨ f.hi < g.lo ∨ g.hi < f.lo)

theorem State.setFld_fld_apart {f g : FRef} (h : f.Apart g) (s : State) (v : Nat) : (s.setFld f v).fld g = s.fld g := by
  obtain ⟨hf, hg, hapart⟩ := h
  exact s.setFld_fld_of_apart v hf hg hapart

/-- A field reads as a value that fits into it. -/
theorem State.setFld_fld_same (s : State) {f : FRef} {v : Nat} (hf : f.lo ≤ f.hi) (hf32 : f.hi < 32) (hv : v < 2 ^ (f.hi + 1 - f.lo)) :
    (s.setFld f v).fld f = v := by
  rw [(fieldReadAfterWrite s f f v hf hf32 hf hf32).1, Nat.mod_eq_of_lt hv]

/-- Writes of fields that lie apart from one leave it. -/
theorem State.setFlds_fld_apart {g : FRef} (l : List (FRef × Nat)) (h : ∀ p ∈ l, p.1.Apart g) (s : State) : (s.setFlds l).fld g = s.fld g :=
  foldl_keeps (·.fld g) (fun t p hp => State.setFld_fld_apart (h p hp) t p.2) s

/-! ## What sending leaves as it was (R139, R144, R154) -/

/-- From `s` to `t` the ring stop sends: of its own state the count of messages, the last ones sent, and those that wait for an answer or for a
changed route may differ; what has left stays recorded, and all else stands. -/
structure State.OnlySends (s t : State) : Prop where
  rest : { t with ring := s.ring, outputs := s.outputs } = s
  ring : { t.ring with
    mseq := s.ring.mseq, lastCw := s.ring.lastCw, lastCcw := s.ring.lastCcw, errCw := s.ring.errCw, errCcw := s.ring.errCcw,
    awaits := s.ring.awaits, routeHold := s.ring.routeHold, deferred := s.ring.deferred } = s.ring
  outputs : s.outputs ⊆ t.outputs

theorem State.OnlySends.refl (s : State) : s.OnlySends s := ⟨rfl, rfl, List.Subset.refl _⟩

theorem State.OnlySends.trans {s t u : State} (hst : s.OnlySends t) (htu : t.OnlySends u) : s.OnlySends u where
  rest := (congrArg (fun x : State => { x with ring := s.ring, outputs := s.outputs }) htu.rest).trans hst.rest
  ring := (congrArg (fun r : RingSt => { r with
    mseq := s.ring.mseq, lastCw := s.ring.lastCw, lastCcw := s.ring.lastCcw, errCw := s.ring.errCw, errCcw := s.ring.errCcw,
    awaits := s.ring.awaits, routeHold := s.ring.routeHold, deferred := s.ring.deferred }) htu.ring).trans hst.ring
  outputs := List.Subset.trans hst.outputs htu.outputs

/-- A change of what waits for an answer or a changed route, or of the count of messages. -/
theorem State.OnlySends.of_ring (s : State) (mseq : Nat) (awaits deferred : List Await) (routeHold : List Nat) :
    s.OnlySends { s with ring := { s.ring with mseq := mseq, awaits := awaits, deferred := deferred, routeHold := routeHold } } :=
  ⟨rfl, rfl, List.Subset.refl _⟩

theorem State.OnlySends.foldl {α : Type} {f : State → α → State} (hf : ∀ (t : State) (a : α), t.OnlySends (f t a)) (l : List α) (s : State) :
    s.OnlySends (l.foldl f s) :=
  List.foldlRecOn (motive := s.OnlySends) l f (.refl s) fun t ht a _ => ht.trans (hf t a)

theorem State.onlySends_emitRing (s : State) (cw : Bool) (m : RingMsg) : s.OnlySends (s.emitRing cw m) := by
  refine ⟨?_, ?_, (s.keepsAnswers_emitRing cw m).outputs⟩
  all_goals unfold State.emitRing; split <;> rfl

theorem State.onlySends_sendOn (s : State) (cw : Bool) (type dst : Nat) (bc : Bool) (arg : Nat) (payload : List (BitVec 128)) :
    s.OnlySends (s.sendOn cw type dst bc arg payload) := by
  have hcount : s.OnlySends { s with ring := { s.ring with mseq := (s.ring.mseq + 1) % 4096 } } := .of_ring s _ _ _ _
  simp only [State.sendOn]
  split
  · exact hcount
  · exact hcount.trans (State.onlySends_emitRing _ _ _)

theorem State.onlySends_send (s : State) (type dst arg : Nat) (payload : List (BitVec 128)) : s.OnlySends (s.send type dst arg payload) :=
  s.onlySends_sendOn _ _ _ _ _ _

theorem State.onlySends_broadcast (s : State) (type arg : Nat) (payload : List (BitVec 128)) : s.OnlySends (s.broadcast type arg payload) := by
  unfold State.broadcast
  split
  · exact s.onlySends_sendOn _ _ _ _ _ _
  · exact .refl s

theorem State.onlySends_forwardData (s : State) (rid dst mseq : Nat) (only : Option Nat) : s.OnlySends (s.forwardData rid dst mseq only) :=
  .foldl (fun t _ => t.onlySends_send _ _ _ _) _ s

theorem State.onlySends_releaseRoutes (s : State) : s.OnlySends s.releaseRoutes := by
  simp only [State.releaseRoutes]
  refine State.OnlySends.trans (.of_ring s _ _ _ _) (.foldl (fun t a => ?_) _ _)
  have hmsg : t.OnlySends { t.emitRing (t.routeCw a.dst) a.msg with ring := { (t.emitRing (t.routeCw a.dst) a.msg).ring with
      awaits := (t.emitRing (t.routeCw a.dst) a.msg).ring.awaits ++ [{ a with sent := (t.emitRing (t.routeCw a.dst) a.msg).tempo }] } } :=
    (t.onlySends_emitRing _ _).trans (.of_ring _ _ _ _ _)
  split
  · exact hmsg.trans (State.onlySends_forwardData _ _ _ _ _)
  · exact hmsg

theorem State.onlySends_dropAwait (s : State) (mseq : Nat) : s.OnlySends (s.dropAwait mseq) :=
  .trans (.of_ring s _ _ _ _) (State.onlySends_releaseRoutes _)

section
variable {s t : State} (h : s.OnlySends t)
include h

theorem State.OnlySends.mode : t.mode = s.mode := (congrArg State.mode h.rest :)
theorem State.OnlySends.resetN : t.resetN = s.resetN := (congrArg State.resetN h.rest :)
theorem State.OnlySends.tempo : t.tempo = s.tempo := (congrArg State.tempo h.rest :)
theorem State.OnlySends.regs : t.regs = s.regs := (congrArg State.regs h.rest :)
theorem State.OnlySends.reqs : t.reqs = s.reqs := (congrArg State.reqs h.rest :)
theorem State.OnlySends.anchor : t.ring.anchor = s.ring.anchor := (congrArg RingSt.anchor h.ring :)
theorem State.OnlySends.broken : t.ring.broken = s.ring.broken := (congrArg RingSt.broken h.ring :)
theorem State.OnlySends.discRun : t.ring.discRun = s.ring.discRun := (congrArg RingSt.discRun h.ring :)
theorem State.OnlySends.fld (f : FRef) : t.fld f = s.fld f := by rw [State.fld, State.word, h.regs, State.fld, State.word]
theorem State.OnlySends.flag (f : FRef) : t.flag f = s.flag f := by rw [State.flag, h.fld, State.flag]
theorem State.OnlySends.req? (rid : Nat) : t.req? rid = s.req? rid := by rw [State.req?, h.reqs, State.req?]

end

/-! ## What leaves (R139, R154, R478) -/

/-- Where no link is broken a message leaves on the ring it is meant for. -/
theorem State.ringOut_of_whole {s : State} (h : s.ring.broken = []) (cw : Bool) : s.ringOut cw = some cw := by simp [State.ringOut, h]

/-- Where this tile's own output on a ring is not broken, a message leaves on it. -/
theorem State.ringOut_of_own {s : State} {cw : Bool} (h : s.ring.broken.contains (cw, s.tileNo) = false) : s.ringOut cw = some cw := by
  rw [State.ringOut, h]
  rfl

theorem State.emitRing_outputs {s : State} {cw d : Bool} (h : s.ringOut cw = some d) (m : RingMsg) :
    (s.emitRing cw m).outputs = s.outputs ++ [.ring d m] := by
  unfold State.emitRing
  rw [h]
  cases d <;> rfl

/-- A message of this tile's own leaves, from a ring stop that passed startup BIST or as DISC or a token. -/
theorem State.sendOn_leaves {s : State} {cw d : Bool} (hout : s.ringOut cw = some d) {type : Nat}
    (hpass : s.bist.ringBad = false ∨ type = 0x01 ∨ type = 0x10) (dst : Nat) (bc : Bool) (arg : Nat) (payload : List (BitVec 128)) :
    ∃ m, .ring d m ∈ (s.sendOn cw type dst bc arg payload).outputs ∧ m.type = type ∧ m.arg = arg ∧ m.bc = bc := by
  let m : RingMsg := ⟨type, dst, s.tileNo, bc, payload.length, s.ring.mseq, 0, arg, payload⟩
  have hspoken : (s.bist.ringBad && decide (type ≠ 0x01) && decide (type ≠ 0x10)) = false := by
    rcases hpass with hgood | rfl | rfl <;> simp [*]
  have hsent : (s.sendOn cw type dst bc arg payload).outputs = s.outputs ++ [.ring d m] := by
    simp only [State.sendOn, hspoken, Bool.false_eq_true, if_false]
    exact State.emitRing_outputs (s := { s with ring := { s.ring with mseq := (s.ring.mseq + 1) % 4096 } }) hout m
  exact ⟨m, hsent ▸ List.mem_append_right _ List.mem_cons_self, rfl, rfl, rfl⟩

/-- DISC leaves on the ring it is meant for where no link is broken. -/
theorem State.sendDisc_leaves {s : State} (hwhole : s.ring.broken = []) (cw : Bool) (count : Nat) :
    ∃ m, .ring cw m ∈ (s.sendOn cw 0x01 0 false count []).outputs ∧ m.type = 0x01 ∧ m.arg = count := by
  obtain ⟨m, hleft, htype, harg, -⟩ := State.sendOn_leaves (State.ringOut_of_whole hwhole cw) (.inr (.inl rfl)) 0 false count []
  exact ⟨m, hleft, htype, harg⟩

/-- An attempt of the anchor begins with DISC with count 0 on the CW ring (R141). -/
theorem State.startDisc_leaves {s : State} (hwhole : s.ring.broken = []) :
    ∃ m, .ring true m ∈ s.startDisc.outputs ∧ m.type = 0x01 ∧ m.arg = 0 := State.sendDisc_leaves hwhole true 0

end Sys2Proof.Machine

/-! SUPPORT and settlement of the statement about ring discovery (O51). -/

namespace Sys2Proof.Machine

open Sys2Proof

/-! ## The commands in service -/

theorem exec_disc {s : State} (hserve : s.serving = true) (hring : s.build.ring = true) (hawake : s.mode ≠ .sleep) (corr : Nat) (dir : RingDir)
    (foreign : Bool) (count : BitVec 6) :
    exec (.disc corr dir foreign count) s = .next (s.done ((s.bump Reg.RING_CNT0_CORR corr).ringDisc (cwOf dir) foreign count.toNat)) :=
  receive_of_awake hserve hring hawake corr _

theorem exec_discDone {s : State} (hserve : s.serving = true) (hring : s.build.ring = true) (hawake : s.mode ≠ .sleep) (corr : Nat)
    (total : BitVec 6) :
    exec (.discDone corr total) s = .next (s.done ((s.bump Reg.RING_CNT0_CORR corr).ringDiscDone total.toNat)) :=
  receive_of_awake hserve hring hawake corr _

theorem exec_discReq {s : State} (hserve : s.serving = true) (hring : s.build.ring = true) (hawake : s.mode ≠ .sleep) (corr : Nat) :
    exec (.discReq corr) s = .next (s.done (s.bump Reg.RING_CNT0_CORR corr).ringDiscReq) := receive_of_awake hserve hring hawake corr _

theorem exec_discRepeatTimer {s : State} (hserve : s.serving = true) (hring : s.build.ring = true) :
    exec .discRepeatTimer s = .next (s.done s.discRepeat) := actIf_next hring hserve _

theorem exec_discLoopTimeout {s : State} (hserve : s.serving = true) (hring : s.build.ring = true) :
    exec .discLoopTimeout s = .next (s.done s.discTimeout) := actIf_next hring hserve _

/-! ## Numbering ends (R141, R149) -/

/-- What the end of numbering records beside the number of tiles: the links work (log entry 44), and discovery is done. -/
def linksUp : List (FRef × Nat) :=
  [(Reg.RING_STAT_CWI_UP, 1), (Reg.RING_STAT_CWO_UP, 1), (Reg.RING_STAT_CCWI_UP, 1), (Reg.RING_STAT_CCWO_UP, 1), (Reg.RING_EVT_DISC_DONE, 1)]

theorem State.numbered_eq (s : State) (total : Nat) :
    s.numbered total = ((s.set1 Reg.RING_STAT_NUMBERED).setFld Reg.RING_STAT_TILES total).setFlds linksUp := by
  simp only [State.numbered, linksUp, State.setFlds, State.set1, List.foldl_cons, List.foldl_nil]

theorem State.numbered_flag (s : State) (total : Nat) : (s.numbered total).flag Reg.RING_STAT_NUMBERED = true := by
  have hset : (s.set1 Reg.RING_STAT_NUMBERED).flag Reg.RING_STAT_NUMBERED = true := s.set1_flag_same (by decide) (by decide)
  have hlinks : ∀ p ∈ linksUp, p.1.Apart Reg.RING_STAT_NUMBERED := by decide
  rw [State.numbered_eq, State.flag, State.setFlds_fld_apart _ hlinks, State.setFld_fld_apart (by decide)]
  exact hset

theorem State.numbered_tiles (s : State) {total : Nat} (h : total < 64) : (s.numbered total).fld Reg.RING_STAT_TILES = total := by
  have hlinks : ∀ p ∈ linksUp, p.1.Apart Reg.RING_STAT_TILES := by decide
  rw [State.numbered_eq, State.setFlds_fld_apart _ hlinks, State.setFld_fld_same _ (by decide) (by decide) h]

/-! ## What the tokens of a new ring leave as it was (R149, R245) -/

/-- What numbering leaves behind: the registers, and whether an attempt runs. -/
def State.numbering (s : State) : Tab Word × Bool := (s.regs, s.ring.discRun)

theorem State.OnlySends.numbering {s t : State} (h : s.OnlySends t) : t.numbering = s.numbering := by
  rw [State.numbering, h.regs, h.discRun, State.numbering]

theorem State.fld_of_numbering {s t : State} (h : t.numbering = s.numbering) (f : FRef) : t.fld f = s.fld f := by
  have hregs : t.regs = s.regs := congrArg Prod.fst h
  rw [State.fld, State.word, hregs, State.fld, State.word]

theorem State.dropRefresh_numbering (s : State) (sc : Nat) (gone : Proposal → Bool) : (s.dropRefresh sc gone).numbering = s.numbering := by
  refine (foldl_keeps State.numbering (fun t p _ => ?_) _).trans ?_ <;> rfl

theorem State.withdrawRefab_numbering (s : State) : s.withdrawRefab.numbering = s.numbering := by
  unfold State.withdrawRefab
  split
  · rfl
  · exact foldl_keeps State.numbering (fun t _ _ => t.dropRefresh_numbering _ _) s

theorem State.sendToken_numbering (s : State) (num : Nat) : (s.sendToken num).numbering = s.numbering :=
  (State.withdrawRefab_numbering _).trans (s.onlySends_sendOn _ _ _ _ _ _).numbering

/-- The anchor puts its tokens on the ring. -/
theorem State.sendTokens_numbering (s : State) (l : List Nat) : (l.foldl (fun s i => s.sendToken i) s).numbering = s.numbering :=
  foldl_keeps State.numbering (fun t n _ => t.sendToken_numbering n) s

/-! ## DISC (R141-R143) -/

section
variable {s : State}

/-- A tile without a number takes the count plus 1, and sends the message on so. -/
theorem State.ringDisc_of_unnumbered {count : Nat} (hanchor : s.ring.anchor = false) (hnew : s.flag Reg.RING_STAT_NUMBERED = false)
    (hcount : count < 31) (foreign : Bool) :
    s.ringDisc true foreign count = (s.setFld Reg.RING_STAT_TILE_NO (count + 1)).sendOn true 0x01 0 false (count + 1) [] := by
  have hfits : count + 1 < 32 := by omega
  have hsmall : min (count + 1) 63 = count + 1 := by omega
  simp only [State.ringDisc, hanchor, hnew, hfits, hsmall, Bool.not_true, Bool.false_eq_true, if_false, if_true]

section
variable (hanchor : s.ring.anchor = true)
include hanchor

theorem State.ringDisc_of_foreign (cw : Bool) (count : Nat) :
    s.ringDisc cw true count = { s with ring := { s.ring with discStop := true, discRun := false } }.set1 Reg.RING_EVT_MULTI_ANCHOR := by
  simp only [State.ringDisc, hanchor, if_true]

theorem State.ringDisc_of_anchor (cw : Bool) (count : Nat) : s.ringDisc cw false count = s.discBack cw count := by
  simp only [State.ringDisc, hanchor, if_true, Bool.false_eq_true, if_false]

end

section
variable (hrun : s.ring.discRun = true) (hwait : s.ring.discWait = false)
include hrun hwait

theorem State.discBack_of_oversize {count : Nat} (h : 32 ≤ count) (cw : Bool) : s.discBack cw count = s.discFails Reg.RING_EVT_OVERSIZE := by
  simp [State.discBack, hrun, hwait, h]

variable {count : Nat} (h : count < 32)
include h

/-- Back on the CW ring, the message is followed by one on the CCW ring. -/
theorem State.discBack_cw :
    s.discBack true count =
      let t := s.sendOn false 0x01 0 false 0 []
      { t with ring := { t.ring with discCw := some count, discLoop := t.tempo } } := by
  simp [State.discBack, hrun, hwait, Nat.not_le.2 h]

/-- Back on the CCW ring with the same count, the anchor ends the attempt with DISC_DONE and puts its tokens on the ring. -/
theorem State.discBack_ccw (hcw : s.ring.discCw = some count) :
    s.discBack false count =
      let t := ((({ s with ring := { s.ring with discRun := false, discCw := none, tokens := [], tokOut := [], tokUsed := [] } } : State).numbered
        (count + 1)).setFld Reg.RING_STAT_TILE_NO 0).broadcast 0x02 (count + 1) []
      (List.range t.tokenCount).foldl (fun s i => s.sendToken i) t := by
  simp [State.discBack, hrun, hwait, Nat.not_le.2 h, hcw]

/-- After that the ring is numbered and this tile is its first. -/
theorem State.discBack_ccw_numbering (hcw : s.ring.discCw = some count) :
    (s.discBack false count).numbering =
      ((({ s with ring := { s.ring with discRun := false, discCw := none, tokens := [], tokOut := [], tokUsed := [] } } : State).numbered
        (count + 1)).setFld Reg.RING_STAT_TILE_NO 0).numbering := by
  rw [State.discBack_ccw hrun hwait h hcw]
  exact (State.sendTokens_numbering _ _).trans (State.onlySends_broadcast _ _ _ _).numbering

end

/-! ## DISC_DONE, DISC_REQ and the timers (R141-R143) -/

theorem State.ringDiscDone_of_anchor (h : s.ring.anchor = true) (total : Nat) : s.ringDiscDone total = s := if_pos h

theorem State.ringDiscDone_of_other (h : s.ring.anchor = false) {total : Nat} (hfits : total < 64) :
    s.ringDiscDone total = s.numbered total := by
  rw [State.ringDiscDone, if_neg (by simp [h]), Nat.mod_eq_of_lt hfits]

theorem State.ringDiscReq_of_other (h : s.ring.anchor = false) : s.ringDiscReq = s := if_neg (by simp [h])

theorem State.ringDiscReq_of_idle (hanchor : s.ring.anchor = true) (hgoes : s.ring.discStop = false) (hidle : s.ring.discRun = false) :
    s.ringDiscReq = s.startDisc := if_pos (by simp [hanchor, hgoes, hidle])

/-- The repeat comes 1 ms after the start of the attempt that failed. -/
theorem State.discRepeat_of_failed (hanchor : s.ring.anchor = true) (hgoes : s.ring.discStop = false) (hrun : s.ring.discRun = true)
    (hwait : s.ring.discWait = true) : s.discRepeat = (s.advanceTo (s.ring.discStart + ns 1000000)).startDisc := by
  simp [State.discRepeat, hanchor, hgoes, hrun, hwait]

theorem State.discTimeout_of_running (hanchor : s.ring.anchor = true) (hrun : s.ring.discRun = true) (hwait : s.ring.discWait = false) :
    s.discTimeout = (s.advanceTo (s.ring.discLoop + ns 100000)).discFails Reg.RING_EVT_DISC_FAIL := if_pos (by simp [hanchor, hrun, hwait])

end

/-- A failed attempt waits for its repeat and records why. -/
theorem State.discFails_wait (s : State) (ev : FRef) : (s.discFails ev).ring.discWait = true := rfl

theorem State.discFails_flag (s : State) {ev : FRef} (hev : ev.lo ≤ ev.hi) (hev32 : ev.hi < 32) : (s.discFails ev).flag ev = true :=
  State.set1_flag_same _ hev hev32

/-- Settles O51: each command by what it finds at the anchor or elsewhere. Counting the words corrected on the way, which comes first, leaves the
ring stop and whether the tile is numbered as they are. That DISC of a foreign anchor is told from one's own by an operand is log entry 45. -/
theorem discoveryNumbersTiles : Obligations.DiscoveryNumbersTiles := by
  intro corr s x hserve hring hawake hwhole hx
  have hstop : x.ring = s.ring := by simp [hx]
  have hnumbered : x.flag Reg.RING_STAT_NUMBERED = s.flag Reg.RING_STAT_NUMBERED := by
    rw [hx, State.flag, State.bump_fld_ne _ _ _ (by decide), State.flag]
  refine ⟨fun count hanchor hnew hcount => ?_, fun count hanchor hrun hwait => ⟨fun hcount => ?_, fun hcw hcount => ?_, fun dir hcount => ?_⟩,
    fun dir count hanchor => ?_, fun total => ⟨fun hanchor => ?_, fun hanchor => ?_⟩, fun hanchor => ?_,
    fun hanchor hgoes => ⟨fun hidle => ?_, fun hrun hwait => ?_⟩, fun hanchor hrun hwait => ?_⟩
  · rw [exec_disc hserve hring hawake, ← hx, cwOf]
    rw [← hstop] at hwhole hanchor
    rw [← hnumbered] at hnew
    rw [State.ringDisc_of_unnumbered hanchor hnew hcount]
    refine ⟨_, rfl, ?_, State.sendDisc_leaves (by rw [State.setFld_ring, hwhole]) true _⟩
    rw [(State.onlySends_sendOn _ _ _ _ _ _ _).fld,
      State.setFld_fld_same x (by decide) (by decide) (show count.toNat + 1 < 2 ^ 5 by omega)]
  · rw [exec_disc hserve hring hawake, ← hx, cwOf]
    rw [← hstop] at hwhole hanchor hrun hwait
    rw [State.ringDisc_of_anchor hanchor, State.discBack_cw hrun hwait hcount]
    exact ⟨_, rfl, rfl, (State.onlySends_sendOn x _ _ _ _ _ _).discRun.trans hrun, State.sendDisc_leaves hwhole false 0⟩
  · rw [exec_disc hserve hring hawake, ← hx, cwOf]
    rw [← hstop] at hanchor hrun hwait hcw
    have hends := State.discBack_ccw_numbering hrun hwait hcount hcw
    have hfld := State.fld_of_numbering hends
    rw [State.ringDisc_of_anchor hanchor]
    refine ⟨_, rfl, (congrArg Prod.snd hends :), ?_, ?_, ?_⟩
    · rw [State.flag, hfld, State.setFld_fld_apart (by decide)]
      exact State.numbered_flag _ _
    · rw [hfld, State.setFld_fld_apart (by decide), State.numbered_tiles _ (by omega)]
    · rw [hfld, State.setFld_fld_same _ (by decide) (by decide) (by decide)]
  · rw [exec_disc hserve hring hawake, ← hx]
    rw [← hstop] at hanchor hrun hwait
    rw [State.ringDisc_of_anchor hanchor, State.discBack_of_oversize hrun hwait hcount]
    exact ⟨_, rfl, State.discFails_wait _ _, State.discFails_flag _ (by decide) (by decide)⟩
  · rw [exec_disc hserve hring hawake, ← hx, State.ringDisc_of_foreign (hstop ▸ hanchor)]
    exact ⟨_, rfl, rfl, State.set1_flag_same _ (by decide) (by decide)⟩
  · rw [exec_discDone hserve hring hawake, ← hx, State.ringDiscDone_of_other (hstop ▸ hanchor) total.isLt]
    exact ⟨_, rfl, State.numbered_flag _ _, State.numbered_tiles _ total.isLt⟩
  · rw [exec_discDone hserve hring hawake, ← hx, State.ringDiscDone_of_anchor (hstop ▸ hanchor)]
  · rw [exec_discReq hserve hring hawake, ← hx, State.ringDiscReq_of_other (hstop ▸ hanchor)]
  · rw [exec_discReq hserve hring hawake, ← hx]
    rw [← hstop] at hwhole hanchor hgoes hidle
    rw [State.ringDiscReq_of_idle hanchor hgoes hidle]
    exact ⟨_, rfl, rfl, State.startDisc_leaves hwhole⟩
  · rw [exec_discRepeatTimer hserve hring, State.discRepeat_of_failed hanchor hgoes hrun hwait]
    exact ⟨_, rfl, rfl, rfl, State.startDisc_leaves (by rw [State.advanceTo_ring, hwhole])⟩
  · rw [exec_discLoopTimeout hserve hring, State.discTimeout_of_running hanchor hrun hwait]
    exact ⟨_, rfl, State.discFails_wait _ _, State.discFails_flag _ (by decide) (by decide)⟩

end Sys2Proof.Machine

/-! SUPPORT. Links between ring stops, whole and broken (O52). -/

namespace Sys2Proof.Machine

open Sys2Proof

/-! ## The commands in service -/

theorem exec_linkDown {s : State} (hserve : s.serving = true) (hring : s.build.ring = true) (hawake : s.mode ≠ .sleep) (corr : Nat)
    (src : BitVec 5) (ccw : Bool) (tile : BitVec 5) :
    exec (.linkDown corr src ccw tile) s = .next (s.done ((s.bump Reg.RING_CNT0_CORR corr).ringLinkDown ccw tile.toNat)) :=
  receive_of_awake hserve hring hawake corr _

section
variable {s : State} (hserve : s.serving = true) (hring : s.build.ring = true)
include hserve hring

theorem exec_linkAckTimeout (dir : RingDir) : exec (.linkAckTimeout dir) s = .next (s.done (s.ackTimeout (cwOf dir))) := actIf_next hring hserve _

theorem exec_ringFlitError_sent (dir : RingDir) : exec (.ringFlitError dir false) s = .next (s.done (s.flitError (cwOf dir))) :=
  actIf_next hring hserve _

theorem exec_ringFlitError_received (dir : RingDir) :
    exec (.ringFlitError dir true) s = .next (s.done (s.emit (.ringError (cwOf dir)))) := actIf_next hring hserve _

theorem exec_ringUnknownType (type : BitVec 8) : exec (.ringUnknownType type) s = .next (s.done (s.unknownType type.toNat)) :=
  actIf_next hring hserve _

theorem exec_ringDeflect (dir : RingDir) (msg : RingMsg) : exec (.ringDeflect dir msg) s = .next (s.done (s.deflect (cwOf dir) msg)) :=
  actIf_next hring hserve _

theorem exec_rspTmoExpiry (mseq : BitVec 12) : exec (.rspTmoExpiry mseq) s = .next (s.done (s.rspTimeout mseq.toNat)) :=
  actIf_next hring hserve _

end

/-! ## A link becomes known as broken (R154) -/

/-- The inputs of this tile that a broken link ends at are not up any more. -/
def State.inputsDown (s : State) (cw : Bool) (tile : Nat) : State :=
  let n := max 1 (s.fld Reg.RING_STAT_TILES)
  let s := if cw ∧ (tile + 1) % n = s.tileNo then s.clr Reg.RING_STAT_CWI_UP else s
  if !cw ∧ (s.tileNo + 1) % n = tile then s.clr Reg.RING_STAT_CCWI_UP else s

theorem State.inputsDown_frame (s : State) (cw : Bool) (tile : Nat) : { s.inputsDown cw tile with regs := s.regs } = s := by
  have hclr : ∀ (t : State) (c : Prop) [Decidable c] (f : FRef),
      { (if c then t.clr f else t) with regs := s.regs } = { t with regs := s.regs } := fun t c _ f => by split <;> rfl
  exact (hclr _ _ _).trans (hclr _ _ _)

theorem State.inputsDown_ring (s : State) (cw : Bool) (tile : Nat) : (s.inputsDown cw tile).ring = s.ring :=
  (congrArg State.ring (s.inputsDown_frame cw tile) :)

theorem State.inputsDown_fld {g : FRef} (hcw : Reg.RING_STAT_CWI_UP.Apart g) (hccw : Reg.RING_STAT_CCWI_UP.Apart g) (s : State) (cw : Bool)
    (tile : Nat) : (s.inputsDown cw tile).fld g = s.fld g := by
  simp only [State.inputsDown, State.clr]
  split <;> split <;> simp only [State.setFld_fld_apart hcw, State.setFld_fld_apart hccw]

/-- The link is listed, with the destinations that hold new requests. -/
def State.listBroken (s : State) (cw : Bool) (tile : Nat) (hold : List Nat) : State :=
  { s with ring := { s.ring with broken := s.ring.broken ++ [(cw, tile)], routeHold := hold } }

theorem State.noteBroken_of_known {s : State} {cw : Bool} {tile : Nat} (h : s.ring.broken.contains (cw, tile) = true) :
    s.noteBroken cw tile = s := if_pos h

theorem State.noteBroken_of_new {s : State} {cw : Bool} {tile : Nat} (h : s.ring.broken.contains (cw, tile) = false) :
    ∃ hold, s.noteBroken cw tile = ((s.listBroken cw tile hold).inputsDown cw tile).set1 Reg.RING_EVT_LINK_DOWN :=
  ⟨_, if_neg (ne_true_of_eq_false h)⟩

/-- What noting a link leaves: all but the registers and the list of broken links with the destinations held for them. -/
theorem State.noteBroken_frame (s : State) (cw : Bool) (tile : Nat) :
    { s.noteBroken cw tile with
      regs := s.regs
      ring := { (s.noteBroken cw tile).ring with broken := s.ring.broken, routeHold := s.ring.routeHold } } = s := by
  cases h : s.ring.broken.contains (cw, tile) with
  | true => rw [State.noteBroken_of_known h]
  | false =>
    obtain ⟨hold, hnote⟩ := State.noteBroken_of_new h
    rw [hnote, State.set1_ring, State.inputsDown_ring]
    exact congrArg (fun u : State => { u with ring := s.ring }) (State.inputsDown_frame (s.listBroken cw tile hold) cw tile)

theorem State.noteBroken_build (s : State) (cw : Bool) (tile : Nat) : (s.noteBroken cw tile).build = s.build :=
  (congrArg State.build (s.noteBroken_frame cw tile) :)

theorem State.noteBroken_tempo (s : State) (cw : Bool) (tile : Nat) : (s.noteBroken cw tile).tempo = s.tempo :=
  (congrArg State.tempo (s.noteBroken_frame cw tile) :)

theorem State.noteBroken_bist (s : State) (cw : Bool) (tile : Nat) : (s.noteBroken cw tile).bist = s.bist :=
  (congrArg State.bist (s.noteBroken_frame cw tile) :)

/-- A field of RING_STAT but the inputs', or of a register other than RING_STAT and RING_EVT. -/
theorem State.noteBroken_fld {g : FRef} (hcw : Reg.RING_STAT_CWI_UP.Apart g) (hccw : Reg.RING_STAT_CCWI_UP.Apart g)
    (hevt : Reg.RING_EVT_LINK_DOWN.Apart g) (s : State) (cw : Bool) (tile : Nat) : (s.noteBroken cw tile).fld g = s.fld g := by
  cases h : s.ring.broken.contains (cw, tile) with
  | true => rw [State.noteBroken_of_known h]
  | false =>
    obtain ⟨hold, hnote⟩ := State.noteBroken_of_new h
    rw [hnote, State.set1, State.setFld_fld_apart hevt, State.inputsDown_fld hcw hccw]
    rfl

theorem State.noteBroken_tileNo (s : State) (cw : Bool) (tile : Nat) : (s.noteBroken cw tile).tileNo = s.tileNo := by
  rw [State.tileNo, State.noteBroken_build, State.noteBroken_fld (by decide) (by decide) (by decide), State.tileNo]

theorem State.noteBroken_broken {s : State} {cw : Bool} {tile : Nat} (h : s.ring.broken.contains (cw, tile) = false) :
    (s.noteBroken cw tile).ring.broken = s.ring.broken ++ [(cw, tile)] := by
  obtain ⟨hold, hnote⟩ := State.noteBroken_of_new h
  rw [hnote, State.set1_ring, State.inputsDown_ring]
  rfl

/-- The link is among the broken ones afterwards. -/
theorem State.mem_noteBroken (s : State) (cw : Bool) (tile : Nat) : (cw, tile) ∈ (s.noteBroken cw tile).ring.broken := by
  cases h : s.ring.broken.contains (cw, tile) with
  | true => rw [State.noteBroken_of_known h]; exact List.contains_iff_mem.1 h
  | false => rw [State.noteBroken_broken h]; exact List.mem_append_right _ List.mem_cons_self

theorem State.noteBroken_flag {s : State} {cw : Bool} {tile : Nat} (h : s.ring.broken.contains (cw, tile) = false) :
    (s.noteBroken cw tile).flag Reg.RING_EVT_LINK_DOWN = true := by
  obtain ⟨hold, hnote⟩ := State.noteBroken_of_new h
  rw [hnote]
  exact State.set1_flag_same _ (by decide) (by decide)

/-! ## This tile declares a link of its own broken (R154) -/

/-- The flag of this tile's output on a ring. -/
def outUp (cw : Bool) : FRef := if cw then Reg.RING_STAT_CWO_UP else Reg.RING_STAT_CCWO_UP

/-- The output's flag stands beside this tile's number. -/
theorem State.clr_outUp_tileNo (s : State) (cw : Bool) : (s.clr (outUp cw)).tileNo = s.tileNo := by
  rw [State.tileNo, State.clr, State.setFld_fld_apart (by cases cw <;> decide), State.setFld_build, State.tileNo]

/-- The output is down and noted as broken. -/
def State.outputNoted (s : State) (cw : Bool) : State := (s.clr (outUp cw)).noteBroken cw (s.clr (outUp cw)).tileNo

theorem State.outputNoted_tileNo (s : State) (cw : Bool) : (s.outputNoted cw).tileNo = s.tileNo := by
  rw [State.outputNoted, State.noteBroken_tileNo, State.clr_outUp_tileNo]

theorem State.outputNoted_tempo (s : State) (cw : Bool) : (s.outputNoted cw).tempo = s.tempo := State.noteBroken_tempo _ _ _

theorem State.outputNoted_bist (s : State) (cw : Bool) : (s.outputNoted cw).bist = s.bist := State.noteBroken_bist _ _ _

theorem State.mem_outputNoted (s : State) (cw : Bool) : (cw, s.tileNo) ∈ (s.outputNoted cw).ring.broken := by
  have hmem := (s.clr (outUp cw)).mem_noteBroken cw (s.clr (outUp cw)).tileNo
  rwa [← State.outputNoted, State.clr_outUp_tileNo] at hmem

/-- A field of another register than RING_STAT and RING_EVT. -/
theorem State.outputNoted_fld {g : FRef} (hg : g.hi < 32) (hstat : g.key ≠ Reg.RING_STAT_NUMBERED.key) (hevt : g.key ≠ Reg.RING_EVT_NOTE.key)
    (s : State) (cw : Bool) : (s.outputNoted cw).fld g = s.fld g := by
  have hout : (outUp cw).Apart g := by cases cw <;> exact ⟨by decide, hg, .inl (Ne.symm hstat)⟩
  rw [State.outputNoted, State.noteBroken_fld ⟨by decide, hg, .inl (Ne.symm hstat)⟩ ⟨by decide, hg, .inl (Ne.symm hstat)⟩
    ⟨by decide, hg, .inl (Ne.symm hevt)⟩, State.clr, State.setFld_fld_apart hout]

section
variable {s : State} {cw : Bool}

theorem State.breakLink_of_known (h : s.ring.broken.contains (cw, s.tileNo) = true) : s.breakLink cw = s := if_pos h

section
variable (h : s.ring.broken.contains (cw, s.tileNo) = false)
include h

/-- Declared on the other ring where that one is not broken. -/
theorem State.breakLink_of_new :
    s.breakLink cw =
      if (s.outputNoted cw).ring.broken.contains (!cw, (s.outputNoted cw).tileNo) then s.outputNoted cw
      else (s.outputNoted cw).sendOn (!cw) 0x12 0 true (b2n (!cw) + (s.outputNoted cw).tileNo * 2) [] :=
  if_neg (ne_true_of_eq_false h)

theorem State.outputNoted_broken : (s.outputNoted cw).ring.broken = s.ring.broken ++ [(cw, s.tileNo)] := by
  have hno := s.clr_outUp_tileNo cw
  rw [State.outputNoted, hno, State.noteBroken_broken (by rw [State.clr, State.setFld_ring, h]), State.clr, State.setFld_ring]

theorem State.outputNoted_flag : (s.outputNoted cw).flag Reg.RING_EVT_LINK_DOWN = true :=
  State.noteBroken_flag (by rw [State.clr_outUp_tileNo]; exact h)

theorem State.outputNoted_down : (s.outputNoted cw).flag (outUp cw) = false := by
  have hclr : (s.clr (outUp cw)).fld (outUp cw) = 0 := by cases cw <;> exact State.setFld_fld_same s (by decide) (by decide) (by decide)
  have hkept : (s.outputNoted cw).fld (outUp cw) = (s.clr (outUp cw)).fld (outUp cw) := by
    cases cw <;> exact State.noteBroken_fld (by decide) (by decide) (by decide) _ _ _
  rw [State.flag, hkept, hclr]
  rfl

end

/-- Beside what is noted of the output, at most a message leaves. -/
theorem State.onlySends_breakLink (h : s.ring.broken.contains (cw, s.tileNo) = false) : (s.outputNoted cw).OnlySends (s.breakLink cw) := by
  rw [State.breakLink_of_new h]
  split
  · exact .refl _
  · exact State.onlySends_sendOn _ _ _ _ _ _ _

end

theorem State.mem_breakLink (s : State) (cw : Bool) : (cw, s.tileNo) ∈ (s.breakLink cw).ring.broken := by
  cases h : s.ring.broken.contains (cw, s.tileNo) with
  | true => rw [State.breakLink_of_known h]; exact List.contains_iff_mem.1 h
  | false => rw [(State.onlySends_breakLink h).broken]; exact s.mem_outputNoted cw

/-- A field of another register than RING_STAT and RING_EVT. -/
theorem State.breakLink_fld {g : FRef} (hg : g.hi < 32) (hstat : g.key ≠ Reg.RING_STAT_NUMBERED.key) (hevt : g.key ≠ Reg.RING_EVT_NOTE.key)
    (s : State) (cw : Bool) : (s.breakLink cw).fld g = s.fld g := by
  cases h : s.ring.broken.contains (cw, s.tileNo) with
  | true => rw [State.breakLink_of_known h]
  | false => rw [(State.onlySends_breakLink h).fld, State.outputNoted_fld hg hstat hevt]

/-- From `s` to `u` this tile has declared its output on a ring broken, on the other ring. -/
structure State.Declared (s u : State) (cw : Bool) : Prop where
  broken : (cw, s.tileNo) ∈ u.ring.broken
  event : u.flag Reg.RING_EVT_LINK_DOWN = true
  down : u.flag (outUp cw) = false
  left : ∃ m, .ring (!cw) m ∈ u.outputs ∧ m.type = 0x12 ∧ m.bc = true
  tempo : u.tempo = s.tempo

theorem State.breakLink_declares {s : State} {cw : Bool} (hown : s.ring.broken.contains (cw, s.tileNo) = false)
    (hother : s.ring.broken.contains (!cw, s.tileNo) = false) (hgood : s.bist.ringBad = false) : s.Declared (s.breakLink cw) cw := by
  have hsends := State.onlySends_breakLink hown
  have hopen : (s.outputNoted cw).ring.broken.contains (!cw, (s.outputNoted cw).tileNo) = false := by
    rw [State.outputNoted_broken hown, State.outputNoted_tileNo, List.contains_append, hother]
    cases cw <;> simp
  have hpass : (s.outputNoted cw).bist.ringBad = false := by rw [State.outputNoted_bist, hgood]
  obtain ⟨m, hleft, htype, -, hbc⟩ := State.sendOn_leaves (State.ringOut_of_own hopen) (type := 0x12) (.inl hpass) 0 true
    (b2n (!cw) + (s.outputNoted cw).tileNo * 2) []
  refine ⟨s.mem_breakLink cw, ?_, ?_, ⟨m, ?_, htype, hbc⟩, ?_⟩
  · rw [hsends.flag, State.outputNoted_flag hown]
  · rw [hsends.flag, State.outputNoted_down hown]
  · rwa [State.breakLink_of_new hown, if_neg (ne_true_of_eq_false hopen)]
  · rw [hsends.tempo, State.outputNoted_tempo]

/-! ## No acknowledge, a refused flit (R137, R154) -/

theorem reached_self (now : Tempo) : reached now now = true := by simp [reached]

/-- The arrival of Tempo at a time: it has been reached. -/
theorem State.advanceTo_reached (s : State) (d : Tempo) : reached (s.advanceTo d).tempo d = true := by
  unfold State.advanceTo
  split
  next h => exact h
  next => exact reached_self d

theorem State.advanceTo_tileNo (s : State) (d : Tempo) : (s.advanceTo d).tileNo = s.tileNo := by
  rw [State.tileNo, State.advanceTo_build, State.advanceTo_fld, State.tileNo]

section
variable {s : State} {cw : Bool}

theorem State.ackTimeout_of_sent {m : RingMsg} {t : Tempo} (h : s.lastOn cw = some (m, t)) :
    s.ackTimeout cw = (s.advanceTo (t + ns (1000 * s.fld Reg.RING_CTL_LINK_TMO))).breakLink cw := by
  simp only [State.ackTimeout, h]

theorem State.ackTimeout_of_none (h : s.lastOn cw = none) : s.ackTimeout cw = s.breakLink cw := by
  simp only [State.ackTimeout, h]

/-- The link is declared broken once LINK_TMO has passed since the last message on it. -/
theorem State.ackTimeout_declares (hown : s.ring.broken.contains (cw, s.tileNo) = false)
    (hother : s.ring.broken.contains (!cw, s.tileNo) = false) (hgood : s.bist.ringBad = false) :
    ∃ x : State, x.tileNo = s.tileNo ∧ x.Declared (s.ackTimeout cw) cw ∧
      ∀ m t, s.lastOn cw = some (m, t) → reached x.tempo (t + ns (1000 * s.fld Reg.RING_CTL_LINK_TMO)) = true := by
  cases hlast : s.lastOn cw with
  | none => exact ⟨s, rfl, State.ackTimeout_of_none hlast ▸ State.breakLink_declares hown hother hgood, fun _ _ h => nomatch h⟩
  | some x =>
    obtain ⟨m, t⟩ := x
    let d := t + ns (1000 * s.fld Reg.RING_CTL_LINK_TMO)
    have hno := s.advanceTo_tileNo d
    refine ⟨s.advanceTo d, hno, ?_, ?_⟩
    · rw [State.ackTimeout_of_sent hlast]
      exact State.breakLink_declares (by rw [State.advanceTo_ring, hno, hown]) (by rw [State.advanceTo_ring, hno, hother])
        (by rw [State.advanceTo_bist, hgood])
    · rintro m' t' h
      cases h
      exact s.advanceTo_reached d

/-- Refusals in a row on a ring. -/
def State.errOn (s : State) (cw : Bool) : Nat := if cw then s.ring.errCw else s.ring.errCcw

/-- The count of refusals in a row on one ring is set. -/
def State.setErr (s : State) (cw : Bool) (n : Nat) : State :=
  { s with ring := { s.ring with errCw := if cw then n else s.ring.errCw, errCcw := if cw then s.ring.errCcw else n } }

/-- Before the eighth refusal in a row the last flit sent on the ring is sent again. -/
theorem State.flitError_of_few {m : RingMsg} {t : Tempo} {d : BitVec 144} (hlast : s.lastOn cw = some (m, t))
    (hd : (ringFlits m).getLast? = some d) (hfew : s.errOn cw < 7) :
    s.flitError cw = ((s.setErr cw (s.errOn cw + 1)).bump Reg.RING_CNT0_RETRY).emit (.ringFlit cw d) := by
  have hlast' : ((s.setErr cw (s.errOn cw + 1)).bump Reg.RING_CNT0_RETRY).lastOn cw = some (m, t) := by
    rw [← hlast, State.lastOn, State.bump_ring]
    rfl
  have hfew' : ¬ 8 ≤ s.errOn cw + 1 := by omega
  unfold State.flitError
  simp only [State.setErr, State.errOn] at hlast' hfew' ⊢
  simp only [if_neg hfew', hlast', Option.bind_some, hd]

/-- The eighth breaks the link. -/
theorem State.flitError_of_many (hmany : 7 ≤ s.errOn cw) : s.flitError cw = (s.setErr cw 0).breakLink cw :=
  if_pos (show 8 ≤ s.errOn cw + 1 by omega)

end

/-- A message has at least its header flit. -/
theorem ringFlits_getLast? (m : RingMsg) : ∃ d, (ringFlits m).getLast? = some d :=
  Option.isSome_iff_exists.1 (by simp [ringFlits])

end Sys2Proof.Machine

/-! SUPPORT. Answers leave the fault reports, and the registers outside pages GLOB and HPT, as they are (O52). -/

namespace Sys2Proof.Machine

open Sys2Proof

/-- From `s` to `t` no fault is reported or withdrawn, and a register of a page above GLOB and below the ports' reads as before. -/
structure State.KeepsRecord (s t : State) : Prop where
  reports : t.fault.reports = s.fault.reports
  fld : ∀ f : FRef, 0x1000 ≤ f.key → f.key < 0x8000 → t.fld f = s.fld f

theorem State.KeepsRecord.refl (s : State) : s.KeepsRecord s := ⟨rfl, fun _ _ _ => rfl⟩

theorem State.KeepsRecord.trans {s t u : State} (hst : s.KeepsRecord t) (htu : t.KeepsRecord u) : s.KeepsRecord u :=
  ⟨htu.reports.trans hst.reports, fun f hlo hhi => (htu.fld f hlo hhi).trans (hst.fld f hlo hhi)⟩

/-- An operation on other parts of the tile. -/
theorem State.KeepsRecord.of_eq {s t : State} (hfault : t.fault = s.fault) (hregs : t.regs = s.regs) : s.KeepsRecord t :=
  ⟨by rw [hfault], fun f _ _ => by rw [State.fld, State.word, hregs, State.fld, State.word]⟩

theorem State.KeepsRecord.foldl {α : Type} {f : State → α → State} (hf : ∀ (t : State) (a : α), t.KeepsRecord (f t a)) (l : List α) (s : State) :
    s.KeepsRecord (l.foldl f s) :=
  List.foldlRecOn (motive := s.KeepsRecord) l f (.refl s) fun t ht a _ => ht.trans (hf t a)

theorem State.OnlySends.keepsRecord {s t : State} (h : s.OnlySends t) : s.KeepsRecord t :=
  .of_eq (congrArg State.fault h.rest :) h.regs

theorem State.keepsRecord_emit (s : State) (o : Output) : s.KeepsRecord (s.emit o) := .of_eq rfl rfl

theorem State.keepsRecord_setPort (s : State) (p : Nat) (x : Port) : s.KeepsRecord (s.setPort p x) := .of_eq rfl rfl

theorem State.keepsRecord_mapReq (s : State) (rid : Nat) (f : Req → Req) : s.KeepsRecord (s.mapReq rid f) := .of_eq rfl rfl

theorem State.keepsRecord_dropReq (s : State) (rid : Nat) : s.KeepsRecord (s.dropReq rid) := .of_eq rfl rfl

theorem State.keepsRecord_levels (s : State) : s.KeepsRecord s.levels where
  reports := (congrArg (fun t : State => t.fault.reports) s.levels_frame :)
  fld _ hlo _ := State.levels_fld hlo s

/-- An event on a port's page. -/
theorem State.keepsRecord_set1_port (s : State) {f : FRef} (hpage : 0x8000 ≤ f.key) : s.KeepsRecord (s.set1 f) where
  reports := rfl
  fld _ _ hhi := State.setFld_fld_ne _ _ _ _ (by omega)

/-! ## Lines leave the write data buffer (R37, R48, R50) -/

theorem State.keepsRecord_emitCredits (s : State) (p n : Nat) : s.KeepsRecord (s.emitCredits p n) := by
  have hfull : s.KeepsRecord ((List.range (n / 8)).foldl (fun s _ => s.emit (.credits p 8)) s) :=
    .foldl (fun t _ => t.keepsRecord_emit _) _ s
  rw [State.emitCredits]
  split
  · exact hfull
  · exact hfull.trans (State.keepsRecord_emit _ _)

theorem State.keepsRecord_giveCredits (s : State) (p : Nat) : s.KeepsRecord (s.giveCredits p) := by
  simp only [State.giveCredits]
  split
  · exact .refl s
  · exact (s.keepsRecord_setPort p _).trans (State.keepsRecord_emitCredits _ p _)

theorem State.keepsRecord_badFlit (s : State) (p : Nat) : s.KeepsRecord (s.badFlit p) := by
  have hpage : 0x8000 ≤ (Reg.HPT_EVT_WD_BAD p).key := by simp only [FRef.key, regKey, Reg.HPT_EVT_WD_BAD]; omega
  exact (s.keepsRecord_set1_port hpage).trans (State.keepsRecord_giveCredits _ p)

theorem State.keepsRecord_noteData (s : State) (rid : Option Nat) : s.KeepsRecord (s.noteData rid) := by
  cases rid with
  | none => exact .refl s
  | some i => exact s.keepsRecord_mapReq i _

theorem State.keepsRecord_putWd (s : State) (p : Nat) (f : WdFlit) : s.KeepsRecord (s.putWd p f) := by
  have hput : ∀ (bad : Bool) (rid : Option Nat) (w : WLine),
      s.KeepsRecord (if bad then s.badFlit p else ((s.noteData rid).pushLine w).levels) := fun bad rid w => by
    split
    · exact s.keepsRecord_badFlit p
    · have hline : (s.noteData rid).KeepsRecord ((s.noteData rid).pushLine w) := .of_eq rfl rfl
      exact ((s.keepsRecord_noteData rid).trans hline).trans (State.keepsRecord_levels _)
  simp only [State.putWd]
  split <;> exact hput _ _ _

theorem State.keepsRecord_takeHeldWd (s : State) (free n : Nat) : s.KeepsRecord (s.takeHeldWd free n) := by
  induction n generalizing s free with
  | zero => exact .refl s
  | succ n ih =>
    rw [State.takeHeldWd]
    split
    next => exact .refl s
    next p _ =>
      have hpage : 0x8000 ≤ (Reg.HPT_EVT_CRD_OVER p).key := by simp only [FRef.key, regKey, Reg.HPT_EVT_CRD_OVER]; omega
      split
      next f rest _ _ =>
        have htaken := (s.keepsRecord_setPort p { s.port p with wdHeld := rest }).trans (State.keepsRecord_set1_port _ hpage)
        exact (htaken.trans (State.keepsRecord_putWd _ p f)).trans (ih _ _)
      next => exact .refl s

theorem State.keepsRecord_dropLines (s : State) (gone : WLine → Bool) : s.KeepsRecord (s.dropLines gone) := by
  have hcredits : ∀ (l : List Nat) (t : State), t.KeepsRecord (l.foldl (fun s p => s.giveCredits p) t) :=
    .foldl (fun t p => t.keepsRecord_giveCredits p)
  have hgone : s.KeepsRecord { s with wbuf := s.wbuf.filter (fun w => !gone w) } := .of_eq rfl rfl
  have hfreed := hgone.trans (hcredits ((s.wbuf.filter gone).filterMap (·.own)) _)
  exact (hfreed.trans (State.keepsRecord_levels _)).trans (State.keepsRecord_takeHeldWd _ _ _)

theorem State.keepsRecord_freeLines (s : State) (gone : WLine → Bool) : s.KeepsRecord (s.freeLines gone) := by
  rw [State.freeLines]
  split
  · exact s.keepsRecord_dropLines gone
  · exact .refl s

/-! ## Responses (R42, R54, R146) -/

theorem State.keepsRecord_fwdFlitSent (s : State) (r : Req) (st : Status) : s.KeepsRecord (s.fwdFlitSent r st) := by
  have howes := s.keepsRecord_mapReq r.rid (fun r => { r with owed := r.owed - 1 })
  rw [State.fwdFlitSent]
  split
  · refine howes.trans (State.KeepsRecord.trans ?_ (State.keepsRecord_dropReq _ _))
    split
    · exact State.keepsRecord_dropLines _ _
    · exact .refl _
  · exact howes

theorem State.keepsRecord_respond (s : State) (r : Req) (idx : Nat) (st : Status) (mis : Bool) (data : LineData) (entry : Bool) :
    s.KeepsRecord (s.respond r idx st mis data entry) := by
  cases horg : r.org with
  | port p =>
    simp only [State.respond, horg]
    exact ((s.keepsRecord_setPort p _).trans (State.keepsRecord_mapReq _ _ _)).trans (State.keepsRecord_levels _)
  | ring t m =>
    simp only [State.respond, horg]
    exact (s.onlySends_send _ _ _ _).keepsRecord.trans (State.keepsRecord_fwdFlitSent _ r st)

theorem State.keepsRecord_answer (s : State) (rid : Nat) (st : Status) (mis : Bool) : s.KeepsRecord (s.answer rid st mis) := by
  cases hr : s.req? rid with
  | none => simp only [State.answer, hr]; exact .refl s
  | some r =>
    simp only [State.answer, hr]
    exact (s.keepsRecord_mapReq rid _).trans (State.keepsRecord_respond _ _ _ _ _ _ _)

theorem State.keepsRecord_answerRest (s : State) (left : List QE) (r : Req) (st : Status) : s.KeepsRecord (s.answerRest left r st) := by
  have hlines : ∀ l : List Nat, s.KeepsRecord (l.foldl (fun s i => s.respond r i st false zeroLine) s) := fun l =>
    .foldl (fun t _ => t.keepsRecord_respond _ _ _ _ _ _) l s
  unfold State.answerRest
  extract_lets made
  split
  · exact .refl s
  split
  · exact s.keepsRecord_answer _ _ _
  · exact (hlines _).trans (State.keepsRecord_mapReq _ _ _)

end Sys2Proof.Machine

/-! SUPPORT and settlement of the statement about links and losses (O52). -/

namespace Sys2Proof.Machine

open Sys2Proof

/-! ## Unknown and deflected messages (R139, R140) -/

section
variable {s : State}

theorem State.unknownType_of_known {t : Nat} (h : knownType t = true) : s.unknownType t = s := if_pos h

theorem State.unknownType_of_unknown {t : Nat} (h : knownType t = false) : s.unknownType t = s.bump Reg.RING_CNT0_RETRY :=
  if_neg (ne_true_of_eq_false h)

theorem State.deflect_of_own {m : RingMsg} (hsrc : m.src = s.tileNo) (hbc : m.bc = false) (cw : Bool) :
    s.deflect cw m = (s.bump Reg.RING_CNT1_DEFLECT).emitRing cw m := if_pos ⟨hsrc, hbc⟩

theorem State.deflect_of_other {m : RingMsg} (hsrc : m.src ≠ s.tileNo) (cw : Bool) : s.deflect cw m = s := if_neg fun h => hsrc h.1

/-! ## No answer (R155) -/

theorem State.rspTimeout_of_none {mseq : Nat} (h : s.ring.awaits.find? (fun a => a.mseq == mseq) = none) : s.rspTimeout mseq = s := by
  simp only [State.rspTimeout, h]

section
variable {mseq : Nat} {a : Await} (ha : s.ring.awaits.find? (fun a => a.mseq == mseq) = some a)
include ha

theorem Await.mseq_of_find? : a.mseq = mseq := by simpa using List.find?_some ha

/-- The first time a mirror message is sent again. -/
theorem State.rspTimeout_of_mirror (htype : a.type = 0x0B ∨ a.type = 0x0D) (hfirst : a.again = false) :
    s.rspTimeout mseq = ((s.advanceTo (a.sent + ns (1000 * s.fld Reg.RING_CTL_RSP_TMO))).resend a).set1 Reg.RING_EVT_MIR_RESEND := by
  rcases htype with htype | htype <;> simp only [State.rspTimeout, ha, htype, hfirst, Bool.false_eq_true, if_false]

theorem State.rspTimeout_of_forward (htype : a.type = 0x08) :
    s.rspTimeout mseq = ((s.advanceTo (a.sent + ns (1000 * s.fld Reg.RING_CTL_RSP_TMO))).dropAwait mseq).fwdLost a.forWhat a.dst := by
  simp only [State.rspTimeout, ha, htype]

end

/-- A message sent again leaves where no link is broken. -/
theorem State.resend_outputs (hwhole : s.ring.broken = []) (a : Await) :
    ∃ cw, (s.resend a).outputs = s.outputs ++ [.ring cw a.msg] := ⟨_, State.emitRing_outputs (State.ringOut_of_whole hwhole _) a.msg⟩

/-- What waits under its number has then been sent a second time. -/
theorem State.resend_again (a : Await) : ∀ x ∈ (s.resend a).ring.awaits, x.mseq = a.mseq → x.again = true := by
  intro x hx hseq
  obtain ⟨y, -, rfl⟩ := List.mem_map.1 hx
  by_cases hy : y.mseq = a.mseq
  · rw [if_pos hy]
  · rw [if_neg hy] at hseq
    exact absurd hseq hy

/-- A lost forwarded request is reported with source 0x24, before its request is answered. -/
theorem State.fwdLost_records {rid : Nat} {r : Req} (hr : s.req? rid = some r) (tile : Nat) :
    (s.fwdLost rid tile).flag Reg.RING_EVT_FWD_LOST = true ∧ ∃ r ∈ (s.fwdLost rid tile).fault.reports, r.src = 0x24 := by
  have hkept : ((s.set1 Reg.RING_EVT_FWD_LOST).raise 0x24 (atTile tile (r.line 0))).KeepsRecord (s.fwdLost rid tile) := by
    simp only [State.fwdLost, hr]
    exact (State.keepsRecord_answerRest _ _ _ _).trans (State.keepsRecord_freeLines _ _)
  refine ⟨?_, hkept.reports ▸ State.exists_report_of_raise _ _ _⟩
  rw [State.flag, hkept.fld _ (by decide) (by decide), State.raise_fld]
  exact State.set1_flag_same s (by decide) (by decide)

end

/-- Settles O52: a broken link by whether it was known, a refused flit by how many in a row there were, a missing answer by the message that waits
for it. That the last flit sent on the ring is the one sent again is log entry 92; what does nothing is log entry 4. -/
theorem linksAndLosses : Obligations.LinksAndLosses := by
  intro s hserve hring
  refine ⟨fun corr src ccw tile hawake hnew => ?_, fun dir hown hother hgood => ?_, fun dir => ⟨fun m t hlast hfew => ?_, fun hmany => ?_, ?_⟩,
    fun type => ⟨fun h => ?_, fun h => ?_⟩, fun dir msg => ⟨fun hsrc hbc => ?_, fun hsrc => ?_⟩,
    fun mseq a ha => ⟨fun htype hfirst hwhole => ?_, fun htype hsome => ?_⟩, fun mseq hnone => ?_⟩
  · let x := s.bump Reg.RING_CNT0_CORR corr
    have hsends := (x.noteBroken (!ccw) tile.toNat).onlySends_releaseRoutes
    refine ⟨_, exec_linkDown hserve hring hawake corr src ccw tile, ?_, ?_⟩
    · rw [State.ringLinkDown, hsends.broken]
      exact State.mem_noteBroken _ _ _
    · rw [State.ringLinkDown, hsends.flag, State.noteBroken_flag (by rw [State.bump_ring, hnew])]
  · obtain ⟨x, hno, hdeclared, hreached⟩ := State.ackTimeout_declares hown hother hgood
    exact ⟨_, exec_linkAckTimeout hserve hring dir, hno ▸ hdeclared.broken, hdeclared.event, hdeclared.down, hdeclared.left,
      hdeclared.tempo ▸ hreached⟩
  · obtain ⟨d, hd⟩ := ringFlits_getLast? m
    refine ⟨_, d, exec_ringFlitError_sent hserve hring dir, hd, ?_, ?_⟩
    · rw [State.flitError_of_few hlast hd hfew, State.emit_outputs', State.bump_outputs]
      rfl
    · rw [State.flitError_of_few hlast hd hfew, State.emit_fld, State.bump_fld_same _ _ (by decide) (by decide)]
      rfl
  · refine ⟨_, exec_ringFlitError_sent hserve hring dir, ?_, ?_⟩
    · rw [State.flitError_of_many hmany]
      exact State.mem_breakLink (s.setErr (cwOf dir) 0) _
    · rw [State.flitError_of_many hmany, State.breakLink_fld (by decide) (by decide) (by decide)]
      rfl
  · exact exec_ringFlitError_received hserve hring dir
  · rw [exec_ringUnknownType hserve hring, State.unknownType_of_unknown h]
  · rw [exec_ringUnknownType hserve hring, State.unknownType_of_known h]
  · rw [exec_ringDeflect hserve hring, State.deflect_of_own hsrc hbc]
  · rw [exec_ringDeflect hserve hring, State.deflect_of_other hsrc]
  · let x := s.advanceTo (a.sent + ns (1000 * s.fld Reg.RING_CTL_RSP_TMO))
    obtain ⟨cw, hout⟩ := State.resend_outputs (s := x) (by rw [State.advanceTo_ring, hwhole]) a
    have hagain := x.resend_again a
    rw [Await.mseq_of_find? ha] at hagain
    rw [exec_rspTmoExpiry hserve hring, State.rspTimeout_of_mirror ha htype hfirst]
    refine ⟨_, cw, rfl, ?_, State.set1_flag_same _ (by decide) (by decide), hagain⟩
    rw [State.set1_outputs, hout, State.advanceTo_outputs]
  · let x := s.advanceTo (a.sent + ns (1000 * s.fld Reg.RING_CTL_RSP_TMO))
    obtain ⟨r, hr⟩ := Option.isSome_iff_exists.1 hsome
    have hreq : (x.dropAwait mseq.toNat).req? a.forWhat = some r := by
      rw [(x.onlySends_dropAwait _).req?, State.req?, State.advanceTo_reqs, ← State.req?, hr]
    rw [exec_rspTmoExpiry hserve hring, State.rspTimeout_of_forward ha htype]
    obtain ⟨hflag, hreport⟩ := State.fwdLost_records hreq a.dst
    exact ⟨_, rfl, hflag, hreport⟩
  · rw [exec_rspTmoExpiry hserve hring, State.rspTimeout_of_none hnone]

end Sys2Proof.Machine

/-! SUPPORT and settlement of the statement about TILE_RESET_n (O4). -/

namespace Sys2Proof.Machine

open Sys2Proof

/-! ## The commands -/

theorem exec_tileResetAssert (s : State) : exec .tileResetAssert s = .next s.resetAssert := rfl

theorem exec_tileResetRelease (anchor : Bool) (s : State) : exec (.tileResetRelease anchor) s = .next (s.resetRelease anchor) := rfl

/-! ## The fall (R537) -/

/-- What a table reads as is its default or one of its values. -/
theorem tget_of_forall {α : Type} {P : α → Prop} {d : α} {t : Tab α} (hd : P d) (h : ∀ e ∈ t, P e.2) (k : Nat) : P (tget d t k) := by
  induction t with
  | nil => exact hd
  | cons e t ih =>
    rw [tget]
    split
    · exact h e List.mem_cons_self
    · exact ih fun x hx => h x (List.mem_cons_of_mem _ hx)

theorem tget_tmap_of_forall {α β : Type} [DecidableEq β] {P : β → Prop} {d : β} {f : α → β} (hd : P d) (hf : ∀ x, P (f x)) (t : Tab α) (k : Nat) :
    P (tget d (tmap d f t) k) := by
  refine tget_of_forall hd (fun e he => ?_) k
  obtain ⟨x, -, rfl⟩ := List.mem_map.1 (List.mem_filter.1 he).1
  exact hf x.2

/-- Everything at its reset value but what lies outside the tile: its pins, what was built, Tempo, what has left and what waits to be commanded. -/
def State.resetValues (s : State) : State :=
  { State.reset with
    resetN := false
    build := s.build
    tempo := s.tempo
    wraps := s.wraps
    outputs := s.outputs
    pending := s.pending
    ports := tmap port0 (fun x => { port0 with rst := x.rst, panic := x.panic }) s.ports
    crypt := { State.reset.crypt with tamper := s.crypt.tamper }
    power := { State.reset.power with pgood := s.power.pgood, pgAt := s.power.pgAt } }

/-- Of the channels listed every built one's CHn_RESET_n falls. -/
theorem State.foldl_channelReset (l : List Nat) (s : State) :
    l.foldl (fun s c => if s.chanBuilt c then s.emit (.channelReset c false) else s) s =
      { s with outputs := s.outputs ++ (l.filter s.chanBuilt).map (fun c => .channelReset c false) } := by
  induction l generalizing s with
  | nil => simp
  | cons c l ih =>
    rw [List.foldl_cons, ih]
    cases hc : s.chanBuilt c with
    | false => simp [hc]
    | true =>
      simp only [if_true, List.filter_cons, hc, List.map_cons, State.emit, List.append_assoc, List.singleton_append]
      rfl

theorem State.resetAssert_of_low {s : State} (h : s.resetN = false) : s.resetAssert = s := if_pos (by simp [h])

theorem State.resetAssert_of_high {s : State} (h : s.resetN = true) :
    s.resetAssert = { s.resetValues with
      outputs := s.outputs ++ ((List.range 4).filter s.chanBuilt).map (fun c => .channelReset c false) } := by
  rw [State.resetAssert, if_neg (by simp [h])]
  exact State.foldl_channelReset (List.range 4) s.resetValues

/-- A port at reset keeps the levels of its two pins alone. -/
theorem State.resetValues_port (s : State) (p : Nat) :
    s.resetValues.port p = { port0 with rst := (s.resetValues.port p).rst, panic := (s.resetValues.port p).panic } :=
  tget_tmap_of_forall (P := fun x : Port => x = { port0 with rst := x.rst, panic := x.panic }) (d := port0)
    (f := fun x : Port => { port0 with rst := x.rst, panic := x.panic }) rfl (fun _ => rfl) s.ports p

theorem State.resetValues_blank (s : State) (l : List Output) : { s.resetValues with outputs := l }.blank :=
  ⟨rfl, rfl, rfl, rfl, rfl, rfl, rfl, rfl, rfl, s.resetValues_port, rfl, rfl, rfl, rfl, rfl, rfl, rfl, rfl, rfl, rfl, rfl, rfl, rfl, rfl, rfl,
    rfl, rfl⟩

/-! ## The rise (R141, R143, R409, R437) -/

/-- The pin is high, with the strap sampled. -/
def State.pinRisen (s : State) (anchor : Bool) : State :=
  { s with resetN := true, ring := { s.ring with anchor := anchor }, startup := { s.startup with relTempo := s.tempo } }

/-- The channels not built are marked so. -/
def State.absentMarked (s : State) : State :=
  ((List.range 4).filter (fun c => !s.chanBuilt c)).foldl (fun s c => s.setTrainStat c 0xB) s

theorem State.setFld_frame (s : State) (f : FRef) (v : Nat) (regs : Tab Word) : { s.setFld f v with regs := regs } = { s with regs := regs } := rfl

/-- Marking writes the register store alone. -/
theorem State.absentMarked_frame (s : State) : { s.absentMarked with regs := s.regs } = s := by
  unfold State.absentMarked
  exact foldl_keeps (fun t : State => { t with regs := s.regs }) (fun t _ _ => t.setFld_frame _ _ _) s

/-- Step 1 of start-up up to the read of VOUT_MODE. -/
def State.released (s : State) (anchor : Bool) : State := (s.pinRisen anchor).absentMarked.smbus busVoutMode 0

theorem State.released_mode (s : State) (anchor : Bool) : (s.released anchor).mode = s.mode :=
  (congrArg State.mode (s.pinRisen anchor).absentMarked_frame :)
theorem State.released_resetN (s : State) (anchor : Bool) : (s.released anchor).resetN = true :=
  (congrArg State.resetN (s.pinRisen anchor).absentMarked_frame :)
theorem State.released_ring (s : State) (anchor : Bool) : (s.released anchor).ring = { s.ring with anchor := anchor } :=
  (congrArg State.ring (s.pinRisen anchor).absentMarked_frame :)
theorem State.released_build (s : State) (anchor : Bool) : (s.released anchor).build = s.build :=
  (congrArg State.build (s.pinRisen anchor).absentMarked_frame :)

theorem State.released_reads (s : State) (anchor : Bool) :
    ∃ (addr speed : Nat) (pec : Bool), .regulator addr speed pec busVoutMode 0 ∈ (s.released anchor).outputs :=
  ⟨_, _, _, List.mem_append_right _ List.mem_cons_self⟩

/-- The ring stop joins discovery. -/
def State.joinRing (s : State) (anchor : Bool) : State :=
  if !s.build.ring then s else if anchor then s.startDisc else s.send 0x03 0 0 []

theorem State.resetRelease_of_high {s : State} (h : s.resetN = true) (anchor : Bool) : s.resetRelease anchor = s := if_pos h

theorem State.resetRelease_of_low {s : State} (h : s.resetN = false) (anchor : Bool) :
    s.resetRelease anchor = (s.released anchor).joinRing anchor := if_neg (by simp [h])

/-- From `s` to `t` the ring stop joins discovery: the mode, the pin and the strap stand, and what has left stays recorded. -/
structure State.Joins (s t : State) : Prop where
  mode : t.mode = s.mode
  resetN : t.resetN = s.resetN
  anchor : t.ring.anchor = s.ring.anchor
  outputs : s.outputs ⊆ t.outputs

theorem State.OnlySends.joins {s t : State} (h : s.OnlySends t) : s.Joins t := ⟨h.mode, h.resetN, h.anchor, h.outputs⟩

theorem State.startDisc_joins (s : State) : s.Joins s.startDisc := by
  have hsent := s.onlySends_sendOn true 0x01 0 false 0 []
  exact ⟨hsent.mode, hsent.resetN, hsent.anchor, hsent.outputs⟩

theorem State.joinRing_joins (s : State) (anchor : Bool) : s.Joins (s.joinRing anchor) := by
  unfold State.joinRing
  split
  · exact (State.OnlySends.refl s).joins
  split
  · exact s.startDisc_joins
  · exact (s.onlySends_send _ _ _ _).joins

theorem State.joinRing_of_anchor {s : State} (hring : s.build.ring = true) : s.joinRing true = s.startDisc := if_neg (by simp [hring])

/-- Settles O4: the fall puts the reset values in place, with the built channels' resets; the rise reads VOUT_MODE and then joins discovery, which
takes nothing back of what has left. That a level the pin has already changes nothing is log entry 4. -/
theorem resetAssertsAndReleases : Obligations.ResetAssertsAndReleases := by
  refine ⟨fun s hhigh => ?_, fun anchor s hlow => ?_, fun s hlow => ?_, fun anchor s hhigh => ?_⟩
  · rw [exec_tileResetAssert, State.resetAssert_of_high hhigh]
    exact ⟨_, rfl, rfl, s.resetValues_blank _, rfl, rfl⟩
  · have hjoins := (s.released anchor).joinRing_joins anchor
    have hstop := s.released_ring anchor
    obtain ⟨addr, speed, pec, hread⟩ := s.released_reads anchor
    rw [exec_tileResetRelease, State.resetRelease_of_low hlow]
    refine ⟨_, rfl, hjoins.resetN.trans (s.released_resetN anchor),
      hjoins.mode.trans (s.released_mode anchor), ⟨addr, speed, pec, hjoins.outputs hread⟩, ?_, fun hring hanchor hwhole => ?_⟩
    · rw [hjoins.anchor, hstop]
    · rw [hanchor, State.joinRing_of_anchor (by rw [State.released_build, hring])]
      exact State.startDisc_leaves (by rw [State.released_ring, hwhole])
  · rw [exec_tileResetAssert, State.resetAssert_of_low hlow]
  · rw [exec_tileResetRelease, State.resetRelease_of_high hhigh]

end Sys2Proof.Machine

/-! SUPPORT. The scheduling family (O19-O21): its commands in service, and what an update of one subchannel or one bank engine keeps of all of
them. -/

namespace Sys2Proof.Machine

open Sys2Proof

/-! ## The commands in service -/

section
variable {s : State} {sc : Nat} (h : s.serving = true) (hb : s.subBuilt sc = true)
include h hb

theorem exec_proposalPlace : exec (.proposalPlace sc) s = .next (s.done (s.place sc)) := actIf_next hb h _

theorem exec_latticeTick : exec (.latticeTick sc) s = .next (s.done (s.tick sc)) := actIf_next hb h _

theorem exec_proposalLifeExpiry : exec (.proposalLifeExpiry sc) s = .next (s.done (s.expire sc)) := actIf_next hb h _

theorem exec_accept : exec (.accept sc) s = .next (s.done (s.deliver sc true)) := actIf_next hb h _

theorem exec_refuse : exec (.refuse sc) s = .next (s.done (s.deliver sc false)) := actIf_next hb h _

theorem exec_drainStart : exec (.drainStart sc) s = .next (s.done (s.drainBegin sc)) := actIf_next hb h _

theorem exec_rtBucketRefill : exec (.rtBucketRefill sc) s = .next (s.done (s.refill sc)) := actIf_next hb h _

end

theorem exec_gambitIdleTimeout {s : State} {b : Nat} (h : s.serving = true) (hb : s.engBuilt b = true) :
    exec (.gambitIdleTimeout b) s = .next (s.done (s.gambitIdle b)) := actIf_next hb h _

/-! ## What an update keeps of every subchannel and every engine -/

theorem State.setSub_keeps {γ : Type} (g : Sub → γ) {s : State} {i : Nat} {x : Sub} (h : g x = g (s.sub i)) (j : Nat) :
    g ((s.setSub i x).sub j) = g (s.sub j) := by
  rw [State.setSub_sub]
  split
  next hij => rw [h, hij]
  next => rfl

theorem State.setEng_keeps {γ : Type} (g : Eng → γ) {s : State} {i : Nat} {x : Eng} (h : g x = g (s.eng i)) (j : Nat) :
    g ((s.setEng i x).eng j) = g (s.eng j) := by
  rw [State.setEng_eng]
  split
  next hij => rw [h, hij]
  next => rfl

/-- A withdrawal (R169) changes the windows alone of the subchannels. -/
theorem State.withdraw_keeps_sub {γ : Type} (g : Sub → γ) (hg : ∀ u w, g { u with window := w } = g u) (s : State) (c : QE → Bool) (j : Nat) :
    g ((s.withdraw c).sub j) = g (s.sub j) := by
  refine foldl_keeps (fun t : State => g (t.sub j)) (fun t p _ => ?_) s
  dsimp only
  split
  · exact State.setSub_keeps g (hg _ _) j
  · rfl

theorem State.withdraw_regs (s : State) (c : QE → Bool) : (s.withdraw c).regs = s.regs := by
  refine foldl_keeps State.regs (fun t p _ => ?_) s
  dsimp only
  split <;> rfl

theorem State.withdraw_fld (s : State) (c : QE → Bool) (f : FRef) : (s.withdraw c).fld f = s.fld f := by
  rw [State.fld, State.word, State.withdraw_regs, State.fld, State.word]

/-- Refresh proposals that leave (R169) change the windows alone of the subchannels. -/
theorem State.dropRefresh_keeps_sub {γ : Type} (g : Sub → γ) (hg : ∀ u w, g { u with window := w } = g u) (s : State) (sc : Nat)
    (gone : Proposal → Bool) (j : Nat) : g ((s.dropRefresh sc gone).sub j) = g (s.sub j) := by
  have hwindow := State.setSub_keeps g (hg (s.sub sc) ((s.sub sc).window.filter (fun p => !gone p))) j
  refine (foldl_keeps (fun t : State => g (t.sub j)) (fun t p _ => ?_) _).trans hwindow
  rfl

theorem State.withdrawRefab_keeps_sub {γ : Type} (g : Sub → γ) (hg : ∀ u w, g { u with window := w } = g u) (s : State) (j : Nat) :
    g (s.withdrawRefab.sub j) = g (s.sub j) := by
  unfold State.withdrawRefab
  split
  · rfl
  · exact foldl_keeps (fun t : State => g (t.sub j)) (fun t _ _ => t.dropRefresh_keeps_sub g hg _ _ j) s

end Sys2Proof.Machine

/-! SUPPORT and settlement of the statement about verdicts (O21). -/

namespace Sys2Proof.Machine

open Sys2Proof

theorem State.deliver_of_none {s : State} {sc : Nat} {acc : Bool} (h : (s.sub sc).verdicts.find? (fun v => v.accept == acc) = none) :
    s.deliver sc acc = s := by
  simp only [State.deliver, h]

/-- A subchannel's verdict has reached the engines: it stands in the list no more. -/
def State.tookVerdict (s : State) (sc : Nat) (v : Verdict) : State :=
  s.setSub sc { s.sub sc with verdicts := (s.sub sc).verdicts.erase v }

theorem State.deliver_accept {s : State} {sc : Nat} {v : Verdict} (h : (s.sub sc).verdicts.find? (fun v => v.accept == true) = some v) :
    s.deliver sc true = (s.tookVerdict sc v).acceptVerdict sc v := by
  simp only [State.deliver, h, if_true, State.tookVerdict]

theorem State.deliver_refuse {s : State} {sc : Nat} {v : Verdict} (h : (s.sub sc).verdicts.find? (fun v => v.accept == false) = some v) :
    s.deliver sc false = (s.tookVerdict sc v).refuseVerdict sc v := by
  simp only [State.deliver, h, Bool.false_eq_true, if_false, State.tookVerdict]

theorem State.tookVerdict_verdicts (s : State) (sc : Nat) (v : Verdict) : ((s.tookVerdict sc v).sub sc).verdicts = (s.sub sc).verdicts.erase v := by
  simp [State.tookVerdict]

/-- An entry that has a tag after an update of the entries with that tag has been updated. -/
theorem mem_mapIf_tag {tag : Nat} {f : QE → QE} {l : List QE} {q : QE}
    (hq : q ∈ mapIf (fun q => q.tag == tag) f l) (htag : q.tag = tag) : ∃ o ∈ l, q = f o := by
  obtain ⟨o, ho, rfl⟩ := List.mem_map.1 hq
  cases hmet : o.tag == tag with
  | true => exact ⟨o, ho, by simp [hmet]⟩
  | false =>
    rw [if_neg (by simp [hmet])] at htag
    simp [htag] at hmet

/-! ## ACCEPT (R165, R180) -/

/-- The row an engine records open after an ACCEPT (R180). -/
def rowAfter (v : Verdict) (row : Option Nat) : Option Nat :=
  match v.cmd with
  | .act => some v.row
  | .pre | .rda | .wra => none
  | _ => row

theorem rowAfter_of_act {v : Verdict} (h : v.cmd = .act) (row : Option Nat) : rowAfter v row = some v.row := by
  rw [rowAfter, h]

theorem rowAfter_of_closes {v : Verdict} (h : v.cmd = .pre ∨ v.cmd = .rda ∨ v.cmd = .wra) (row : Option Nat) : rowAfter v row = none := by
  rcases h with h | h | h <;> rw [rowAfter, h]

/-- A mode register write that has been accepted waits no more. -/
def State.maintAccepted (s : State) (sc : Nat) (v : Verdict) : State :=
  if v.cmd = .mrw then s.setSub sc { s.sub sc with maint := (s.sub sc).maint.filter (fun m => m.tag != v.tag) } else s

/-- An entry whose column command is accepted is accepted; another waits for its next command. -/
def QE.acceptedBy (v : Verdict) (q : QE) : QE := { q with stage := if v.cmd.isCol then .accepted else .wait, e := 0 }

/-- Beside the entry and a mode register write an ACCEPT touches the bank's engine alone, which may propose again and records the row. -/
theorem State.acceptVerdict_eq (s : State) (sc : Nat) (v : Verdict) :
    ∃ engs : Tab Eng, s.acceptVerdict sc v = { (s.maintAccepted sc v).mapQE v.tag (QE.acceptedBy v) with engs := engs } ∧
      (v.cmd ≠ .mrr → v.cmd ≠ .mrw → (tget eng0 engs (engOf sc v.rk v.bk)).outstanding = false ∧
        (tget eng0 engs (engOf sc v.rk v.bk)).row = rowAfter v (s.eng (engOf sc v.rk v.bk)).row) := by
  by_cases hbank : v.cmd = .mrr ∨ v.cmd = .mrw
  · refine ⟨s.engs, ?_, fun hmrr hmrw => absurd hbank (not_or.2 ⟨hmrr, hmrw⟩)⟩
    simp only [State.acceptVerdict, if_pos hbank, State.maintAccepted]
    by_cases hmrw : v.cmd = .mrw
    · rw [if_pos hmrw]
      rfl
    · rw [if_neg hmrw]
      rfl
  · have hmrw : v.cmd ≠ .mrw := (not_or.1 hbank).2
    simp only [State.acceptVerdict, State.maintAccepted, if_neg hbank, if_neg hmrw]
    refine ⟨_, rfl, fun _ _ => ?_⟩
    simp only [State.setEng, tget_tput, if_true]
    exact ⟨trivial, rfl⟩

theorem State.maintAccepted_verdicts (s : State) (sc : Nat) (v : Verdict) : ((s.maintAccepted sc v).sub sc).verdicts = (s.sub sc).verdicts := by
  unfold State.maintAccepted
  split <;> simp

/-! ## REFUSE (R167, R168) -/

/-- The engine of a refused command of a bank may propose again. -/
def State.engRefused (s : State) (sc : Nat) (v : Verdict) : State :=
  if v.cmd = .mrr ∨ v.cmd = .mrw then s
  else s.setEng (engOf sc v.rk v.bk)
    { s.eng (engOf sc v.rk v.bk) with outstanding := false, e := if (s.qe? v.tag).isSome then 0 else v.nxt }

/-- The entry is a candidate again, not before the tick named. -/
def QE.refusedBy (v : Verdict) (q : QE) : QE := { q with stage := .wait, e := v.nxt, pol := none }

/-- A mode register command that was placed waits again. -/
def State.maintRefused (s : State) (sc tag : Nat) : State :=
  s.setSub sc { s.sub sc with maint := mapIf (fun m => m.tag == tag) (fun m => { m with placed := false }) (s.sub sc).maint }

/-- A refresh group whose refresh was placed may propose again. -/
def State.groupRefused (s : State) (v : Verdict) : State :=
  if 2 ^ 40 ≤ v.tag ∧ v.tag < 2 ^ 41 ∧ v.cmd ≠ .pre then s.setGroup (v.tag - 2 ^ 40) { s.group (v.tag - 2 ^ 40) with proposed := false }
  else s

/-- What a REFUSE does before an engine reloads its view. -/
def State.refused (s : State) (sc : Nat) (v : Verdict) : State :=
  ((((s.bump Reg.SCHD_CNT0_REFUSE).engRefused sc v).mapQE v.tag (QE.refusedBy v)).maintRefused sc v.tag).groupRefused v

/-- The reloads that a STATE refusal brings (R167). -/
def State.reloads (s : State) (sc : Nat) (v : Verdict) : State :=
  if v.reason = 5 then (checkedBanks v.cmd v.bk).foldl (fun s k => s.reload sc v.rk k) s else s

theorem State.refuseVerdict_eq (s : State) (sc : Nat) (v : Verdict) : s.refuseVerdict sc v = (s.refused sc v).reloads sc v := rfl

/-- A state with all that a REFUSE may touch as it is in another. -/
def State.butRefusal (s t : State) : State :=
  { t with subs := s.subs, engs := s.engs, qes := s.qes, groups := s.groups, regs := s.regs, fault := s.fault }

/-- What the engines' records do not show, the release of an engine leaves. -/
theorem State.engRefused_keeps {γ : Type} (g : State → γ) (h : ∀ t b e, g (State.setEng t b e) = g t) (s : State) (sc : Nat) (v : Verdict) :
    g (s.engRefused sc v) = g s := by
  by_cases hbank : v.cmd = .mrr ∨ v.cmd = .mrw
  · rw [State.engRefused, if_pos hbank]
  · rw [State.engRefused, if_neg hbank, h]

theorem State.groupRefused_keeps {γ : Type} (g : State → γ) (h : ∀ t k x, g (State.setGroup t k x) = g t) (s : State) (v : Verdict) :
    g (s.groupRefused v) = g s := by
  unfold State.groupRefused
  split
  · rw [h]
  · rfl

theorem State.refused_frame (s t : State) (sc : Nat) (v : Verdict) : s.butRefusal (t.refused sc v) = s.butRefusal t := by
  have hback : ∀ x : State, s.butRefusal ((x.mapQE v.tag (QE.refusedBy v)).maintRefused sc v.tag) = s.butRefusal x := fun _ => rfl
  have hcount : ∀ (x : State) (f : FRef), s.butRefusal (x.bump f) = s.butRefusal x := fun _ _ => rfl
  rw [State.refused, State.groupRefused_keeps s.butRefusal (fun _ _ _ => rfl), hback,
    State.engRefused_keeps s.butRefusal (fun _ _ _ => rfl), hcount]

theorem State.refused_verdicts (s : State) (sc : Nat) (v : Verdict) : ((s.refused sc v).sub sc).verdicts = (s.sub sc).verdicts := by
  rw [State.refused, State.groupRefused_keeps (State.sub · sc) (fun t _ _ => State.setGroup_sub t _ _ _), State.maintRefused, State.setSub_sub,
    if_pos rfl, State.mapQE_sub, State.engRefused_keeps (State.sub · sc) (fun t _ _ => State.setEng_sub t _ _ _), State.bump_sub]

theorem State.refused_qes (s : State) (sc : Nat) (v : Verdict) :
    (s.refused sc v).qes = mapIf (fun q => q.tag == v.tag) (QE.refusedBy v) s.qes := by
  have heng : ((s.bump Reg.SCHD_CNT0_REFUSE).engRefused sc v).qes = s.qes :=
    (State.engRefused_keeps State.qes State.setEng_qes _ sc v).trans (s.bump_qes _ _)
  rw [State.refused, State.groupRefused_keeps State.qes State.setGroup_qes, State.maintRefused, State.setSub_qes, ← heng]
  rfl

theorem State.refused_outstanding (s : State) (sc : Nat) {v : Verdict} (hmrr : v.cmd ≠ .mrr) (hmrw : v.cmd ≠ .mrw) :
    ((s.refused sc v).eng (engOf sc v.rk v.bk)).outstanding = false := by
  rw [State.refused, State.groupRefused_keeps (State.eng · _) (fun t _ _ => State.setGroup_eng t _ _ _), State.maintRefused, State.setSub_eng,
    State.mapQE_eng, State.engRefused, if_neg (not_or.2 ⟨hmrr, hmrw⟩), State.setEng_eng, if_pos rfl]

theorem State.refused_count (s : State) (sc : Nat) (v : Verdict) :
    (s.refused sc v).fld Reg.SCHD_CNT0_REFUSE = satAdd 16 (s.fld Reg.SCHD_CNT0_REFUSE) 1 := by
  rw [State.refused, State.groupRefused_keeps (State.fld · _) (fun t _ _ => State.setGroup_fld t _ _ _), State.maintRefused, State.setSub_fld,
    State.mapQE_fld, State.engRefused_keeps (State.fld · _) (fun t _ _ => State.setEng_fld t _ _ _)]
  exact s.bump_fld_same 1 (by decide) (by decide)

/-! ## The reloads of a STATE refusal (R167) -/

theorem State.reload_cases (s : State) (sc rk bk : Nat) :
    s.reload sc rk bk = s ∨ ∃ row : Option Nat, s.reload sc rk bk =
      ((s.setEng (engOf sc rk bk) { s.eng (engOf sc rk bk) with row := row, shut := none }).set1 Reg.SCHD_EVT_STATE_RELOAD).raise 0x08
        (atBank (sc / 2) (sc % 2) rk 0xF bk) := by
  unfold State.reload
  by_cases hsame : (s.eng (engOf sc rk bk)).row =
    if tget 0 (s.sub sc).rowOf (bankKey rk bk) = 0 then none else some (tget 0 (s.sub sc).rowOf (bankKey rk bk) - 1)
  · exact .inl (if_pos hsame)
  · exact .inr ⟨_, if_neg hsame⟩

/-- What no reload touches, all that a refusal brings leave. -/
theorem State.reloads_keeps {γ : Type} (g : State → γ) (h : ∀ t sc rk bk, g (State.reload t sc rk bk) = g t) (s : State) (sc : Nat)
    (v : Verdict) : g (s.reloads sc v) = g s := by
  unfold State.reloads
  split
  · exact foldl_keeps g (fun t _ _ => h t _ _ _) _
  · rfl

theorem State.reload_frame (s t : State) (sc rk bk : Nat) : s.butRefusal (t.reload sc rk bk) = s.butRefusal t := by
  obtain hsame | ⟨row, hnew⟩ := t.reload_cases sc rk bk
  · rw [hsame]
  · rw [hnew]
    simp [State.butRefusal]

theorem State.reload_sub (s : State) (sc rk bk j : Nat) : (s.reload sc rk bk).sub j = s.sub j := by
  obtain hsame | ⟨row, hnew⟩ := s.reload_cases sc rk bk
  · rw [hsame]
  · simp [hnew]

theorem State.reload_qes (s : State) (sc rk bk : Nat) : (s.reload sc rk bk).qes = s.qes := by
  obtain hsame | ⟨row, hnew⟩ := s.reload_cases sc rk bk
  · rw [hsame]
  · simp [hnew]

theorem State.reload_outstanding (s : State) (sc rk bk b : Nat) : ((s.reload sc rk bk).eng b).outstanding = (s.eng b).outstanding := by
  obtain hsame | ⟨row, hnew⟩ := s.reload_cases sc rk bk
  · rw [hsame]
  · rw [hnew, State.raise_eng, State.set1_eng]
    exact State.setEng_keeps (x := { s.eng (engOf sc rk bk) with row := row, shut := none }) Eng.outstanding rfl b

/-- A reload sets an event bit, and no bit of the count of refusals. -/
theorem State.reload_count (s : State) (sc rk bk : Nat) : (s.reload sc rk bk).fld Reg.SCHD_CNT0_REFUSE = s.fld Reg.SCHD_CNT0_REFUSE := by
  obtain hsame | ⟨row, hnew⟩ := s.reload_cases sc rk bk
  · rw [hsame]
  · rw [hnew, State.raise_fld]
    exact State.setFld_fld_ne _ Reg.SCHD_EVT_STATE_RELOAD Reg.SCHD_CNT0_REFUSE 1 (by decide)

/-- Settles O21: an ACCEPT sets the engine's record and the entry's stage; a REFUSE sets the entry back, and the reloads that may follow it touch
neither the entry, the engine's free place nor the count. That nothing changes without a verdict is log entry 4. -/
theorem verdictsReachTheEngine : Obligations.VerdictsReachTheEngine := by
  intro sc v s hserve hbuilt
  refine ⟨fun hv => ?_, fun hv => ?_, fun hnone => ?_, fun hnone => ?_⟩
  · obtain ⟨engs, haccept, heng⟩ := (s.tookVerdict sc v).acceptVerdict_eq sc v
    rw [exec_accept hserve hbuilt, State.deliver_accept hv, haccept]
    refine ⟨_, rfl, ?_, fun q hq htag => ?_, fun hmrr hmrw => (heng hmrr hmrw).1, fun hact => ?_, fun hclose => ?_, ?_⟩
    · exact ((s.tookVerdict sc v).maintAccepted_verdicts sc v).trans (s.tookVerdict_verdicts sc v)
    · obtain ⟨o, -, rfl⟩ := mem_mapIf_tag (f := QE.acceptedBy v) hq htag
      rfl
    · exact (heng (by simp [hact]) (by simp [hact])).2.trans (rowAfter_of_act hact _)
    · exact (heng (fun hcmd => by simp [hcmd] at hclose) (fun hcmd => by simp [hcmd] at hclose)).2.trans (rowAfter_of_closes hclose _)
    · unfold State.maintAccepted State.tookVerdict
      split <;> simp
  · rw [exec_refuse hserve hbuilt, State.deliver_refuse hv, State.refuseVerdict_eq]
    refine ⟨_, rfl, ?_, fun q hq htag => ?_, fun hmrr hmrw => ?_, ?_, ?_⟩
    · rw [State.reloads_keeps (State.sub · sc) (fun t _ _ _ => t.reload_sub _ _ _ _), State.refused_verdicts, State.tookVerdict_verdicts]
    · rw [State.reloads_keeps State.qes (fun t _ _ _ => t.reload_qes _ _ _), State.refused_qes] at hq
      obtain ⟨o, -, rfl⟩ := mem_mapIf_tag hq htag
      exact ⟨rfl, rfl⟩
    · rw [State.reloads_keeps (fun t => (t.eng _).outstanding) (fun t _ _ _ => t.reload_outstanding _ _ _ _),
        State.refused_outstanding _ _ hmrr hmrw]
    · rw [State.reloads_keeps (State.fld · Reg.SCHD_CNT0_REFUSE) (fun t _ _ _ => t.reload_count _ _ _), State.refused_count]
      rfl
    · exact calc s.butRefusal (((s.tookVerdict sc v).refused sc v).reloads sc v)
        _ = s.butRefusal ((s.tookVerdict sc v).refused sc v) := State.reloads_keeps s.butRefusal (s.reload_frame ·) _ sc v
        _ = s.butRefusal (s.tookVerdict sc v) := s.refused_frame _ sc v
        _ = s := rfl
  · rw [exec_accept hserve hbuilt, State.deliver_of_none hnone]
  · rw [exec_refuse hserve hbuilt, State.deliver_of_none hnone]

end Sys2Proof.Machine

/-! SUPPORT and settlement of the statement about PROPOSAL_PLACE (O19). -/

namespace Sys2Proof.Machine

open Sys2Proof

/-! ## A candidate takes a free place (R163, R175) -/

theorem State.placeCand_window (s : State) (sc : Nat) (c : Cand) : ((s.placeCand sc c).sub sc).window = (s.sub sc).window ++ [c.p] := by
  unfold State.placeCand
  cases c.ent with
  | none =>
    dsimp only
    split <;> split <;> simp
  | some q =>
    dsimp only
    split <;> split <;> simp

/-! ## One candidate, and an empty window (R175) -/

section
variable {s : State} {sc : Nat} (h : (s.sub sc).window = [])
include h

/-- No request in the window gives its place up. -/
theorem State.rebid_of_empty : s.rebid sc = s := by
  rw [State.rebid, h, List.foldl_nil]

theorem State.bankTaken_of_empty (c : Cand) : s.bankTaken sc [] c = false := by
  simp [State.bankTaken, h]

theorem State.admittedIn_of_empty (rk : Nat) : s.admittedIn sc rk = false := by
  simp [State.admittedIn, h]

theorem State.takePlace_of_empty (c : Cand) : s.takePlace sc c = s.placeCand sc c := by
  have hfree : (s.sub sc).window.length < 8 := by simp [h]
  simp [State.takePlace, State.admittedIn_of_empty h, hfree]

end

theorem sortBy_singleton {α : Type} (better : α → α → Bool) (x : α) : sortBy better [x] = [x] := rfl

/-- There is nothing to pass. -/
theorem State.passSort_singleton (s : State) (c : Cand) : s.passSort [c] = [c] := by
  simp only [State.passSort, List.foldl_cons, List.foldl_nil]
  split <;> rfl

theorem State.countPasses_sub (s : State) (sc : Nat) (sorted one placed : List Cand) (j : Nat) :
    (s.countPasses sc sorted one placed).sub j = s.sub j := State.bump_sub _ _ _ _

/-- A lone candidate becomes the one proposal of an empty window. -/
theorem State.placeAll_of_lone {s y : State} {sc : Nat} {c : Cand} (hy : y = (((s.drainEnd sc).turnRound sc).yieldTrain sc).withdrawRefresh sc)
    (hlone : y.cands sc = [c]) (hempty : (y.sub sc).window = []) : ((s.placeAll sc).sub sc).window = [c.p] := by
  have hone : [c].foldl (fun acc c => if y.bankTaken sc acc c then acc else acc ++ [c]) [] = [c] := by
    simp [State.bankTaken_of_empty hempty]
  have htake : [c].take (8 - ([] : List Proposal).length) = [c] := rfl
  have hplaced : s.placeAll sc = (y.countPasses sc [c] [c] [c]).takePlace sc c := by
    simp only [State.placeAll, ← hy, State.rebid_of_empty hempty, hlone, sortBy_singleton, State.passSort_singleton, hone, hempty, htake,
      List.foldl_cons, List.foldl_nil]
  have hstill : ((y.countPasses sc [c] [c] [c]).sub sc).window = [] := by rw [State.countPasses_sub, hempty]
  rw [hplaced, State.takePlace_of_empty hstill, State.placeCand_window, hstill, List.nil_append]

/-! ## PROPOSAL_PLACE (R163, R319, R375) -/

theorem State.place_of_stopped {s : State} (h : s.mode = .sleep ∨ s.mode = .halt) (sc : Nat) : s.place sc = s := if_pos h

theorem State.place_of_running {s : State} {sc : Nat} (hsleep : s.mode ≠ .sleep) (hhalt : s.mode ≠ .halt) (hup : s.chUp (sc / 2) = true)
    (hon : (s.proxy sc).latticeOn (sc / 2) = true) : s.place sc = (((s.proxy sc).trainPoint sc 0).trainPoint sc 1).placeAll sc := by
  have hawake : ¬ (s.mode = .sleep ∨ s.mode = .halt) := not_or.2 ⟨hsleep, hhalt⟩
  simp only [State.place, hawake, hup, hon, or_true, if_true, if_false, List.foldl_cons, List.foldl_nil]

/-- Settles O19: on a running lattice the proxy's and the training rows' accesses come first, then the window is filled, where a lone candidate
meets no other. -/
theorem loneCandidateIsProposed : Obligations.LoneCandidateIsProposed := by
  refine ⟨fun sc c s x y hserve hbuilt hsleep hhalt hup hon hx hy => ⟨?_, State.placeAll_of_lone hy⟩, fun sc s hserve hbuilt hmode => ?_⟩
  · rw [exec_proposalPlace hserve hbuilt, State.place_of_running hsleep hhalt hup hon, hx]
  · rw [exec_proposalPlace hserve hbuilt, State.place_of_stopped hmode]

end Sys2Proof.Machine

/-! SUPPORT and settlement of the statement about what time brings the scheduler (O20). -/

namespace Sys2Proof.Machine

open Sys2Proof

/-! ## LATTICE_TICK (R149, R203, R204, R366, R367) -/

theorem State.tick_of_stopped {s : State} {sc : Nat} (h : s.latticeOn (sc / 2) = false) : s.tick sc = s := if_neg (by simp [h])

theorem State.tick_of_running {s : State} {sc : Nat} (h : s.latticeOn (sc / 2) = true) :
    s.tick sc = (((s.latticeTick sc).gapEnd sc).zqApply (sc / 2)).passTokens := if_pos h

theorem State.latticeTick_tick (s : State) (sc : Nat) : ((s.latticeTick sc).sub sc).tick = (s.sub sc).tick + 1 := by
  simp [State.latticeTick]

theorem State.applyPend_subs (s : State) (sc : Nat) : (s.applyPend sc).subs = s.subs := by
  refine foldl_keeps State.subs (fun t rk _ => ?_) s
  dsimp only
  split
  · rfl
  · refine (foldl_keeps State.subs (fun u kt _ => ?_) _).trans ?_ <;> rfl

/-- Lowering the hold of a gap leaves the count of ticks. -/
theorem State.gapEnd_tick (s : State) (sc j : Nat) : ((s.gapEnd sc).sub j).tick = (s.sub j).tick := by
  unfold State.gapEnd
  split
  · have hpend : (s.applyPend sc).sub j = s.sub j := congrArg (tget sub0 · j) (s.applyPend_subs sc)
    rw [← hpend]
    exact State.setSub_keeps (x := { (s.applyPend sc).sub sc with gapHold := false }) Sub.tick rfl j
  · rfl

theorem State.setFlds_subs (s : State) (l : List (FRef × Nat)) : (s.setFlds l).subs = s.subs := (congrArg State.subs (State.setFlds_frame l s) :)

theorem State.zqCodes_subs (s : State) (c pu pd : Nat) : (s.zqCodes c pu pd).subs = s.subs := by
  unfold State.zqCodes
  dsimp only
  split
  · rw [State.set1_subs, State.setFlds_subs]
  · exact s.setFlds_subs _

theorem State.zqApply_subs (s : State) (c : Nat) : (s.zqApply c).subs = s.subs := by
  unfold State.zqApply
  split
  · rfl
  split
  · rw [State.zqCodes_subs, State.setPhy_subs]
  · rfl

/-- A token that leaves takes refresh proposals with it, no tick (R245). -/
theorem State.sendToken_tick (s : State) (num j : Nat) : ((s.sendToken num).sub j).tick = (s.sub j).tick := by
  have hsubs : (s.sendOn true 0x10 s.cwNext false num []).subs = s.subs := (congrArg State.subs (s.onlySends_sendOn _ _ _ _ _ _).rest :)
  exact (State.withdrawRefab_keeps_sub Sub.tick (fun _ _ => rfl) _ j).trans (congrArg (fun subs => (tget sub0 subs j).tick) hsubs)

theorem State.passTokens_tick (s : State) (j : Nat) : (s.passTokens.sub j).tick = (s.sub j).tick := by
  unfold State.passTokens
  split
  · rfl
  · exact foldl_keeps (fun t : State => (t.sub j).tick) (fun t _ _ => t.sendToken_tick _ j) s

theorem State.tick_advances {s : State} {sc : Nat} (h : s.latticeOn (sc / 2) = true) : ((s.tick sc).sub sc).tick = (s.sub sc).tick + 1 := by
  have hzq (t : State) : ((t.zqApply (sc / 2)).sub sc).tick = (t.sub sc).tick :=
    congrArg (fun subs => (tget sub0 subs sc).tick) (t.zqApply_subs _)
  rw [State.tick_of_running h, State.passTokens_tick, hzq, State.gapEnd_tick, State.latticeTick_tick]

/-! ## PROPOSAL_LIFE_EXPIRY (R164) -/

/-- The REFUSE verdict of a proposal, of its last reason. -/
def Proposal.lastRefusal (p : Proposal) : Verdict := ⟨false, p.tag, p.cmd, p.rk, p.bk, p.row, 0, 0, p.why, p.nb⟩

/-- Proposals refused in order append their verdicts in order, and touch nothing else of the subchannel. -/
theorem State.foldl_refuse_sub (l : List Proposal) (s : State) (sc : Nat) :
    (l.foldl (fun s p => s.refuse sc p p.why p.nb) s).sub sc =
      { s.sub sc with verdicts := (s.sub sc).verdicts ++ l.map Proposal.lastRefusal } := by
  induction l generalizing s with
  | nil => simp
  | cons p l ih =>
    rw [List.foldl_cons, ih]
    simp [State.refuse, State.verdict, Proposal.lastRefusal]

theorem State.foldl_refuse_frame (l : List Proposal) (s : State) (sc : Nat) (subs : Tab Sub) :
    { l.foldl (fun s p => s.refuse sc p p.why p.nb) s with subs := subs } = { s with subs := subs } := by
  refine foldl_keeps (fun t : State => { t with subs := subs }) (fun t p _ => ?_) s
  rfl

theorem State.expire_sub (s : State) (sc : Nat) :
    (s.expire sc).sub sc = { s.sub sc with
      window := (s.sub sc).window.filter (fun p => !decide (s.plife ≤ p.seen))
      verdicts := (s.sub sc).verdicts ++ ((s.sub sc).window.filter (fun p => decide (s.plife ≤ p.seen))).map Proposal.lastRefusal } := by
  rw [State.expire, State.foldl_refuse_sub]
  simp

theorem State.expire_frame (s : State) (sc : Nat) : { s.expire sc with subs := s.subs } = s :=
  State.foldl_refuse_frame _ _ _ _

/-! ## DRAIN_START (R177) -/

/-- A batch drain begins at the subchannel: it is counted. -/
def State.batchBegun (s : State) (sc : Nat) : State :=
  (s.bump Reg.SCHD_CNT1_DRAIN).setSub sc { s.sub sc with drain := .batch, breaks := 0, intr := none }

theorem State.drainDue_of_high {s : State} {sc : Nat} (h : s.fld Reg.SCHD_WDRN_WHI ≤ (s.writesOf sc).length) : s.drainDue sc = .batch := if_pos h

/-- The reads that the lattice committed to are marked, and those of banks with writes leave the window (R178). -/
theorem State.drainBegin_of_high {s : State} {sc : Nat} (hon : s.latticeOn (sc / 2) = true) (hread : (s.sub sc).drain = .read)
    (hhigh : s.fld Reg.SCHD_WDRN_WHI ≤ (s.writesOf sc).length) :
    ∃ (c d : QE → Bool) (f : QE → QE), s.drainBegin sc = ((s.batchBegun sc).mapQEs c f).withdraw d := by
  have hbegin : s.drainBegin sc = s.drainStart sc := if_pos hon
  rw [hbegin, State.drainStart, State.batchBegun]
  simp only [State.drainDue_of_high hhigh, hread, reduceCtorEq, ne_eq, not_true_eq_false, false_and, or_self, if_false, if_true]
  exact ⟨_, _, _, rfl⟩

theorem State.batchBegun_drain (s : State) (sc : Nat) : ((s.batchBegun sc).sub sc).drain = .batch ∧ ((s.batchBegun sc).sub sc).breaks = 0 := by
  simp [State.batchBegun]

theorem State.batchBegun_count (s : State) (sc : Nat) :
    (s.batchBegun sc).fld Reg.SCHD_CNT1_DRAIN = satAdd 8 (s.fld Reg.SCHD_CNT1_DRAIN) 1 := by
  rw [State.batchBegun, State.setSub_fld]
  exact s.bump_fld_same 1 (by decide) (by decide)

/-! ## RT_BUCKET_REFILL (R186) -/

theorem State.periodic_frame (s : State) (k per : Nat) :
    { s.periodic k per with tempo := s.tempo, wraps := s.wraps, timers := s.timers } = s := by
  unfold State.periodic State.advanceLong
  dsimp only
  split <;> rfl

theorem State.periodic_timer (s : State) (k per : Nat) : (s.periodic k per).timer k = s.timer k + per := by
  simp [State.periodic]

theorem State.periodic_sub (s : State) (k per j : Nat) : (s.periodic k per).sub j = s.sub j := by
  simp [State.periodic]

theorem State.periodic_fld (s : State) (k per : Nat) (f : FRef) : (s.periodic k per).fld f = s.fld f := by
  simp [State.periodic]

/-- Tempo stands at the time due or later. -/
theorem State.periodic_longTime (s : State) (k per : Nat) : s.timer k + per ≤ (s.periodic k per).longTime := by
  have htime : (s.periodic k per).longTime = max s.longTime (s.timer k + per) := s.advanceLong_longTime _
  omega

/-- The bucket holds what RATE has given it since it was last brought up to date, DEPTH at most. -/
theorem State.accrue_bucket (s : State) (sc : Nat) :
    ((s.accrue sc).sub sc).bucket = min s.bucketDepth ((s.sub sc).bucket +
      ((s.sub sc).bktFrac + s.fld Reg.SCHD_RTADM_RATE * (s.longTime - (s.sub sc).bktAt)) / 1000) := by
  simp only [State.accrue, State.setSub_sub, if_true, decide_eq_true_eq]
  split <;> omega

theorem State.accrue_bktAt (s : State) (sc : Nat) : ((s.accrue sc).sub sc).bktAt = s.longTime := by
  simp [State.accrue]

theorem State.accrue_timer (s : State) (sc k : Nat) : (s.accrue sc).timer k = s.timer k := rfl

theorem State.accrue_longTime (s : State) (sc : Nat) : (s.accrue sc).longTime = s.longTime := rfl

theorem State.refill_longTime (s : State) (sc : Nat) : s.timer (tmrBucket sc) + 1000 ≤ (s.refill sc).longTime := by
  rw [State.refill, State.accrue_longTime]
  exact s.periodic_longTime _ _

theorem State.refill_timer (s : State) (sc : Nat) : (s.refill sc).timer (tmrBucket sc) = s.timer (tmrBucket sc) + 1000 := by
  rw [State.refill, State.accrue_timer, State.periodic_timer]

theorem State.refill_bktAt (s : State) (sc : Nat) : ((s.refill sc).sub sc).bktAt = (s.refill sc).longTime := by
  rw [State.refill, State.accrue_bktAt, State.accrue_longTime]

theorem State.refill_bucket (s : State) (sc : Nat) :
    ((s.refill sc).sub sc).bucket = min s.bucketDepth ((s.sub sc).bucket +
      ((s.sub sc).bktFrac + s.fld Reg.SCHD_RTADM_RATE * ((s.refill sc).longTime - (s.sub sc).bktAt)) / 1000) := by
  rw [State.refill, State.accrue_bucket, State.accrue_longTime, State.periodic_sub, State.periodic_fld, State.bucketDepth, State.periodic_fld,
    State.bucketDepth]

theorem State.refill_frame (s : State) (sc : Nat) :
    { s.refill sc with subs := s.subs, tempo := s.tempo, wraps := s.wraps, timers := s.timers } = s :=
  congrArg (fun t : State => { t with subs := s.subs }) (s.periodic_frame (tmrBucket sc) 1000)

/-! ## GAMBIT_IDLE_TIMEOUT (R184) -/

theorem State.advanceTo_latticeOn (s : State) (d : Tempo) (c : Nat) : (s.advanceTo d).latticeOn c = s.latticeOn c := by
  unfold State.advanceTo
  split <;> rfl

section
variable {s x : State} {b row : Nat} {d : Tempo} (hidle : (s.eng b).idle = some d) (hrow : (s.eng b).row = some row) (hx : x = s.advanceTo d)
include hidle hrow hx

/-- A candidate of the bank ends the timer. -/
theorem State.gambitIdle_of_candidate (hcand : x.qes.any (fun q => q.loc.eng == b && x.phaseCand (b / 64) q) = true) :
    s.gambitIdle b = x.setEng b { s.eng b with idle := none } := by
  rw [hx] at hcand ⊢
  simp only [State.gambitIdle, hidle, hrow, hcand, if_true]

/-- Without one the precharge of the open row takes a free place. -/
theorem State.gambitIdle_of_idle (hnone : x.qes.any (fun q => q.loc.eng == b && x.phaseCand (b / 64) q) = false)
    (hout : (s.eng b).outstanding = false) (hfree : (s.sub (b / 64)).window.length < 8) (hon : s.latticeOn (b / 64 / 2) = true) :
    s.gambitIdle b = x.placeCand (b / 64) (x.maintCand (b / 64) .pre ((b / 32) % 2) (b % 32) row false d (idleTag b)) := by
  rw [hx] at hnone ⊢
  have hroom : ¬ 8 ≤ (s.sub (b / 64)).window.length := Nat.not_le.2 hfree
  simp only [State.gambitIdle, hidle, hrow, hnone, hout, State.advanceTo_sub, hroom, State.advanceTo_latticeOn, hon, decide_false,
    Bool.or_self, Bool.not_true, Bool.false_eq_true, if_false]

end

/-- Settles O20: each command by what its time brings. That a lattice that does not run changes nothing, and that a command whose time Tempo has
not reached moves it there, are log entries 4 and 3. -/
theorem schedulerTimeEvents : Obligations.SchedulerTimeEvents := by
  refine ⟨fun sc s hserve hbuilt => ⟨fun hon => ?_, fun hoff => ?_, ?_, fun hon hread hhigh => ?_, ?_⟩,
    fun b row d s x hserve hbuilt hidle hrow hx => ⟨fun hcand => ?_, fun hnone hout hfree hon => ?_⟩⟩
  · exact ⟨_, exec_latticeTick hserve hbuilt, State.tick_advances hon⟩
  · rw [exec_latticeTick hserve hbuilt, State.tick_of_stopped hoff]
  · refine ⟨_, exec_proposalLifeExpiry hserve hbuilt, ?_, ?_, s.expire_frame sc⟩
    · rw [State.expire_sub]
    · rw [State.expire_sub]
      rfl
  · obtain ⟨c, f, g, hbegun⟩ := State.drainBegin_of_high hon hread hhigh
    have hphase := s.batchBegun_drain sc
    refine ⟨_, exec_drainStart hserve hbuilt, ?_, ?_, ?_⟩
    · rw [hbegun, State.withdraw_keeps_sub Sub.drain (fun _ _ => rfl), State.mapQEs_sub]
      exact hphase.1
    · rw [hbegun, State.withdraw_keeps_sub Sub.breaks (fun _ _ => rfl), State.mapQEs_sub]
      exact hphase.2
    · rw [hbegun, State.withdraw_fld, State.mapQEs_fld, State.batchBegun_count]
  · exact ⟨_, exec_rtBucketRefill hserve hbuilt, s.refill_longTime sc, s.refill_timer sc, s.refill_bktAt sc, s.refill_bucket sc,
      s.refill_frame sc⟩
  · rw [exec_gambitIdleTimeout hserve hbuilt, State.gambitIdle_of_candidate hidle hrow hx hcand]
  · refine ⟨_, (x.maintCand (b / 64) .pre ((b / 32) % 2) (b % 32) row false d (idleTag b)).p, exec_gambitIdleTimeout hserve hbuilt, ?_, rfl, rfl,
      rfl, rfl, rfl, rfl⟩
    rw [State.gambitIdle_of_idle hidle hrow hx hnone hout hfree hon, State.placeCand_window, hx, State.advanceTo_sub]

end Sys2Proof.Machine

/-! SUPPORT and settlement of the statement about the registers that stand for selected words (O49). -/

namespace Sys2Proof.Machine

open Sys2Proof

/-! ## Accesses over the management port (R514-R516) -/

theorem exec_bengDataAccess {s : State} (h : s.serving = true) (agent : BitVec 4) (wr : Option Word) :
    exec (.bengDataAccess agent wr) s = .next (keepPins s (s.portAccess agent (regKey 0x13 0x044) wr)) := by
  show execBengDataAccess agent wr s = _
  unfold execBengDataAccess
  rw [serve_next h]
  rfl

theorem exec_pprw1Access {s : State} (h : s.serving = true) (agent : BitVec 4) (wr : Option Word) :
    exec (.pprw1Access agent wr) s = .next (keepPins s (s.portAccess agent (regKey 0x15 0x070) wr)) := by
  show execPprw1Access agent wr s = _
  unfold execPprw1Access
  rw [serve_next h]
  rfl

theorem exec_spddatRead {s : State} (h : s.serving = true) (agent : BitVec 4) :
    exec (.spddatRead agent) s = .next (keepPins s (s.mgtRead agent.toNat (regKey 4 0x050) 0)) := by
  show execSpddatRead agent s = _
  unfold execSpddatRead
  rw [serve_next h]
  rfl

/-- On a free page of a tile that is awake a read has no effect beside the register's own. A pop of the log (R504) is none of these. -/
theorem State.mgtRead_of_pageFree {s : State} {agent : BitVec 4} {p off : Nat} (h : s.pageFree agent p) (hp : p < 0x1C) (hoff : off < 0x1000)
    (hlog : p ≠ 1) (upset : BitVec 128) :
    s.mgtRead agent.toNat (regKey p off) upset = (s.readEffect p off upset).emit (.mgt (s.readWord agent.toNat p off) 0) := by
  obtain ⟨-, hawake, hagent, hclaim⟩ := h
  have hpage : regKey p off / 0x1000 = p := by unfold regKey; omega
  have hofs : regKey p off % 0x1000 = off := by unfold regKey; omega
  have hwake : s.wakeAccess p 4 = s := if_pos (.inr (.inr hawake))
  have htouch : s.touchClaim agent.toNat p = s := by simp [State.touchClaim, hclaim]
  simp [State.mgtRead, State.busRead, hagent, hpage, hofs, hwake, htouch, Nat.not_le.2 hp, hlog, stOk]

/-- A write of a free page whose body answers OK and leaves the tile awake. -/
theorem State.portWrite_of_body {s u : State} {agent : BitVec 4} {p off : Nat} {w : Word} (h : s.pageFree agent p) (hp : p < 0x1C)
    (hoff : off < 0x1000) (hbody : s.writeBody agent.toNat p off w true true = (stOk, u)) (hmode : u.mode ≠ .sleep) :
    s.portAccess agent (regKey p off) (some w) = u.okAck := by
  have hawake : u.wakeWork = u := if_neg fun hall => hmode hall.1
  have hbus := State.busWrite_of_pageFree h hp hoff w 4 true true
  rw [hbody, hawake] at hbus
  exact State.mgtWrite_accepted h.2.2.1 hbus

/-! ## Staged words of a table (R181, R301) -/

theorem State.setStagedTab_tabWord (s : State) (d : Nat → Nat) (k v : Nat) : (s.setStagedTab k v).tabWord d false k = v := by
  simp [State.tabWord, State.setStagedTab, tget_tins _ _ _ _ _ (tdel_ne s.tabsStg k)]

/-! ## BENG_DATA (R197, R198) -/

/-- The index steps where AINC is 1. -/
theorem State.advanceBeng_index {s : State} (h : s.fld Reg.BENG_IDX_INDEX < 1024) :
    s.advanceBeng.fld Reg.BENG_IDX_INDEX =
      if s.flag Reg.BENG_IDX_AINC then s.fld Reg.BENG_IDX_INDEX + 1 else s.fld Reg.BENG_IDX_INDEX := by
  have hfits : (s.fld Reg.BENG_IDX_INDEX + 1) % 4096 = s.fld Reg.BENG_IDX_INDEX + 1 := Nat.mod_eq_of_lt (by omega)
  unfold State.advanceBeng
  split
  · rw [hfits]
    exact State.setFld_fld_same s (by decide) (by decide) (Nat.lt_of_lt_of_le (Nat.succ_lt_succ h) (by decide))
  · rfl

theorem State.advanceBeng_frame (s : State) : { s.advanceBeng with regs := s.regs } = s := by
  unfold State.advanceBeng
  split
  · exact s.setFld_frame _ _ s.regs
  · rfl

/-- A word of the policy tables is staged, and the index steps. -/
theorem State.writeBody_beng {s : State} {agent : Nat} (hclaim : s.claim 0x13 = none) (hspace : s.fld Reg.BENG_IDX_SPACE = 0)
    (hindex : s.fld Reg.BENG_IDX_INDEX < 1024) (w : Word) :
    s.writeBody agent 0x13 0x044 w true true = (stOk, (s.setStagedTab (s.fld Reg.BENG_IDX_INDEX) (w.toNat % 16)).advanceBeng) := by
  have hheld : s.heldByOther agent 0x13 = false := by simp [State.heldByOther, hclaim]
  simp [State.writeBody, State.pageBuilt, State.bengWrite, hheld, hspace, hindex]

theorem State.readWord_beng (s : State) (agent : Nat) : s.readWord agent 0x13 0x044 = s.bengData (s.view agent 0x13) := by
  simp [State.readWord, State.headerWord, State.pageBuilt]

theorem State.readEffect_beng (s : State) (upset : BitVec 128) : s.readEffect 0x13 0x044 upset = s.advanceBeng := by
  simp [State.readEffect]

/-! ## RPMR_PPRW1 (R328) -/

/-- The entry steps where AINC is 1. -/
theorem State.advancePpr_entry (s : State) :
    s.advancePpr.fld Reg.RPMR_PPRIDX_ENTRY =
      if s.flag Reg.RPMR_PPRIDX_AINC then (s.fld Reg.RPMR_PPRIDX_ENTRY + 1) % 64 else s.fld Reg.RPMR_PPRIDX_ENTRY := by
  unfold State.advancePpr
  split
  · exact State.setFld_fld_same s (by decide) (by decide) (Nat.mod_lt _ (by decide))
  · rfl

theorem State.advancePpr_frame (s : State) : { s.advancePpr with regs := s.regs } = s := by
  unfold State.advancePpr
  split
  · exact s.setFld_frame _ _ s.regs
  · rfl

theorem State.writeBody_ppr {s : State} {agent : Nat} (hclaim : s.claim 0x15 = none) (w : Word) :
    s.writeBody agent 0x15 0x070 w true true =
      (stOk, (s.setStagedTab (pprKey (s.fld Reg.RPMR_PPRIDX_ENTRY) 1) (w &&& accMask 0x15 0x070 .rs).toNat).advancePpr) := by
  have hheld : s.heldByOther agent 0x15 = false := by simp [State.heldByOther, hclaim]
  simp [State.writeBody, State.pageBuilt, State.pprWrite, hheld]

theorem State.readWord_ppr (s : State) (agent : Nat) : s.readWord agent 0x15 0x070 = s.pprData (s.view agent 0x15) 1 := by
  simp [State.readWord, State.headerWord, State.pageBuilt]

theorem State.readEffect_ppr (s : State) (upset : BitVec 128) : s.readEffect 0x15 0x070 upset = s.advancePpr := by
  simp [State.readEffect, State.pageBuilt]

/-! ## SIDE_SPDDAT (R461) -/

theorem State.readWord_spd (s : State) (agent : Nat) : s.readWord agent 4 0x050 = s.spdData := by
  simp [State.readWord, State.headerWord, State.pageBuilt]

/-- The byte number steps where AINC is 1. -/
theorem State.readEffect_spd_index (s : State) (upset : BitVec 128) :
    (s.readEffect 4 0x050 upset).fld Reg.SIDE_SPDIDX_IDX =
      if s.flag Reg.SIDE_SPDIDX_AINC then (s.fld Reg.SIDE_SPDIDX_IDX + 1) % 256 else s.fld Reg.SIDE_SPDIDX_IDX := by
  cases hinc : s.flag Reg.SIDE_SPDIDX_AINC with
  | true =>
    have heffect : s.readEffect 4 0x050 upset = s.setFld Reg.SIDE_SPDIDX_IDX ((s.fld Reg.SIDE_SPDIDX_IDX + 1) % 256) := by
      simp [State.readEffect, hinc]
    rw [heffect, if_pos rfl]
    exact State.setFld_fld_same s (by decide) (by decide) (Nat.mod_lt _ (by decide))
  | false =>
    have heffect : s.readEffect 4 0x050 upset = s := by simp [State.readEffect, hinc]
    rw [heffect]
    rfl

/-- Settles O49: on a free page the access is its register's own effect, which stages the word a write gives and steps the index. -/
theorem dataRegistersStepTheirIndex : Obligations.DataRegistersStepTheirIndex := by
  refine ⟨fun agent w s hfree hspace hindex => ?_, fun agent w s hfree => ?_, fun agent s hfree => ?_⟩
  · have ⟨hserve, hawake, _, hclaim⟩ := hfree
    let u := s.setStagedTab (s.fld Reg.BENG_IDX_INDEX) (w.toNat % 16)
    refine ⟨⟨u.advanceBeng, ?_, ?_, State.advanceBeng_index (s := u) hindex⟩, ⟨s.advanceBeng, ?_, State.advanceBeng_index hindex⟩⟩
    · have hmode : u.advanceBeng.mode = s.mode := (congrArg State.mode u.advanceBeng_frame :)
      rw [exec_bengDataAccess hserve,
        State.portWrite_of_body hfree (by decide) (by decide) (State.writeBody_beng hclaim hspace hindex w) (hmode.trans_ne hawake)]
    · have htab : u.advanceBeng.tabWord bengReset false = u.tabWord bengReset false :=
        (congrArg (State.tabWord · bengReset false) u.advanceBeng_frame :)
      rw [htab, State.setStagedTab_tabWord]
    · rw [exec_bengDataAccess hserve, State.portAccess, State.mgtRead_of_pageFree hfree (by decide) (by decide) (by decide), State.readWord_beng,
        State.readEffect_beng]
  · have ⟨hserve, hawake, _, hclaim⟩ := hfree
    let u := s.setStagedTab (pprKey (s.fld Reg.RPMR_PPRIDX_ENTRY) 1) (w &&& accMask 0x15 0x070 .rs).toNat
    refine ⟨⟨u.advancePpr, ?_, ?_, u.advancePpr_entry⟩, ⟨s.advancePpr, ?_, s.advancePpr_entry⟩⟩
    · have hmode : u.advancePpr.mode = s.mode := (congrArg State.mode u.advancePpr_frame :)
      rw [exec_pprw1Access hserve,
        State.portWrite_of_body hfree (by decide) (by decide) (State.writeBody_ppr hclaim w) (hmode.trans_ne hawake)]
    · have htab : u.advancePpr.tabWord (fun _ => 0) false = u.tabWord (fun _ => 0) false :=
        (congrArg (State.tabWord · (fun _ => 0) false) u.advancePpr_frame :)
      rw [htab, State.setStagedTab_tabWord]
    · rw [exec_pprw1Access hserve, State.portAccess, State.mgtRead_of_pageFree hfree (by decide) (by decide) (by decide), State.readWord_ppr,
        State.readEffect_ppr]
  · refine ⟨s.readEffect 4 0x050 0, ?_, s.readEffect_spd_index 0⟩
    rw [exec_spddatRead hfree.1, State.mgtRead_of_pageFree hfree (by decide) (by decide) (by decide), State.readWord_spd]

end Sys2Proof.Machine

/-! SUPPORT and settlement of the statement about COMMAND_ISSUE (O22). -/

namespace Sys2Proof.Machine

open Sys2Proof

theorem exec_commandIssue {s : State} {sc : Nat} (h : s.serving = true) (hb : s.subBuilt sc = true) (upset : LineData) :
    exec (.commandIssue sc upset) s = .next (s.done (s.issueNext sc upset)) := actIf_next hb h _

/-! ## The earliest slot (R204) -/

/-- Keeping the better of two by a key picks, of a list and the element begun with, one whose key is the least. -/
theorem foldl_better_least {α : Type} (key : α → Nat) (l : List α) (x : α) :
    let m := l.foldl (fun b y => if decide (key y < key b) then y else b) x
    m ∈ x :: l ∧ ∀ y ∈ x :: l, key m ≤ key y := by
  induction l generalizing x with
  | nil => simp
  | cons z l ih =>
    obtain ⟨hmem, hleast⟩ := ih (if decide (key z < key x) then z else x)
    obtain ⟨hhead, htail⟩ := List.forall_mem_cons.1 hleast
    by_cases hz : key z < key x
    · simp only [List.foldl_cons, hz, decide_true, if_true] at hmem hhead htail ⊢
      exact ⟨.tail _ hmem, List.forall_mem_cons.2 ⟨hhead.trans hz.le, List.forall_mem_cons.2 ⟨hhead, htail⟩⟩⟩
    · simp only [List.foldl_cons, hz, decide_false, Bool.false_eq_true, if_false] at hmem hhead htail ⊢
      refine ⟨?_, List.forall_mem_cons.2 ⟨hhead, List.forall_mem_cons.2 ⟨hhead.trans (not_lt.1 hz), htail⟩⟩⟩
      exact (List.mem_cons.1 hmem).elim (fun h => List.mem_cons.2 (.inl h)) fun h => .tail _ (.tail _ h)

theorem Sub.nextIssue_least {x : Sub} {i : Issue} (h : x.nextIssue = some i) : i ∈ x.accepted ∧ ∀ j ∈ x.accepted, i.slot ≤ j.slot := by
  unfold Sub.nextIssue best at h
  split at h
  next => cases h
  next j l hacc =>
    obtain rfl := Option.some.inj h
    rw [hacc]
    exact foldl_better_least Issue.slot l j

/-! ## What the command does (R214, R215, R223, R280) -/

theorem State.issueNext_of_none {s : State} {sc : Nat} (h : (s.sub sc).accepted = []) (upset : LineData) : s.issueNext sc upset = s := by
  simp [State.issueNext, Sub.nextIssue, best, h]

section
variable {s w : State} {sc : Nat} {i : Issue} (hnext : (s.sub sc).nextIssue = some i) (upset : LineData)
  (hw : w = (s.setSub sc { s.sub sc with accepted := (s.sub sc).accepted.erase i }).emit (sentCmd sc i.cmd i.rk i.bk i.row i.col))
include hnext hw

/-- A row, refresh or self-refresh command does nothing but leave at the pins. -/
theorem State.issueNext_of_row (hcmd : i.cmd ∈ [.act, .pre, .preab, .refab, .refsb, .rfmab, .rfmsb, .sre, .srx]) : s.issueNext sc upset = w := by
  simp only [List.mem_cons, List.not_mem_nil, or_false] at hcmd
  rcases hcmd with h | h | h | h | h | h | h | h | h <;> simp only [State.issueNext, hnext, h, hw]

theorem State.issueNext_of_read (hcmd : i.cmd = .rd ∨ i.cmd = .rda) : s.issueNext sc upset = w.issueRead sc i := by
  rcases hcmd with h | h <;> simp only [State.issueNext, hnext, h, hw]

theorem State.issueNext_of_write (hcmd : i.cmd = .wr ∨ i.cmd = .wra) : s.issueNext sc upset = w.issueWrite sc i upset := by
  rcases hcmd with h | h <;> simp only [State.issueNext, hnext, h, hw]

theorem State.issueNext_of_mrr (hcmd : i.cmd = .mrr) :
    s.issueNext sc upset = w.setSub sc { w.sub sc with reading := (w.sub sc).reading ++ [{ i with er := 0 }] } := by
  simp only [State.issueNext, hnext, hcmd, hw]

theorem State.issueNext_of_mrw (hcmd : i.cmd = .mrw) : s.issueNext sc upset = w.emit (.modeSet sc i.rk i.ma i.val) := by
  simp only [State.issueNext, hnext, hcmd, hw]

theorem State.issueNext_of_zq (hcmd : i.cmd = .zqs ∨ i.cmd = .zql) : s.issueNext sc upset = w.zqIssued sc i := by
  rcases hcmd with h | h <;> simp only [State.issueNext, hnext, h, hw]

end

/-! ## A read (R184, R215, R280) -/

/-- Starting the idle timer touches the engines and the policy note of the command's own entry. -/
theorem State.startIdle_eq (s : State) (q : QE) (c : Cmd) :
    ∃ engs, s.startIdle q c = { s.mapQE q.tag (fun o => { o with pol := none }) with engs := engs } := by
  unfold State.startIdle
  split
  · dsimp only
    split
    · exact ⟨_, rfl⟩
    · split <;> exact ⟨_, rfl⟩
  · exact ⟨_, rfl⟩

theorem State.startIdle_qes (s : State) (q : QE) (c : Cmd) :
    (s.startIdle q c).qes = mapIf (fun o => o.tag == q.tag) (fun o => { o with pol := none }) s.qes := by
  obtain ⟨engs, h⟩ := s.startIdle_eq q c
  rw [h]
  rfl

theorem State.startIdle_sub (s : State) (q : QE) (c : Cmd) (j : Nat) : (s.startIdle q c).sub j = s.sub j := by
  obtain ⟨engs, h⟩ := s.startIdle_eq q c
  rw [h]
  rfl

theorem State.startIdle_outputs (s : State) (q : QE) (c : Cmd) : (s.startIdle q c).outputs = s.outputs := by
  obtain ⟨engs, h⟩ := s.startIdle_eq q c
  rw [h]
  rfl

theorem State.qe?_tag {s : State} {tag : Nat} {q : QE} (h : s.qe? tag = some q) : q.tag = tag := by
  simpa using List.find?_some h

section
variable (w : State) (sc : Nat) (i : Issue)

theorem State.issueRead_outputs : (w.issueRead sc i).outputs = w.outputs := by
  unfold State.issueRead
  dsimp only
  split
  · rfl
  · rw [State.startIdle_outputs]; rfl

/-- The read waits for its data under the erasure mark of this moment (R215, R280). -/
theorem State.issueRead_reading :
    ((w.issueRead sc i).sub sc).reading = (w.sub sc).reading ++ [{ i with er := w.erNow sc i.rk }] := by
  unfold State.issueRead
  dsimp only
  split
  · simp [Sub.remember]
  · simp [State.startIdle_sub, Sub.remember]

/-- The read's entry is issued. -/
theorem State.issueRead_stage : ∀ q ∈ (w.issueRead sc i).qes, q.tag = i.tag → q.stage = .issued := by
  intro q hq htag
  unfold State.issueRead at hq
  dsimp only at hq
  split at hq
  next hnone =>
    have hno := List.find?_eq_none.1 hnone q hq
    simp [htag] at hno
  next o ho =>
    rw [State.startIdle_qes, State.qe?_tag ho] at hq
    obtain ⟨p, hp, rfl⟩ := mem_mapIf_tag hq htag
    obtain ⟨r, -, rfl⟩ := mem_mapIf_tag hp htag
    rfl

end

/-- Settles O22: by the command, once the earliest slot is picked. That nothing changes with nothing accepted is log entry 4. -/
theorem earliestSlotIssues : Obligations.EarliestSlotIssues := by
  refine ⟨fun sc i upset s w hserve hbuilt hnext hw => ⟨Sub.nextIssue_least hnext, ?_⟩, fun sc upset s hserve hbuilt hnone => ?_⟩
  · rw [exec_commandIssue hserve hbuilt]
    refine ⟨fun hcmd => ?_, fun hcmd => ⟨w.issueRead sc i, ?_, w.issueRead_outputs sc i, ?_, w.issueRead_stage sc i⟩,
      fun hcmd => ?_, fun hcmd => ?_, fun hcmd => ?_, fun hcmd => ?_⟩
    · rw [State.issueNext_of_row hnext upset hw hcmd]
    · rw [State.issueNext_of_read hnext upset hw hcmd]
    · have hreading : (w.sub sc).reading = (s.sub sc).reading := by simp [hw]
      rw [State.issueRead_reading, hreading]
    · rw [State.issueNext_of_write hnext upset hw hcmd]
    · rw [State.issueNext_of_mrr hnext upset hw hcmd]
    · rw [State.issueNext_of_mrw hnext upset hw hcmd]
    · rw [State.issueNext_of_zq hnext upset hw hcmd]
  · rw [exec_commandIssue hserve hbuilt, State.issueNext_of_none hnone]

end Sys2Proof.Machine

/-! SUPPORT and settlement of the statement about mode register commands and ZQ calibration (O24). -/

namespace Sys2Proof.Machine

open Sys2Proof

/-! ## The word of TIMG_MRCMD (R235) -/

/-- The word that begins a mode register command. -/
def mrWord (mrw : Bool) (ch : BitVec 2) (sck rk : Bool) (ma wdata : BitVec 8) : Word :=
  wordOf [(Reg.TIMG_MRCMD_GO, 1), (Reg.TIMG_MRCMD_OP, b2n mrw), (Reg.TIMG_MRCMD_CH, ch.toNat), (Reg.TIMG_MRCMD_SC, b2n sck),
    (Reg.TIMG_MRCMD_RK, b2n rk), (Reg.TIMG_MRCMD_MA, ma.toNat), (Reg.TIMG_MRCMD_WDATA, wdata.toNat)]

theorem b2n_lt_two (b : Bool) : b2n b < 2 := by cases b <;> decide

theorem mrWord_fields (mrw : Bool) (ch : BitVec 2) (sck rk : Bool) (ma wdata : BitVec 8) :
    let w := mrWord mrw ch sck rk ma wdata
    Reg.TIMG_MRCMD_GO.get w = 1 ∧ Reg.TIMG_MRCMD_OP.get w = b2n mrw ∧ Reg.TIMG_MRCMD_CH.get w = ch.toNat ∧
      Reg.TIMG_MRCMD_SC.get w = b2n sck ∧ Reg.TIMG_MRCMD_RK.get w = b2n rk ∧ Reg.TIMG_MRCMD_MA.get w = ma.toNat ∧
      Reg.TIMG_MRCMD_WDATA.get w = wdata.toNat := by
  have hmrw := b2n_lt_two mrw
  have hsck := b2n_lt_two sck
  have hrk := b2n_lt_two rk
  have hch := ch.isLt
  have hma := ma.isLt
  have hwdata := wdata.isLt
  simp only [mrWord, wordOf, FRef.get, Reg.TIMG_MRCMD_GO, Reg.TIMG_MRCMD_OP, Reg.TIMG_MRCMD_CH, Reg.TIMG_MRCMD_SC, Reg.TIMG_MRCMD_RK,
    Reg.TIMG_MRCMD_MA, Reg.TIMG_MRCMD_WDATA, List.foldl_cons, List.foldl_nil, BitVec.toNat_ofNat, Nat.shiftRight_eq_div_pow]
  norm_num
  omega

/-! ## TIMG_MRCMD (R222) -/

theorem State.addMaint_fld (s : State) (sc : Nat) (m : Maint) (f : FRef) : (s.addMaint sc m).fld f = s.fld f := rfl

theorem State.addMaint_maint (s : State) (sc : Nat) (m : Maint) :
    ((s.addMaint sc m).sub sc).maint = (s.sub sc).maint ++ [{ m with tag := s.nextTag }] :=
  congrArg Sub.maint ((s.setSub_sub sc sc _).trans (if_pos rfl))

theorem State.addMaint_mode (s : State) (sc : Nat) (m : Maint) : (s.addMaint sc m).mode = s.mode := rfl

section
variable {s : State} {mrw : Bool} {ch : BitVec 2} {sck rk : Bool} {ma : BitVec 8}

/-- The command's own word in TIMG_MRCMD says nothing about what aborts a command. -/
theorem State.setWord_mrAborts (s : State) (w : Word) (mrw : Bool) (ch : BitVec 2) (sck : Bool) (rk ma : Nat) :
    (s.setWord Reg.TIMG_MRCMD_GO.key w).mrAborts mrw ch.toNat (b2n sck) rk ma = s.mrAborts mrw ch.toNat (b2n sck) rk ma := by
  have hword {k : Nat} (h : k ≠ Reg.TIMG_MRCMD_GO.key) : (s.setWord Reg.TIMG_MRCMD_GO.key w).word k = s.word k := s.setWord_word_ne _ k w h
  have hup : (s.setWord Reg.TIMG_MRCMD_GO.key w).chUp ch.toNat = s.chUp ch.toNat := by
    have hstate : (s.setWord Reg.TIMG_MRCMD_GO.key w).fld Reg.RPMR_CHSTAT_STATE = s.fld Reg.RPMR_CHSTAT_STATE := by
      rw [State.fld, hword (by decide), State.fld]
    rw [State.chUp, State.chState, hstate, State.setWord_build, State.chUp, State.chState]
  have hchan : (2 * ch.toNat + b2n sck) / 2 = ch.toNat := by have := b2n_lt_two sck; omega
  have hdec : (s.setWord Reg.TIMG_MRCMD_GO.key w).chDec ch.toNat = s.chDec ch.toNat := by
    have hlt := ch.isLt
    have hkey : Reg.TIMG_MRCMD_GO.key = 0x11080 := by decide
    unfold State.chDec
    rw [hword (by rw [hkey]; unfold regKey; omega), hword (by rw [hkey]; unfold regKey; omega)]
  have hrank : (s.setWord Reg.TIMG_MRCMD_GO.key w).rankAwake (2 * ch.toNat + b2n sck) rk = s.rankAwake (2 * ch.toNat + b2n sck) rk := by
    simp only [State.rankAwake, State.ranks, hchan, hdec, State.setWord_sub]
  simp only [State.mrAborts, hup, hrank, State.setWord_mode]

/-- GO is written 1 while no command is in progress. -/
theorem State.mrCommand_of_go {w : Word} (hgo : s.flag Reg.TIMG_MRCMD_GO = false) (hw : Reg.TIMG_MRCMD_GO.get w = 1) :
    s.mrCommand w =
      if (s.setWord Reg.TIMG_MRCMD_GO.key w).mrAborts (Reg.TIMG_MRCMD_OP.get w != 0) (Reg.TIMG_MRCMD_CH.get w) (Reg.TIMG_MRCMD_SC.get w)
          (Reg.TIMG_MRCMD_RK.get w) (Reg.TIMG_MRCMD_MA.get w) then
        ((s.setWord Reg.TIMG_MRCMD_GO.key w).clr Reg.TIMG_MRCMD_GO).set1 Reg.TIMG_EVT_MR_ABORT
      else (s.setWord Reg.TIMG_MRCMD_GO.key w).addMaint (2 * Reg.TIMG_MRCMD_CH.get w + Reg.TIMG_MRCMD_SC.get w)
        ⟨0, if Reg.TIMG_MRCMD_OP.get w != 0 then .mrw else .mrr, Reg.TIMG_MRCMD_RK.get w, 0, 0, false, s.tempo + ns 10000,
          Reg.TIMG_MRCMD_MA.get w, Reg.TIMG_MRCMD_WDATA.get w, 0, false⟩ := by
  have hne : ¬ Reg.TIMG_MRCMD_GO.get w = 0 := by rw [hw]; decide
  rw [State.mrCommand, if_neg (by rw [hgo]; decide)]
  dsimp only
  rw [if_neg hne, State.setWord_tempo]

section
variable (hgo : s.flag Reg.TIMG_MRCMD_GO = false) (wdata : BitVec 8)
include hgo

theorem State.mrCommand_of_mrWord :
    s.mrCommand (mrWord mrw ch sck rk ma wdata) =
      if s.mrAborts mrw ch.toNat (b2n sck) (b2n rk) ma.toNat then
        ((s.setWord Reg.TIMG_MRCMD_GO.key (mrWord mrw ch sck rk ma wdata)).clr Reg.TIMG_MRCMD_GO).set1 Reg.TIMG_EVT_MR_ABORT
      else (s.setWord Reg.TIMG_MRCMD_GO.key (mrWord mrw ch sck rk ma wdata)).addMaint (2 * ch.toNat + b2n sck)
        ⟨0, if mrw then .mrw else .mrr, b2n rk, 0, 0, false, s.tempo + ns 10000, ma.toNat, wdata.toNat, 0, false⟩ := by
  obtain ⟨hgo1, hop, hch, hsc, hrk, hma, hwd⟩ := mrWord_fields mrw ch sck rk ma wdata
  have hmrw : (b2n mrw != 0) = mrw := by cases mrw <;> rfl
  rw [State.mrCommand_of_go hgo hgo1, hop, hch, hsc, hrk, hma, hwd, hmrw, State.setWord_mrAborts]

/-- An aborted command: GO reads 0, MR_ABORT is set, and no lattice has changed (R222). -/
theorem State.mrCommand_aborted (h : s.mrAborts mrw ch.toNat (b2n sck) (b2n rk) ma.toNat = true) :
    let u := s.mrCommand (mrWord mrw ch sck rk ma wdata)
    u.flag Reg.TIMG_MRCMD_GO = false ∧ u.flag Reg.TIMG_EVT_MR_ABORT = true ∧ u.subs = s.subs := by
  dsimp only
  rw [State.mrCommand_of_mrWord hgo, if_pos h]
  refine ⟨?_, State.set1_flag_same _ (by decide) (by decide), by rw [State.set1_subs, State.clr_subs, State.setWord_subs]⟩
  rw [State.flag, State.set1, State.setFld_fld_ne _ _ _ _ (by decide), State.clr,
    State.setFld_fld_same _ (by decide) (by decide) (by decide)]
  decide

/-- A command that is issued: GO reads 1, and its proposal waits for the window of its subchannel (R222). -/
theorem State.mrCommand_issued (h : s.mrAborts mrw ch.toNat (b2n sck) (b2n rk) ma.toNat = false) :
    let u := s.mrCommand (mrWord mrw ch sck rk ma wdata)
    u.flag Reg.TIMG_MRCMD_GO = true ∧ (u.sub (2 * ch.toNat + b2n sck)).maint = (s.sub (2 * ch.toNat + b2n sck)).maint ++
      [⟨s.nextTag, if mrw then .mrw else .mrr, b2n rk, 0, 0, false, s.tempo + ns 10000, ma.toNat, wdata.toNat, 0, false⟩] := by
  dsimp only
  rw [State.mrCommand_of_mrWord hgo, if_neg (by simp [h])]
  constructor
  · have hword := s.setWord_word Reg.TIMG_MRCMD_GO.key (mrWord mrw ch sck rk ma wdata)
    rw [State.flag, State.addMaint_fld, State.fld, hword, (mrWord_fields mrw ch sck rk ma wdata).1]
    decide
  · rw [State.addMaint_maint, State.setWord_sub, State.setWord_nextTag]

end

theorem State.mrCommand_mode (s : State) (w : Word) : (s.mrCommand w).mode = s.mode := by
  unfold State.mrCommand
  dsimp only
  repeat' split
  all_goals simp only [State.set1_mode, State.clr_mode, State.addMaint_mode, State.setWord_mode]

/-- On a free page the write of TIMG_MRCMD is the command's own effect, answered OK. -/
theorem State.portWrite_mrcmd {agent : BitVec 4} (hfree : s.pageFree agent 0x11) (w : Word) :
    s.portWrite agent Reg.TIMG_MRCMD_GO.key w true true = (s.mrCommand w).okAck :=
  State.mgtWrite_own hfree (off := 0x080) rfl (by decide) (by decide) rfl (by decide) (fun h => absurd h (by decide)) (by decide)
    (by simp [State.ownWrite]) (by rw [State.mrCommand_mode]; exact hfree.2.1)

end

section
variable {s : State} {agent : BitVec 4} (hfree : s.pageFree agent 0x11) (ch : BitVec 2) (sck rk : Bool) (ma : BitVec 8)
include hfree

theorem exec_mrcmdMrw (wdata : BitVec 8) :
    exec (.mrcmdMrw agent ch sck rk ma wdata) s = .next (keepPins s (s.mrCommand (mrWord true ch sck rk ma wdata)).okAck) := by
  show execMrcmdMrw agent ch sck rk ma wdata s = _
  unfold execMrcmdMrw
  rw [serve_next hfree.1, State.portWrite_mrcmd hfree]
  rfl

/-- A read's word has no WDATA: the field is 0. -/
theorem exec_mrcmdMrr :
    exec (.mrcmdMrr agent ch sck rk ma) s = .next (keepPins s (s.mrCommand (mrWord false ch sck rk ma 0)).okAck) := by
  have hword : mrWord false ch sck rk ma 0 = wordOf [(Reg.TIMG_MRCMD_GO, 1), (Reg.TIMG_MRCMD_OP, 0), (Reg.TIMG_MRCMD_CH, ch.toNat),
      (Reg.TIMG_MRCMD_SC, b2n sck), (Reg.TIMG_MRCMD_RK, b2n rk), (Reg.TIMG_MRCMD_MA, ma.toNat)] := by
    simp [mrWord, wordOf, b2n]
  show execMrcmdMrr agent ch sck rk ma s = _
  unfold execMrcmdMrr
  rw [serve_next hfree.1, State.portWrite_mrcmd hfree, hword]

end

/-! ## ZQ calibration (R223) -/

section
variable {s : State} {sc : Nat} (h : s.serving = true) (hb : s.subBuilt sc = true) (rk : Fin 2)
include h hb

theorem exec_zqcalStartDue : exec (.zqcalStartDue sc rk) s = .next (s.done (s.zqStartDue sc rk.val)) := actIf_next hb h _

theorem exec_zqcalLatchDue : exec (.zqcalLatchDue sc rk) s = .next (s.done (s.zqLatchDue sc rk.val)) := actIf_next hb h _

end

/-- The ZQCal Start of an awake rank that is not being calibrated is placed. -/
theorem State.zqStartDue_of_idle {s : State} {sc rk : Nat} (hup : s.dramUp (sc / 2) = true) (hawake : s.rankAwake sc rk = true)
    (hidle : (s.sub sc).calibrating rk = false) :
    s.zqStartDue sc rk = (s.advanceTo (tget 0 (s.sub sc).zqStart rk + ns s.zqInt)).setSub sc
      { s.sub sc with seqs := (s.sub sc).seqs ++ [seqStep (some .zqs) rk 0 (some 0) 1] } := by
  simp [State.zqStartDue, hup, hawake, hidle]

/-- The Latch of a started calibration is placed. -/
theorem State.zqLatchDue_of_started {s : State} {sc rk : Nat} (hstarted : (s.sub sc).zqLatch.contains rk = true)
    (hnone : (s.sub sc).hasSeq .zql rk = false) :
    s.zqLatchDue sc rk = (s.advanceTo (tget 0 (s.sub sc).zqStart rk + ns (s.fld Reg.TIMG_ZQ_ZQCAL))).setSub sc
      { s.sub sc with seqs := (s.sub sc).seqs ++ [seqStep (some .zql) rk 0 (some 0) 1] } := by
  simp only [State.zqLatchDue, hstarted, hnone, Bool.not_true, Bool.or_self, Bool.false_eq_true, if_false]

/-- Settles O24: the write of TIMG_MRCMD is its command's own effect, issued or aborted. -/
theorem modeRegisterAndZqCommands : Obligations.ModeRegisterAndZqCommands := by
  refine ⟨fun agent ch sck rk ma wdata s hfree hgo => ⟨fun h => ?_, fun h => ?_, fun h => ?_, fun h => ?_⟩,
    fun sc rk s hserve hbuilt => ⟨fun hup hawake hidle => ?_, fun hstarted hnone => ?_⟩⟩
  · exact ⟨_, exec_mrcmdMrr hfree ch sck rk ma, State.mrCommand_issued hgo 0 h⟩
  · exact ⟨_, exec_mrcmdMrw hfree ch sck rk ma wdata, State.mrCommand_issued hgo wdata h⟩
  · exact ⟨_, exec_mrcmdMrr hfree ch sck rk ma, State.mrCommand_aborted hgo 0 h⟩
  · exact ⟨_, exec_mrcmdMrw hfree ch sck rk ma wdata, State.mrCommand_aborted hgo wdata h⟩
  · rw [exec_zqcalStartDue hserve hbuilt, State.zqStartDue_of_idle hup hawake hidle]
  · rw [exec_zqcalLatchDue hserve hbuilt, State.zqLatchDue_of_started hstarted hnone]

end Sys2Proof.Machine

/-! SUPPORT and settlement of the statement about training (O32). -/

namespace Sys2Proof.Machine

open Sys2Proof

/-! ## The commands in service -/

theorem exec_dramInitDone {s : State} {c : Nat} (h : s.serving = true) (hb : s.chanBuilt c = true) :
    exec (.dramInitDone c) s = .next (s.done (s.dramInitDone c)) := actIf_next hb h _

theorem exec_trainStepDone {s : State} {sc : Nat} (h : s.serving = true) (hb : s.subBuilt sc = true) (res : TrainRes) :
    exec (.trainStepDone sc res) s = .next (s.done (s.trainStep sc res).trainEnd) := actIf_next hb h _

/-! ## Refresh groups begin (R239) -/

/-- A refresh group runs with debt 0. -/
def State.RunsEven (s : State) (k : Nat) : Prop := (s.group k).running = true ∧ (s.group k).debt = 0

theorem State.RunsEven.foldl {α : Type} {f : State → α → State} {l : List α} {s : State} {k : Nat}
    (hkeep : ∀ t a, t.RunsEven k → (f t a).RunsEven k) (h : s.RunsEven k) : (l.foldl f s).RunsEven k :=
  List.foldlRecOn (motive := fun t => t.RunsEven k) l f h fun t ht a _ => hkeep t a ht

/-- A group that one element's step sets running, and every other step leaves so, runs once the list is through. -/
theorem State.foldl_runsEven {α : Type} {f : State → α → State} {l : List α} {a : α} {s : State} {k : Nat} (ha : a ∈ l)
    (hregs : ∀ t x, (f t x).regs = t.regs) (hmake : ∀ t, t.regs = s.regs → (f t a).RunsEven k)
    (hkeep : ∀ t x, t.RunsEven k → (f t x).RunsEven k) : (l.foldl f s).RunsEven k := by
  induction l generalizing s with
  | nil => cases ha
  | cons x l ih =>
    rw [List.foldl_cons]
    rcases List.mem_cons.1 ha with rfl | hmem
    · exact .foldl hkeep (hmake s rfl)
    · exact ih hmem fun t ht => hmake t (ht.trans (hregs s x))

section
variable (s : State) (sc rk : Nat) (t0 : Tempo)

theorem State.startGroup_runsEven (j : Nat) : (s.startGroup sc rk j t0).RunsEven (groupKey sc rk j) := by
  simp [State.RunsEven, State.startGroup]

theorem State.startGroup_regs (j : Nat) : (s.startGroup sc rk j t0).regs = s.regs := rfl

theorem State.RunsEven.startGroup {s : State} {k : Nat} (h : s.RunsEven k) (j : Nat) : (s.startGroup sc rk j t0).RunsEven k := by
  unfold State.RunsEven State.startGroup
  rw [State.setGroup_group]
  split
  · exact ⟨rfl, rfl⟩
  · exact h

theorem State.RunsEven.startRankGroups {s : State} {k : Nat} (h : s.RunsEven k) : (s.startRankGroups sc rk t0).RunsEven k :=
  .foldl (fun _ j ht => ht.startGroup sc rk t0 j) h

theorem State.startRankGroups_runsEven {j : Nat} (hj : j < s.groupsPer (sc / 2)) : (s.startRankGroups sc rk t0).RunsEven (groupKey sc rk j) :=
  State.foldl_runsEven (List.mem_range.2 hj) (fun _ _ => rfl) (fun t _ => t.startGroup_runsEven sc rk t0 j)
    fun _ x ht => ht.startGroup sc rk t0 x

theorem State.startRankGroups_regs : (s.startRankGroups sc rk t0).regs = s.regs :=
  foldl_keeps State.regs (fun t j _ => t.startGroup_regs sc rk t0 j) s

end

theorem State.groupsPer_of_regs {s t : State} (h : t.regs = s.regs) (c : Nat) : t.groupsPer c = s.groupsPer c := by
  unfold State.groupsPer State.allBank State.fbit State.fld State.word
  rw [h]

/-- Every refresh group of a channel's ranks, on one subchannel, begins. -/
def State.startSubGroups (w : State) (rks : List Nat) (sc : Nat) : State := rks.foldl (fun w rk => w.startRankGroups sc rk w.tempo) w

theorem State.startSubGroups_regs (w : State) (rks : List Nat) (sc : Nat) : (w.startSubGroups rks sc).regs = w.regs :=
  foldl_keeps (β := State) (fun t => t.regs) (fun t rk _ => t.startRankGroups_regs sc rk t.tempo) w

theorem State.RunsEven.startSubGroups {w : State} {k : Nat} (h : w.RunsEven k) (rks : List Nat) (sc : Nat) : (w.startSubGroups rks sc).RunsEven k :=
  .foldl (fun t rk ht => ht.startRankGroups sc rk t.tempo) h

theorem State.startSubGroups_runsEven {w : State} {rks : List Nat} {sc rk j : Nat} (hrk : rk ∈ rks) (hj : j < w.groupsPer (sc / 2)) :
    (w.startSubGroups rks sc).RunsEven (groupKey sc rk j) :=
  State.foldl_runsEven hrk (fun t rk => t.startRankGroups_regs sc rk t.tempo)
    (fun t ht => t.startRankGroups_runsEven sc rk t.tempo (by rwa [State.groupsPer_of_regs ht]))
    fun t rk ht => ht.startRankGroups sc rk t.tempo

/-- Refresh runs on every rank of a channel once its DRAM is initialized. -/
def State.refreshBegun (s : State) (c : Nat) : State := [2 * c, 2 * c + 1].foldl (fun w sc => w.startSubGroups (s.ranks c) sc) (s.initRanks c)

theorem State.refreshBegun_runsEven {s : State} {c sc rk j : Nat} (hsc : sc ∈ [2 * c, 2 * c + 1]) (hrk : rk ∈ s.ranks c)
    (hj : j < (s.initRanks c).groupsPer c) : (s.refreshBegun c).RunsEven (groupKey sc rk j) := by
  have hchan : sc / 2 = c := by simp only [List.mem_cons, List.not_mem_nil, or_false] at hsc; omega
  exact State.foldl_runsEven hsc (fun t sc => t.startSubGroups_regs _ sc)
    (fun t ht => State.startSubGroups_runsEven hrk (by rwa [hchan, State.groupsPer_of_regs ht])) fun _ sc ht => ht.startSubGroups _ sc

/-! ## Training begins (R345) -/

theorem State.dramInitDone_of_released {s : State} {c : Nat} (h : (s.phy c).phase = .released) :
    s.dramInitDone c = ((s.refreshBegun c).startTraining c).setFld Reg.GLOB_STAT_PHASE 4 := by
  unfold State.dramInitDone
  rw [if_neg (not_not.2 h)]
  rfl

theorem State.dramInitDone_of_not_released {s : State} {c : Nat} (h : (s.phy c).phase ≠ .released) : s.dramInitDone c = s := if_pos h

theorem State.startTraining_phase (s : State) (c : Nat) : ((s.startTraining c).phy c).phase = .training := by
  simp [State.startTraining, State.setTrainStat]

theorem State.startTraining_group (s : State) (c k : Nat) : (s.startTraining c).group k = s.group k := by
  simp [State.startTraining, State.setTrainStat]

theorem State.setFld_train (s : State) (f : FRef) (v sc : Nat) : (s.setFld f v).train sc = s.train sc := rfl

theorem State.startTraining_train {s : State} {c sc : Nat} (h : sc ∈ [2 * c, 2 * c + 1]) : (s.startTraining c).train sc = ⟨1, 0, 0, []⟩ := by
  simp only [List.mem_cons, List.not_mem_nil, or_false] at h
  rcases h with rfl | rfl <;> simp [State.startTraining, State.setTrainStat, State.setFld_train]

/-! ## An attempt ends (R346, R351) -/

theorem State.trainStep_of_not_training {s : State} {sc : Nat} (h : (s.phy (sc / 2)).phase ≠ .training) (res : TrainRes) : s.trainStep sc res = s :=
  if_pos (.inl h)

/-- While a present channel trains, training has not ended. -/
theorem State.trainEnd_of_training {s : State} {c : Nat} (hpresent : c ∈ s.startup.present) (hphase : (s.phy c).phase = .training) :
    s.trainEnd = s := by
  refine if_neg fun ⟨_, _, hended, _⟩ => ?_
  have hc := List.all_eq_true.1 hended c hpresent
  rw [hphase] at hc
  exact absurd hc (by decide)

/-- The attempt in progress on a subchannel is made once more. -/
def State.repeatAttempt (s : State) (sc : Nat) : State :=
  (s.setTrain sc { s.train sc with tries := (s.train sc).tries + 1 }).set1 Reg.TRAIN_EVT_RETRY

theorem State.repeatAttempt_train (s : State) (sc : Nat) : (s.repeatAttempt sc).train sc = { s.train sc with tries := (s.train sc).tries + 1 } := by
  rw [State.repeatAttempt, State.set1, State.setFld_train, State.setTrain_train, if_pos rfl]

theorem State.repeatAttempt_phy (s : State) (sc c : Nat) : (s.repeatAttempt sc).phy c = s.phy c := by
  rw [State.repeatAttempt, State.set1_phy, State.setTrain_phy]

theorem State.repeatAttempt_startup (s : State) (sc : Nat) : (s.repeatAttempt sc).startup = s.startup := by
  rw [State.repeatAttempt, State.set1_startup, State.setTrain_startup]

/-- The record of the first failure leaves every field of another register. -/
theorem State.trainFail_fld {g : FRef} (hg : g.hi < 32) (hkey : Reg.TRAIN_FAIL_VLD.key ≠ g.key) (s : State) (sc rk step grp reason : Nat) :
    (s.trainFail sc rk step grp reason).fld g = s.fld g := by
  unfold State.trainFail
  split
  · rfl
  · refine State.setFlds_fld_apart _ ?_ s
    simp only [List.forall_mem_cons, List.not_mem_nil, false_implies, implies_true, and_true]
    exact ⟨⟨by decide, hg, .inl hkey⟩, ⟨by decide, hg, .inl hkey⟩, ⟨by decide, hg, .inl hkey⟩, ⟨by decide, hg, .inl hkey⟩,
      ⟨by decide, hg, .inl hkey⟩, ⟨by decide, hg, .inl hkey⟩, ⟨by decide, hg, .inl hkey⟩⟩

theorem State.attempt_runs {s : State} {sc : Nat} (hphase : (s.phy (sc / 2)).phase = .training) (hfirst : 1 ≤ (s.train sc).step)
    (hlast : (s.train sc).step ≤ 7) :
    ¬ ((s.phy (sc / 2)).phase ≠ .training ∨ (s.train sc).step = 0 ∨ 7 < (s.train sc).step) := by
  rintro (h | h | h)
  · exact h hphase
  · omega
  · omega

section
variable {s : State} {sc : Nat} {res : TrainRes} {skip : List Nat} {bad : List Miss}
  (hskip : skip = ((s.train sc).erase.filter (fun e => (s.trainRanks (s.train sc).step (s.train sc).rk).contains e.1)).map (·.2))
  (hbad : bad = s.misses sc (s.train sc).step skip res)
  (hphase : (s.phy (sc / 2)).phase = .training) (hfirst : 1 ≤ (s.train sc).step) (hlast : (s.train sc).step ≤ 7)
include hskip hbad hphase hfirst hlast

/-- An attempt without a miss gives its results to the trims, and training goes on. -/
theorem State.trainStep_of_passed (hnone : bad = []) :
    s.trainStep sc res = (s.useResult sc (s.train sc).step (s.train sc).rk skip res).trainOn sc := by
  simp only [State.trainStep, if_neg (State.attempt_runs hphase hfirst hlast), ← hskip, ← hbad, hnone, List.isEmpty_nil, if_true]

/-- An attempt with a miss is repeated while attempts are left. -/
theorem State.trainStep_of_repeated (hmiss : bad ≠ []) (hleft : (s.train sc).tries < s.fld Reg.TRAIN_CTL_RETRY) :
    s.trainStep sc res = s.repeatAttempt sc := by
  have hsome : ¬ bad.isEmpty = true := by simpa using hmiss
  simp only [State.trainStep, if_neg (State.attempt_runs hphase hfirst hlast), ← hskip, ← hbad, if_neg hsome, if_pos hleft, State.repeatAttempt]

/-- With no attempt left, and no group to be recorded for erasure, the channel fails. -/
theorem State.trainStep_of_failed {m : Miss} {more : List Miss} (hmiss : bad = m :: more) (hleft : s.fld Reg.TRAIN_CTL_RETRY ≤ (s.train sc).tries)
    (hers : s.flag Reg.TRAIN_CTL_ERS_OK = false) :
    s.trainStep sc res = (s.trainFail sc (s.train sc).rk (s.train sc).step m.1 m.2).dropChannel (sc / 2) := by
  have hsome : ¬ bad.isEmpty = true := by simp [hmiss]
  have hm : nth (0xF, 3) bad 0 = m := by rw [hmiss]; rfl
  have hers' : (s.trainFail sc (s.train sc).rk (s.train sc).step m.1 m.2).flag Reg.TRAIN_CTL_ERS_OK = false := by
    rw [State.flag, State.trainFail_fld (by decide) (by decide)]
    exact hers
  simp only [State.trainStep, if_neg (State.attempt_runs hphase hfirst hlast), ← hskip, ← hbad, if_neg hsome, if_neg (not_lt.2 hleft), hm, hers',
    Bool.and_false, Bool.false_and, Bool.false_eq_true, if_false]

end

/-- Settles O32: by the phase of the channel, and by the misses of the attempt. That nothing changes where no such step is in progress is log
entry 4. -/
theorem trainingBeginsAndGoesOn : Obligations.TrainingBeginsAndGoesOn := by
  refine ⟨fun c s hserve hbuilt => ⟨fun hreleased => ?_, fun hnot => ?_⟩, fun sc res s skip bad hserve hbuilt hskip hbad =>
    ⟨fun hphase hfirst hlast => ⟨fun hnone => ?_, fun hmiss hleft hpresent => ?_, fun m more hmiss hleft hers => ?_⟩, fun hnot => ?_⟩⟩
  · rw [exec_dramInitDone hserve hbuilt, State.dramInitDone_of_released hreleased]
    refine ⟨_, rfl, ?_, State.setFld_fld_same _ (by decide) (by decide) (by decide), fun sc hsc => ⟨?_, fun rk hrk j hj => ?_⟩⟩
    · rw [State.setFld_phy, State.startTraining_phase]
    · rw [State.setFld_train, State.startTraining_train hsc]
    · rw [State.setFld_group, State.startTraining_group]
      exact State.refreshBegun_runsEven hsc hrk hj
  · rw [exec_dramInitDone hserve hbuilt, State.dramInitDone_of_not_released hnot]
  · rw [exec_trainStepDone hserve hbuilt, State.trainStep_of_passed hskip hbad hphase hfirst hlast hnone]
  · have hend : (s.repeatAttempt sc).trainEnd = s.repeatAttempt sc :=
      State.trainEnd_of_training (by rwa [State.repeatAttempt_startup]) (by rwa [State.repeatAttempt_phy])
    rw [exec_trainStepDone hserve hbuilt, State.trainStep_of_repeated hskip hbad hphase hfirst hlast hmiss hleft, hend]
    exact ⟨_, rfl, s.repeatAttempt_train sc, State.set1_flag_same _ (by decide) (by decide)⟩
  · rw [exec_trainStepDone hserve hbuilt, State.trainStep_of_failed hskip hbad hphase hfirst hlast hmiss hleft hers]
  · rw [exec_trainStepDone hserve hbuilt, State.trainStep_of_not_training hnot]

end Sys2Proof.Machine

/-! SUPPORT and settlement of the statement about COMMIT and the target sideband (O50). -/

namespace Sys2Proof.Machine

open Sys2Proof

/-! ## The commands in service -/

section
variable {s : State} (h : s.serving = true)
include h

theorem exec_commit (agent : BitVec 4) (page : Nat) (w : Word) :
    exec (.commit agent page w) s = .next (s.done (s.portWrite agent (regKey page 8) (w ||| 1) true true)) := by
  show execCommit agent page w s = _
  unfold execCommit
  rw [act_next h]
  rfl

theorem exec_commitSafePoint (page : Nat) : exec (.commitSafePoint page) s = .next (s.done (s.safePoint page)) := by
  show execCommitSafePoint page s = _
  unfold execCommitSafePoint
  rw [act_next h]

theorem exec_sidebandWrite (bytes : List (BitVec 8)) : exec (.sidebandWrite bytes) s = .next (s.done (s.sideWrite bytes)) := by
  show execSidebandWrite bytes s = _
  unfold execSidebandWrite
  rw [act_next h]

theorem exec_sidebandRead (bytes : List (BitVec 8)) (n : Nat) (upset : BitVec 128) :
    exec (.sidebandRead bytes n upset) s = .next (keepPins s (s.sideRead bytes n upset)) := by
  show execSidebandRead bytes n upset s = _
  unfold execSidebandRead
  rw [serve_next h]

end

/-! ## A write of CTL with COMMIT 1 (R520, R522) -/

/-- A word without bits that are written at once, or staged, is left by a plain write. -/
theorem State.plainWrite_eq_self {p off : Nat} (hactive : accMask p off .rw ||| accMask p off .w1c = 0) (hstaged : accMask p off .rs = 0)
    (s : State) (w : Word) (stage : Bool) : s.plainWrite p off w stage = s := by
  simp [State.plainWrite, hactive, hstaged]

theorem State.setView_heldByOther (s : State) (agent p : Nat) (v : Bool) (other q : Nat) :
    (s.setView agent p v).heldByOther other q = s.heldByOther other q := rfl

/-- On a free page other than CRYP, whose CTL has no bits of its own, the agent's view is set and the page committed. -/
theorem State.ctlWrite_of_commit {s : State} {agent p : Nat} {w : Word} (hclaim : s.claim p = none) (hcryp : p ≠ 6)
    (hactive : accMask p 8 .rw ||| accMask p 8 .w1c = 0) (hstaged : accMask p 8 .rs = 0) (hw : w.getLsbD 0 = true) :
    s.ctlWrite agent p w = (stOk, (s.setView agent p (w.getLsbD 1)).commit p) := by
  have hheld : (s.setView agent p (w.getLsbD 1)).heldByOther agent p = false := by
    rw [State.setView_heldByOther, State.heldByOther, hclaim]
  simp only [State.ctlWrite, State.plainWrite_eq_self hactive hstaged, hheld, hw, hcryp, false_and, Bool.false_and, Bool.not_false,
    Bool.and_true, Bool.false_eq_true, if_false, if_true]

/-- COMMIT over the management port of a tile that stays awake: the effect is answered OK. -/
theorem exec_commit_of_pageFree {s u : State} {agent : BitVec 4} {p : Nat} (hfree : s.pageFree agent p) (hp : p < 0x1C) (hcryp : p ≠ 6)
    (hactive : accMask p 8 .rw ||| accMask p 8 .w1c = 0) (hstaged : accMask p 8 .rs = 0) (w : Word)
    (hu : (s.setView agent.toNat p ((w ||| 1).getLsbD 1)).commit p = u) (hmode : u.mode = s.mode) :
    exec (.commit agent p w) s = .next (s.done u.okAck) := by
  have ⟨hserve, hawake, hagent, hclaim⟩ := hfree
  have hbody : s.writeBody agent.toNat p 8 (w ||| 1) true true = (stOk, u) := by
    rw [State.writeBody, if_pos rfl, State.ctlWrite_of_commit hclaim hcryp hactive hstaged (by simp), hu]
  have hwake : u.wakeWork = u := if_neg fun hall => hawake (hmode.symm.trans hall.1)
  have hbus := State.busWrite_of_pageFree (off := 8) hfree hp (by decide) (w ||| 1) 4 true true
  rw [hbody, hwake] at hbus
  rw [exec_commit hserve, State.portWrite, State.mgtWrite_accepted hagent hbus]
  rfl

/-- On these pages CTL holds nothing but VIEW and COMMIT (R520). -/
theorem accMask_ctl : ∀ p ∈ [0, 1, 2, 3, 4, 0x11, 0x14, 0x17], accMask p 8 .rw ||| accMask p 8 .w1c = 0 ∧ accMask p 8 .rs = 0 := by decide

/-- A page without checks of its own: the copy is kept until its safe point (R522). -/
theorem State.commit_of_plain {p : Nat} (hp : p ∈ [0, 1, 2, 3, 4, 0x14, 0x17]) (s : State) : s.commit p = s.keepCopy p (s.stagedOf p) := by
  simp only [List.mem_cons, List.not_mem_nil, or_false] at hp
  rcases hp with rfl | rfl | rfl | rfl | rfl | rfl | rfl <;> rfl

theorem State.keepCopy_copy {s : State} {c : Copy} (h : s.copyChanges c = true) (p : Nat) : (s.keepCopy p c).copy p = some c := by
  simp [State.copy, State.keepCopy, h]

/-- A copy of TIMG out of range is refused (R212). -/
theorem State.commit_of_timg_bad {s : State} (h : s.timgOk (s.stagedOf 0x11) = false) : s.commit 0x11 = s.set1 Reg.TIMG_EVT_REFUSED :=
  if_pos ⟨rfl, h⟩

theorem State.set1_copy (s : State) (f : FRef) (p : Nat) : (s.set1 f).copy p = s.copy p := rfl

/-! ## The safe point (R522) -/

theorem State.safePoint_of_no_copy {s : State} {p : Nat} (h : s.copy p = none) : s.safePoint p = s := by
  simp only [State.safePoint, h, ite_self]

section
variable {s : State} {p : Nat} {c : Copy} (hcopy : s.copy p = some c) (hmap : p ≠ 7) (hheld : heldPage p = false)
include hcopy hmap hheld

theorem State.safePoint_of_reached (hsafe : s.atSafePoint p = true) (hidle : ¬ (p = 2 ∧ (s.power.idle.isSome = true ∨ s.power.vote.isSome = true))) :
    s.safePoint p = s.applyCopy p c := by
  have hfree : ¬ (p = 7 ∨ heldPage p = true) := by simp [hmap, hheld]
  simp only [State.safePoint, if_neg hfree, hcopy, hsafe, if_neg hidle, Bool.not_true, Bool.false_eq_true, if_false]

theorem State.safePoint_of_not_reached (hsafe : s.atSafePoint p = false) : s.safePoint p = s := by
  have hfree : ¬ (p = 7 ∨ heldPage p = true) := by simp [hmap, hheld]
  simp only [State.safePoint, if_neg hfree, hcopy, hsafe, Bool.not_false, if_true]

end

/-- Where nothing follows on a page's new values, its copy waits no more. -/
theorem State.applyCopy_copy {p : Nat} (hp : p ∈ [0, 3, 4, 0x13, 0x14, 0x17]) (s : State) (c : Copy) : (s.applyCopy p c).copy p = none := by
  have hport : ¬ (8 ≤ p ∧ p < 16) := by simp only [List.mem_cons, List.not_mem_nil, or_false] at hp; omega
  have hafter (t u : State) : t.afterCommit u p = t := by
    simp only [List.mem_cons, List.not_mem_nil, or_false] at hp
    rcases hp with rfl | rfl | rfl | rfl | rfl | rfl <;> rfl
  have hkept : (decide (8 ≤ p) && decide (p < 16)) = false := by simpa using hport
  simp [State.applyCopy, hafter, hkept, State.copy]

/-! ## The target sideband (R527, R528) -/

/-- The word that the last four bytes of a private write spell, the lowest first. -/
def sideWord (bytes : List (BitVec 8)) : Word :=
  BitVec.ofNat 32 ((List.range 4).foldl (fun acc i => acc + (nth 0 bytes (3 + i)).toNat * 256 ^ i) 0)

theorem foldl_add_range_four (g : Nat → Nat) : (List.range 4).foldl (fun acc i => acc + g i) 0 = g 0 + g 1 + g 2 + g 3 := by
  simp [List.range_succ]

/-- A byte is a digit of the word that four bytes make. -/
theorem byte_of_word {b : Nat → Nat} (hb : ∀ i, b i < 256) {i : Nat} (hi : i < 4) :
    (b 0 * 256 ^ 0 + b 1 * 256 ^ 1 + b 2 * 256 ^ 2 + b 3 * 256 ^ 3) % 2 ^ 32 / 256 ^ i % 256 = b i := by
  have h0 := hb 0
  have h1 := hb 1
  have h2 := hb 2
  have h3 := hb 3
  norm_num
  interval_cases i <;> norm_num <;> omega

theorem sideWord_byte (bytes : List (BitVec 8)) : ∀ i < 4, ((sideWord bytes).toNat / 256 ^ i) % 256 = (nth 0 bytes (3 + i)).toNat := by
  intro i hi
  rw [sideWord, foldl_add_range_four fun i => (nth 0 bytes (3 + i)).toNat * 256 ^ i, BitVec.toNat_ofNat]
  exact byte_of_word (b := fun i => (nth 0 bytes (3 + i)).toNat) (fun i => (nth 0 bytes (3 + i)).isLt) hi

section
variable {s x : State} (hx : x = s.wakeEvent 2 false false) {bytes : List (BitVec 8)}
include hx

theorem State.sideWrite_declined (h : bytes.length ≠ 7 ∨ sideAddr bytes = none) : s.sideWrite bytes = x.emit (.sideband 2 0) := by
  have haddr : (if bytes.length = 7 then sideAddr bytes else none) = none := by
    split
    next hlen => exact h.resolve_left (absurd hlen)
    next => rfl
  simp only [State.sideWrite, ← hx, haddr]
  rfl

theorem State.sideWrite_of_addr {a st : Nat} {y : State} (hlen : bytes.length = 7) (haddr : sideAddr bytes = some a)
    (hbus : x.busWrite 2 a (sideWord bytes) 2 true true = (st, y)) : s.sideWrite bytes = y.emit (.sideband (BitVec.ofNat 2 st) 0) := by
  rw [sideWord] at hbus
  simp only [State.sideWrite, ← hx, hlen, haddr, hbus, if_true]

variable {n : Nat} (upset : BitVec 128)

theorem State.sideRead_declined (h : bytes.length ≠ 3 ∨ n ≠ 4 ∧ n ≠ 5 ∨ sideAddr bytes = none) :
    s.sideRead bytes n upset = x.emit (.sideband 2 0) := by
  have haddr : (if bytes.length = 3 ∧ (n = 4 ∨ n = 5) then sideAddr bytes else none) = none := by
    split
    next hlen =>
      rcases h with h | h | h
      · exact absurd hlen.1 h
      · omega
      · exact h
    next => rfl
  simp only [State.sideRead, ← hx, haddr]
  rfl

theorem State.sideRead_of_addr {a st : Nat} {w : Word} {y : State} (hlen : bytes.length = 3) (hn : n = 4 ∨ n = 5) (haddr : sideAddr bytes = some a)
    (hbus : x.busRead 2 a 2 upset = (st, w, y)) : s.sideRead bytes n upset = y.emit (.sideband (BitVec.ofNat 2 st) w) := by
  simp only [State.sideRead, ← hx, if_pos (And.intro hlen hn), haddr, hbus]

end

/-- Settles O50: by the page for COMMIT, and by the address that a transfer spells. That nothing changes without a copy, or before the safe
point, is log entry 4. -/
theorem commitAndSideband : Obligations.CommitAndSideband := by
  refine ⟨fun agent page w s hfree => ⟨fun hpage hchanges _ => ?_, fun htimg hbad => ?_⟩,
    fun page s hserve => ⟨fun c hcopy hmap hheld => ⟨fun hsafe hidle => ⟨?_, fun hpage => s.applyCopy_copy hpage c⟩, fun hsafe => ?_⟩,
      fun hnone => ?_⟩,
    fun bytes s x hserve hx => ⟨fun hbad => ?_, fun a hlen haddr => ?_, fun n upset => ⟨fun hbad => ?_, fun a hlen hn haddr => ?_⟩⟩⟩
  · let v := s.setView agent.toNat page ((w ||| 1).getLsbD 1)
    obtain ⟨hactive, hstaged⟩ := accMask_ctl page (by simp only [List.mem_cons, List.not_mem_nil, or_false] at hpage ⊢; omega)
    have hbounds : page < 0x1C ∧ page ≠ 6 := by simp only [List.mem_cons, List.not_mem_nil, or_false] at hpage; omega
    exact ⟨v.keepCopy page (s.stagedOf page), exec_commit_of_pageFree hfree hbounds.1 hbounds.2 hactive hstaged w (v.commit_of_plain hpage) rfl,
      State.keepCopy_copy (s := v) hchanges page, rfl⟩
  · subst htimg
    let v := s.setView agent.toNat 0x11 ((w ||| 1).getLsbD 1)
    obtain ⟨hactive, hstaged⟩ := accMask_ctl 0x11 (by decide)
    exact ⟨v.set1 Reg.TIMG_EVT_REFUSED,
      exec_commit_of_pageFree hfree (by decide) (by decide) hactive hstaged w (State.commit_of_timg_bad (s := v) hbad) (v.set1_mode _),
      v.set1_copy _ _, v.set1_flag_same (by decide) (by decide)⟩
  · rw [exec_commitSafePoint hserve, State.safePoint_of_reached hcopy hmap hheld hsafe hidle]
  · rw [exec_commitSafePoint hserve, State.safePoint_of_not_reached hcopy hmap hheld hsafe]
  · rw [exec_commitSafePoint hserve, State.safePoint_of_no_copy hnone]
  · rw [exec_sidebandWrite hserve, State.sideWrite_declined hx hbad]
  · rcases hbus : x.busWrite 2 a (sideWord bytes) 2 true true with ⟨st, y⟩
    refine ⟨sideWord bytes, st, y, sideWord_byte bytes, hbus, ?_⟩
    rw [exec_sidebandWrite hserve, State.sideWrite_of_addr hx hlen haddr hbus]
  · rw [exec_sidebandRead hserve, State.sideRead_declined hx upset hbad]
  · rcases hbus : x.busRead 2 a 2 upset with ⟨st, w, y⟩
    refine ⟨w, st, y, rfl, ?_⟩
    rw [exec_sidebandRead hserve, State.sideRead_of_addr hx upset hlen hn haddr hbus]

end Sys2Proof.Machine

/-! SUPPORT and settlement of the statement about refresh increments and the temperature poll (O25). -/

namespace Sys2Proof.Machine

open Sys2Proof

/-! ## The commands in service -/

theorem exec_refreshIncrement {s : State} {sc : Nat} (h : s.serving = true) (hb : s.subBuilt sc = true) (rk : Fin 2) (j : Fin 4) :
    exec (.refreshIncrement sc rk j) s = .next (s.done (s.refreshIncrement sc rk.val j.val)) := actIf_next hb h _

theorem exec_mr4Poll {s : State} (h : s.serving = true) : exec .mr4Poll s = .next (s.done s.mr4Poll) := act_next h _

/-! ## REFRESH_INCREMENT (R239, R240, R242) -/

/-- The time of a group's next increment. -/
def State.incrementDue (s : State) (sc rk j : Nat) : Tempo := (s.group (groupKey sc rk j)).prevInc + ns (s.trefi (2 * (sc / 2) + rk))

/-- A group's record, an event and a fault report stay within the groups, the register store and the collector. -/
theorem State.setGroup_set1_raise_frame {s t : State}
    (h : { t with tempo := s.tempo, wraps := s.wraps, groups := s.groups, regs := s.regs, fault := s.fault } = s) (k : Nat) (x : Group) (f : FRef)
    (n : Nat) (w : Place) :
    { ((t.setGroup k x).set1 f).raise n w with
      tempo := s.tempo, wraps := s.wraps, groups := s.groups, regs := s.regs, fault := s.fault } = s := h

section
variable {s : State} {sc rk j : Nat} (hrun : (s.group (groupKey sc rk j)).running = true) (hup : s.dramUp (sc / 2) = true)
  (hawake : s.rankAwake sc rk = true) (hj : j < s.groupsPer (sc / 2))
include hrun hup hawake hj

/-- A group whose intervals run, by its debt: it is late from the largest postponement on. -/
theorem State.refreshIncrement_of_running :
    s.refreshIncrement sc rk j =
      if (s.refP' : Int) ≤ (s.group (groupKey sc rk j)).debt then
        (((s.advanceTo (s.incrementDue sc rk j)).setGroup (groupKey sc rk j)
          { s.group (groupKey sc rk j) with debt := s.refP' + 1, prevInc := s.incrementDue sc rk j }).set1 Reg.REFD_EVT_REF_LATE).raise 0x0C
            (atBank (sc / 2) (sc % 2) rk 0xF j)
      else (s.advanceTo (s.incrementDue sc rk j)).setGroup (groupKey sc rk j)
        { s.group (groupKey sc rk j) with
          debt := (s.group (groupKey sc rk j)).debt + 1
          prevInc := s.incrementDue sc rk j
          forcedAt := if (s.group (groupKey sc rk j)).debt + 1 = s.refP' then s.incrementDue sc rk j
            else (s.group (groupKey sc rk j)).forcedAt } := by
  have hforcing (d : Tempo) : (s.advanceTo d).refP' = s.refP' := (congrArg State.refP' (s.advanceTo_frame d) :)
  simp only [State.refreshIncrement, State.incrementDue, hrun, hup, hawake, Nat.not_le.2 hj, hforcing, Bool.not_true, decide_false, Bool.or_self,
    Bool.false_eq_true, if_false]

theorem State.refreshIncrement_frame :
    { s.refreshIncrement sc rk j with tempo := s.tempo, wraps := s.wraps, groups := s.groups, regs := s.regs, fault := s.fault } = s := by
  have hmoved : { s.advanceTo (s.incrementDue sc rk j) with
      tempo := s.tempo, wraps := s.wraps, groups := s.groups, regs := s.regs, fault := s.fault } = s :=
    congrArg (fun t : State => { t with groups := s.groups, regs := s.regs, fault := s.fault }) (s.advanceTo_frame _)
  rw [State.refreshIncrement_of_running hrun hup hawake hj]
  split
  · exact State.setGroup_set1_raise_frame hmoved _ _ _ _ _
  · exact hmoved

theorem State.refreshIncrement_prevInc :
    ((s.refreshIncrement sc rk j).group (groupKey sc rk j)).prevInc =
      (s.group (groupKey sc rk j)).prevInc + ns (s.trefi (2 * (sc / 2) + rk)) := by
  rw [State.refreshIncrement_of_running hrun hup hawake hj]
  split <;> simp [State.incrementDue]

/-- Below the largest postponement the debt rises by one, and nothing is late. -/
theorem State.refreshIncrement_of_owed (howed : (s.group (groupKey sc rk j)).debt < s.refP') :
    let u := s.refreshIncrement sc rk j
    (u.group (groupKey sc rk j)).debt = (s.group (groupKey sc rk j)).debt + 1 ∧ u.regs = s.regs ∧ u.fault = s.fault := by
  dsimp only
  rw [State.refreshIncrement_of_running hrun hup hawake hj, if_neg (Int.not_le.2 howed)]
  simp

/-- From there on the debt stops at one above it, and the refresh is late. -/
theorem State.refreshIncrement_of_late (hlate : (s.refP' : Int) ≤ (s.group (groupKey sc rk j)).debt) :
    let u := s.refreshIncrement sc rk j
    (u.group (groupKey sc rk j)).debt = s.refP' + 1 ∧ u.flag Reg.REFD_EVT_REF_LATE = true ∧ ∃ r ∈ u.fault.reports, r.src = 0x0C := by
  dsimp only
  rw [State.refreshIncrement_of_running hrun hup hawake hj, if_pos hlate]
  refine ⟨by simp, ?_, State.exists_report_of_raise _ _ _⟩
  rw [State.raise_flag]
  exact State.set1_flag_same _ (by decide) (by decide)

end

/-! ## What maintenance proposals leave as it was (R222, R244) -/

/-- From `s` to `t` maintenance commands are proposed: proposals join those that wait, and the ranks asleep and all but the subchannels and the
count of tags stand. -/
structure State.OnlyProposes (s t : State) : Prop where
  rest : { t with subs := s.subs, nextTag := s.nextTag } = s
  asleep : ∀ i, (t.sub i).asleep = (s.sub i).asleep
  maint : ∀ i, (s.sub i).maint ⊆ (t.sub i).maint

theorem State.OnlyProposes.refl (s : State) : s.OnlyProposes s := ⟨rfl, fun _ => rfl, fun _ => List.Subset.refl _⟩

theorem State.OnlyProposes.trans {s t u : State} (hst : s.OnlyProposes t) (htu : t.OnlyProposes u) : s.OnlyProposes u where
  rest := (congrArg (fun x : State => { x with subs := s.subs, nextTag := s.nextTag }) htu.rest).trans hst.rest
  asleep i := (htu.asleep i).trans (hst.asleep i)
  maint i := List.Subset.trans (hst.maint i) (htu.maint i)

theorem State.OnlyProposes.foldl {α : Type} {f : State → α → State} (hf : ∀ (t : State) (a : α), t.OnlyProposes (f t a)) (l : List α) (s : State) :
    s.OnlyProposes (l.foldl f s) :=
  List.foldlRecOn (motive := s.OnlyProposes) l f (.refl s) fun t ht a _ => ht.trans (hf t a)

theorem State.onlyProposes_addMaint (s : State) (sc : Nat) (m : Maint) : s.OnlyProposes (s.addMaint sc m) := by
  have hsub (i : Nat) : (s.addMaint sc m).sub i =
      if i = sc then { s.sub sc with maint := (s.sub sc).maint ++ [{ m with tag := s.nextTag }] } else s.sub i := s.setSub_sub sc i _
  refine ⟨rfl, fun i => ?_, fun i => ?_⟩
  · rw [hsub]
    split
    next h => rw [h]
    next => rfl
  · rw [hsub]
    split
    next h => rw [h]; exact List.subset_append_left _ _
    next => exact List.Subset.refl _

section
variable {s t : State} (h : s.OnlyProposes t)
include h

theorem State.OnlyProposes.mode : t.mode = s.mode := (congrArg State.mode h.rest :)

theorem State.OnlyProposes.dramUp (c : Nat) : t.dramUp c = s.dramUp c := (congrArg (State.dramUp · c) h.rest :)

theorem State.OnlyProposes.ranks (c : Nat) : t.ranks c = s.ranks c := (congrArg (State.ranks · c) h.rest :)

theorem State.OnlyProposes.timer (k : Nat) : t.timer k = s.timer k := (congrArg (State.timer · k) h.rest :)

theorem State.OnlyProposes.rankAwake (sc rk : Nat) : t.rankAwake sc rk = s.rankAwake sc rk := by
  rw [State.rankAwake, h.ranks, h.asleep, State.rankAwake]

end

/-! ## What a periodic event leaves as it was -/

section
variable (s : State) (k per : Nat)

theorem State.periodic_mode : (s.periodic k per).mode = s.mode := (congrArg State.mode (s.periodic_frame k per) :)

theorem State.periodic_dramUp (c : Nat) : (s.periodic k per).dramUp c = s.dramUp c := (congrArg (State.dramUp · c) (s.periodic_frame k per) :)

theorem State.periodic_ranks (c : Nat) : (s.periodic k per).ranks c = s.ranks c := (congrArg (State.ranks · c) (s.periodic_frame k per) :)

theorem State.periodic_rankAwake (sc rk : Nat) : (s.periodic k per).rankAwake sc rk = s.rankAwake sc rk :=
  (congrArg (State.rankAwake · sc rk) (s.periodic_frame k per) :)

end

/-- A periodic event that only proposes maintenance: the frame of the two together. -/
theorem State.OnlyProposes.periodic_frame {s t : State} {k per : Nat} (h : (s.periodic k per).OnlyProposes t) :
    { t with subs := s.subs, nextTag := s.nextTag, timers := s.timers, tempo := s.tempo, wraps := s.wraps } = s := by
  have hproposed := congrArg (fun x : State =>
    { x with subs := s.subs, nextTag := s.nextTag, timers := s.timers, tempo := s.tempo, wraps := s.wraps }) h.rest
  exact hproposed.trans (congrArg (fun x : State => { x with subs := s.subs, nextTag := s.nextTag }) (s.periodic_frame k per))

/-! ## MR4_POLL (R244) -/

/-- The poll's read of one rank. -/
def State.mr4Rank (s : State) (sc rk : Nat) : State :=
  if s.dramUp (sc / 2) && s.rankAwake sc rk && s.mode != .halt then
    s.addMaint sc ⟨0, .mrr, rk, 0, 0, false, s.tempo + ns 1000000, 4, 0, 1, false⟩
  else s

/-- The poll's reads of one subchannel. -/
def State.mr4Sub (s : State) (sc : Nat) : State := (s.ranks (sc / 2)).foldl (fun t rk => t.mr4Rank sc rk) s

theorem State.mr4Poll_of_disabled {s : State} (h : s.flag Reg.REFD_RCTL_TEMP_EN = false) : s.mr4Poll = s := if_pos (by simp [h])

theorem State.mr4Poll_of_enabled {s : State} (h : s.flag Reg.REFD_RCTL_TEMP_EN = true) :
    s.mr4Poll = (List.range 8).foldl State.mr4Sub (s.periodic tmrMr4 16000000) := if_neg (by simp [h])

theorem State.onlyProposes_mr4Rank (s : State) (sc rk : Nat) : s.OnlyProposes (s.mr4Rank sc rk) := by
  unfold State.mr4Rank
  split
  · exact s.onlyProposes_addMaint sc _
  · exact .refl s

theorem State.onlyProposes_mr4Sub (s : State) (sc : Nat) : s.OnlyProposes (s.mr4Sub sc) :=
  .foldl (fun t rk => t.onlyProposes_mr4Rank sc rk) _ s

theorem State.onlyProposes_mr4Poll {s : State} (h : s.flag Reg.REFD_RCTL_TEMP_EN = true) :
    (s.periodic tmrMr4 16000000).OnlyProposes s.mr4Poll := by
  rw [State.mr4Poll_of_enabled h]
  exact .foldl State.onlyProposes_mr4Sub _ _

/-- A read of mode register 4 of the rank is proposed. -/
def State.ReadsMr4 (s : State) (sc rk : Nat) : Prop :=
  ∃ m ∈ (s.sub sc).maint, m.cmd = .mrr ∧ m.rk = rk ∧ m.ma = 4 ∧ m.kind = 1 ∧ m.placed = false

theorem State.ReadsMr4.keep {s t : State} {sc rk : Nat} (h : s.ReadsMr4 sc rk) (ht : s.OnlyProposes t) : t.ReadsMr4 sc rk := by
  obtain ⟨m, hm, hread⟩ := h
  exact ⟨m, ht.maint sc hm, hread⟩

/-- Of a list's steps that only propose, one proposes the read: it stands once the list is through. -/
theorem State.foldl_readsMr4 {α : Type} {f : State → α → State} {l : List α} {a : α} {s : State} {sc rk : Nat} (ha : a ∈ l)
    (hstep : ∀ (t : State) (x : α), t.OnlyProposes (f t x)) (hmake : ∀ t, s.OnlyProposes t → (f t a).ReadsMr4 sc rk) :
    (l.foldl f s).ReadsMr4 sc rk := by
  obtain ⟨before, later, rfl⟩ := List.append_of_mem ha
  rw [List.foldl_append, List.foldl_cons]
  exact (hmake _ (.foldl hstep before s)).keep (.foldl hstep later _)

section
variable {s : State} {sc rk : Nat} (hhalt : s.mode ≠ .halt) (hup : s.dramUp (sc / 2) = true) (hawake : s.rankAwake sc rk = true)
include hhalt hup hawake

theorem State.mr4Rank_reads : (s.mr4Rank sc rk).ReadsMr4 sc rk := by
  have hread : s.mr4Rank sc rk = s.addMaint sc ⟨0, .mrr, rk, 0, 0, false, s.tempo + ns 1000000, 4, 0, 1, false⟩ :=
    if_pos (by simp [hup, hawake, hhalt])
  rw [hread, State.ReadsMr4, State.addMaint_maint]
  exact ⟨_, List.mem_append_right _ List.mem_cons_self, rfl, rfl, rfl, rfl, rfl⟩

theorem State.mr4Sub_reads (hrk : rk ∈ s.ranks (sc / 2)) : (s.mr4Sub sc).ReadsMr4 sc rk :=
  State.foldl_readsMr4 hrk (fun t rk => t.onlyProposes_mr4Rank sc rk) fun t ht =>
    State.mr4Rank_reads (by rwa [ht.mode]) (by rwa [ht.dramUp]) (by rwa [ht.rankAwake])

/-- The poll reads every awake rank of a channel whose DRAM is initialized. -/
theorem State.mr4Poll_reads (hen : s.flag Reg.REFD_RCTL_TEMP_EN = true) (hsc : sc < 8) (hrk : rk ∈ s.ranks (sc / 2)) :
    s.mr4Poll.ReadsMr4 sc rk := by
  rw [State.mr4Poll_of_enabled hen]
  exact State.foldl_readsMr4 (List.mem_range.2 hsc) State.onlyProposes_mr4Sub fun t ht =>
    State.mr4Sub_reads (by rwa [ht.mode, State.periodic_mode]) (by rwa [ht.dramUp, State.periodic_dramUp])
      (by rwa [ht.rankAwake, State.periodic_rankAwake]) (by rwa [ht.ranks, State.periodic_ranks])

end

theorem State.mr4Poll_timer {s : State} (h : s.flag Reg.REFD_RCTL_TEMP_EN = true) : s.mr4Poll.timer tmrMr4 = s.timer tmrMr4 + 16000000 := by
  rw [(State.onlyProposes_mr4Poll h).timer, State.periodic_timer]

/-- Settles O25: the increment by whether the debt has reached the largest postponement (log entry 20), the poll by TEMP_EN and then rank by
rank. That both move Tempo to the time due is log entry 3, that the poll's is counted from the poll before log entry 16, and that a poll without
TEMP_EN changes nothing log entry 4. -/
theorem refreshAndTemperature : Obligations.RefreshAndTemperature := by
  refine ⟨fun sc rk j s hserve hbuilt hrun hup hawake hj => ?_, fun s hserve => ⟨fun hoff => ?_, fun hon => ?_⟩⟩
  · exact ⟨_, exec_refreshIncrement hserve hbuilt rk j, State.refreshIncrement_frame hrun hup hawake hj,
      State.refreshIncrement_prevInc hrun hup hawake hj, State.refreshIncrement_of_owed hrun hup hawake hj,
      State.refreshIncrement_of_late hrun hup hawake hj⟩
  · rw [exec_mr4Poll hserve, State.mr4Poll_of_disabled hoff]
  · exact ⟨_, exec_mr4Poll hserve, State.mr4Poll_timer hon,
      fun hhalt sc hsc rk hrk hup hawake => State.mr4Poll_reads hhalt hup hawake hon hsc hrk, (State.onlyProposes_mr4Poll hon).periodic_frame⟩

end Sys2Proof.Machine

/-! SUPPORT and settlement of the statement about ALERT_n and the parity window (O26). -/

namespace Sys2Proof.Machine

open Sys2Proof

/-! ## The commands in service -/

theorem exec_alertN {s : State} {c : Nat} (h : s.serving = true) (hb : s.chanBuilt c = true) (reps : List AlertRep) :
    exec (.alertN c reps) s = .next (s.done (s.alert c reps)) := actIf_next hb h _

theorem exec_parWinExpiry {s : State} {sc : Nat} (h : s.serving = true) (hb : s.subBuilt sc = true) :
    exec (.parWinExpiry sc) s = .next (s.done (s.parExpire sc)) := actIf_next hb h _

/-! ## ALERT_n (R255) -/

theorem State.alert_of_deaf {s : State} {c : Nat} (h : s.alertOn c = false) (reps : List AlertRep) : s.alert c reps = s := if_pos (by simp [h])

/-- What the tile does about an ALERT_n that no rank explains, once the channel's sequence has run. -/
def State.alertUnknown (s : State) (c : Nat) : State := ((s.emit (.moduleStatus c)).set1 Reg.REFD_EVT_ALERT_UNK).raise 0x11 (atChan c)

/-- Without a report the sequence ends in an unknown ALERT_n. -/
theorem State.alert_of_unexplained {s : State} {c : Nat} (h : s.alertOn c = true) : ∃ t : State, s.alert c [] = (t.alertUnknown c).settleAll := by
  simp only [State.alert, h, Bool.not_true, Bool.false_eq_true, if_false, List.any_nil, List.filter_false, List.isEmpty_nil, List.all_eq_true,
    implies_true, if_true]
  exact ⟨_, rfl⟩

theorem State.alertUnknown_flag (s : State) (c : Nat) : (s.alertUnknown c).flag Reg.REFD_EVT_ALERT_UNK = true := by
  rw [State.alertUnknown, State.raise_flag]
  exact State.set1_flag_same _ (by decide) (by decide)

theorem State.alertUnknown_status (s : State) (c : Nat) : .moduleStatus c ∈ (s.alertUnknown c).outputs := by simp [State.alertUnknown]

/-! ## PAR_WIN_EXPIRY (R256, R277, R313) -/

theorem State.demandBad_of_copy {s : State} {q : QE} (h : (s.flag Reg.RPMR_CFG_RR_EN && s.copyUp q.loc.ch q.mir) = true) (mis : Bool) :
    s.demandBad q mis = s.startRepair { q with grp := if mis then 1 else 0 } q.mir q.mtile := if_pos h

theorem State.demandBad_of_no_copy {s : State} {q : QE} (h : (s.flag Reg.RPMR_CFG_RR_EN && s.copyUp q.loc.ch q.mir) = false) (mis : Bool) :
    s.demandBad q mis = (s.countBad q mis).finishRead q .ue zeroLine := if_neg (by simp [h])

/-- The oldest read that waits leaves the wait and is dealt with. -/
theorem State.parExpire_of_waiting {s : State} {sc : Nat} {q : QE} {mis : Bool} {rest : List (Nat × Bool)}
    (hwait : (s.sub sc).parWait = (q.tag, mis) :: rest) (hq : s.qe? q.tag = some q) :
    s.parExpire sc = ((s.setSub sc { s.sub sc with parWait := rest }).demandBad q mis).settleAll := by
  have hkept : (s.setSub sc { s.sub sc with parWait := rest }).qe? q.tag = some q := hq
  simp only [State.parExpire, hwait, hkept]

/-- Settles O26: ALERT_N by whether the channel listens, PAR_WIN_EXPIRY by whether the line has a copy to repair from. That a channel which does
not listen changes nothing is log entry 4. -/
theorem alertAndParityWindow : Obligations.AlertAndParityWindow := by
  refine ⟨fun c s hserve hbuilt => ⟨fun hon => ?_, fun hoff reps => ?_⟩,
    fun sc q mis rest s w hserve hbuilt hwait hq hw => ⟨fun hnone => ?_, fun hcopy => ?_⟩⟩
  · obtain ⟨t, ht⟩ := State.alert_of_unexplained hon
    exact ⟨t.alertUnknown c, by rw [exec_alertN hserve hbuilt, ht], t.alertUnknown_flag c, State.exists_report_of_raise _ _ _,
      t.alertUnknown_status c⟩
  · rw [exec_alertN hserve hbuilt, State.alert_of_deaf hoff]
  · rw [exec_parWinExpiry hserve hbuilt, State.parExpire_of_waiting hwait hq, ← hw, State.demandBad_of_no_copy hnone]
  · rw [exec_parWinExpiry hserve hbuilt, State.parExpire_of_waiting hwait hq, ← hw, State.demandBad_of_copy hcopy]

end Sys2Proof.Machine

/-! SUPPORT and settlement of the statement about scrub visits and passes, tracker expiry and the decay of the device counts (O27). -/

namespace Sys2Proof.Machine

open Sys2Proof

/-! ## The commands in service -/

theorem exec_scrubLineDue {s : State} {c : Nat} (h : s.serving = true) (hb : s.chanBuilt c = true) :
    exec (.scrubLineDue c) s = .next (s.done (s.scrubLine c)) := actIf_next hb h _

theorem exec_scrubPassStart {s : State} {c : Nat} (h : s.serving = true) (hb : s.chanBuilt c = true) :
    exec (.scrubPassStart c) s = .next (s.done (s.scrubPass c)) := actIf_next hb h _

theorem exec_trackerWindowExpiry {s : State} (h : s.serving = true) (i : Nat) :
    exec (.trackerWindowExpiry i) s = .next (s.done (s.trackExpire i)) := by
  show execTrackerWindowExpiry i s = _
  exact act_next h (·.trackExpire i)

theorem exec_deviceCountDecay {s : State} (h : s.serving = true) : exec .deviceCountDecay s = .next (s.done s.decay) := act_next h _

/-! ## SCRUB_LINE_DUE (R282, R284, R381) -/

theorem State.le_longTime_of_advanceLong (s : State) (n : Nat) : n ≤ (s.advanceLong n).longTime := by
  rw [State.advanceLong_longTime]
  exact le_max_right _ _

theorem State.advanceLong_scrubOf (s : State) (n c : Nat) : (s.advanceLong n).scrubOf c = s.scrubOf c :=
  congrArg (fun r : RepairSt => tget scrub0 r.scrub c) (s.advanceLong_repair n)

/-- The rank of a location is under an En Passant mark. -/
def State.epMarked (x : State) (y : Loc) : Bool := (x.erase? (ersIdx y.sc y.rk)).any (·.src == 1)

theorem State.epMarked_of_mark {x : State} {y : Loc} {e : Erase} (he : x.erase? (ersIdx y.sc y.rk) = some e) (hsrc : e.src = 1) :
    x.epMarked y = true := by
  simp [State.epMarked, he, hsrc]

theorem State.epMarked_eq_false {x : State} {y : Loc} (h : ∀ e, x.erase? (ersIdx y.sc y.rk) = some e → e.src ≠ 1) : x.epMarked y = false := by
  rw [State.epMarked, Option.any_eq_false]
  exact fun e he => by simpa using h e he

/-- The scrubber has covered line `l` and stands at the next one. -/
def State.lineCovered (x : State) (c l : Nat) : State := (x.setScrub c { x.scrubOf c with last := x.longTime }).nextScrub c l

/-- The covered line at `y` is read. -/
def State.scrubRead (t : State) (c : Nat) (y : Loc) : State :=
  (t.setScrub c { t.scrubOf c with busy := true }).addQE (mkQE false .scrub y (t.tempo + ns 10000))

theorem State.scrubRead_busy (t : State) (c : Nat) (y : Loc) : ((t.scrubRead c y).scrubOf c).busy = true := by
  have hvisit : (t.scrubRead c y).scrubOf c = { t.scrubOf c with busy := true } := (t.setScrub_scrubOf c c _).trans (if_pos rfl)
  rw [hvisit]

theorem State.scrubRead_read (t : State) (c : Nat) (y : Loc) : ∃ q ∈ (t.scrubRead c y).qes, q.src = .scrub ∧ q.wr = false ∧ q.loc = y :=
  ⟨_, List.mem_append_right _ List.mem_cons_self, rfl, rfl, rfl⟩

theorem State.scrubRead_regs (t : State) (c : Nat) (y : Loc) : (t.scrubRead c y).regs = t.regs := rfl

section
variable {s : State} {c : Nat} (hen : s.flag Reg.ECCS_SCRB_EN = true) (hwork : s.ownWork = true) (hup : s.chUp c = true)
include hen hwork hup

/-- A visit of a pass, by what stands in its way at the time it is made. -/
theorem State.scrubLine_of_running (hrun : (s.scrubOf c).running = true) (hfree : (s.scrubOf c).busy = false) {l : Nat} {x : State}
    (hl : l = s.fld (Reg.ECCS_SCRPOS_POS c)) (hx : x = s.advanceLong (s.scrubDue c l)) :
    s.scrubLine c =
      if x.epMarked (x.placeOf c l) then x
      else if x.fld (Reg.GLOB_FILLWM_WM c) ≤ l ∨ x.scrubSkips (x.placeOf c l) = true then x.lineCovered c l
      else (x.lineCovered c l).scrubRead c (x.placeOf c l) := by
  subst hl
  have hsame : x.scrubOf c = s.scrubOf c := hx ▸ s.advanceLong_scrubOf _ c
  simp only [State.scrubLine, hen, hwork, hup, hrun, hfree, Bool.not_true, Bool.or_self, Bool.false_eq_true, if_false, ← hx, State.lineCovered,
    hsame, State.scrubRead]
  unfold State.epMarked
  cases x.erase? (ersIdx (x.placeOf c (s.fld (Reg.ECCS_SCRPOS_POS c))).sc (x.placeOf c (s.fld (Reg.ECCS_SCRPOS_POS c))).rk) <;> rfl

/-! ## SCRUB_PASS_START (R281, R284) -/

theorem State.scrubPass_of_stopped (hstop : (s.scrubOf c).running = false) {x : State}
    (hx : x = s.advanceLong ((s.scrubOf c).start + (s.scrubOf c).period)) : s.scrubPass c = x.beginPass c x.longTime := by
  simp only [State.scrubPass, hen, hwork, hup, hstop, Bool.not_true, Bool.or_self, Bool.false_eq_true, if_false, hx]

end

theorem State.beginPass_longTime (s : State) (c t : Nat) : (s.beginPass c t).longTime = s.longTime := rfl

theorem State.beginPass_scrubOf (s : State) (c t : Nat) : (s.beginPass c t).scrubOf c = ⟨true, t, s.scrubPeriod, false, 0⟩ :=
  (State.setScrub_scrubOf _ c c _).trans (if_pos rfl)

theorem State.setFld_scrubPos (s : State) (c : Nat) {l : Nat} (hl : l < 2 ^ 32) :
    (s.setFld (Reg.ECCS_SCRPOS_POS c) l).fld (Reg.ECCS_SCRPOS_POS c) = l :=
  s.setFld_fld_same (Nat.zero_le 31) (Nat.lt_succ_self 31) hl

theorem State.beginPass_pos (s : State) (c t : Nat) : (s.beginPass c t).fld (Reg.ECCS_SCRPOS_POS c) = 0 :=
  State.setFld_scrubPos _ c (Nat.two_pow_pos 32)

theorem State.nextScrub_pos {x : State} {c l : Nat} (hmore : l + 1 < (x.chDec c).capacity) (hfits : l + 1 < 2 ^ 32) :
    (x.nextScrub c l).fld (Reg.ECCS_SCRPOS_POS c) = l + 1 := by
  rw [State.nextScrub, if_neg (Nat.not_le.2 hmore)]
  exact x.setFld_scrubPos c hfits

/-! ## TRACKER_WINDOW_EXPIRY (R286) -/

theorem State.trackExpire_track {s : State} {i : Nat} {t : Track} (h : s.track? i = some t) (j : Nat) :
    (s.trackExpire i).track? j = if j = i then none else s.track? j := by
  have hfreed : s.trackExpire i = (s.advanceTo (t.start + ns (1000000 * s.fld Reg.ECCS_RPT_WIN + 1))).setTrack i none := by
    simp only [State.trackExpire, h]
  rw [hfreed, State.setTrack_track, State.track?, State.advanceTo_repair, State.track?]

/-! ## DEVICE_COUNT_DECAY (R288) -/

theorem tget_of_forall_ne {α : Type} {d : α} {t : Tab α} {k : Nat} (h : ∀ e ∈ t, e.1 ≠ k) : tget d t k = d := by
  induction t with
  | nil => rfl
  | cons e t ih =>
    obtain ⟨hne, hrest⟩ := List.forall_mem_cons.1 h
    exact (if_neg hne).trans (ih hrest)

/-- A canonical table through `tmap` reads as its values through the function: no key is listed twice, so a pair left out uncovers none. -/
theorem tget_tmap {α β : Type} [DecidableEq β] {d : α} {d' : β} {f : α → β} (hf : f d = d') {t : Tab α}
    (ht : t.Pairwise (fun a b => a.1 < b.1)) (k : Nat) : tget d' (tmap d' f t) k = f (tget d t k) := by
  induction t with
  | nil => exact hf.symm
  | cons e t ih =>
    obtain ⟨hfirst, hrest⟩ := List.pairwise_cons.1 ht
    have ih := ih hrest
    by_cases hgone : f e.2 = d'
    · have hskip : tmap d' f (e :: t) = tmap d' f t := by simp [tmap, hgone]
      rw [hskip, ih, tget]
      split
      next hk =>
        rw [hgone, tget_of_forall_ne fun a ha => (hk ▸ hfirst a ha).ne', hf]
      next => rfl
    · have hkeep : tmap d' f (e :: t) = (e.1, f e.2) :: tmap d' f t := by simp [tmap, hgone]
      rw [hkeep, tget, tget, ih, apply_ite f]

theorem State.decay_devCnt {s : State} (h : s.fld Reg.ECCS_DEVCFG_DECAY ≠ 0) : s.decay.repair.devCnt = tmap 0 (· - 1) s.repair.devCnt := by
  simp only [State.decay, if_neg h, State.advanceLong_repair, tmap]
  exact List.filter_congr fun e _ => Bool.eq_iff_iff.2 (by simp)

theorem State.decay_devCount {s : State} (h : s.fld Reg.ECCS_DEVCFG_DECAY ≠ 0) (hwf : Tab.wf (fun _ => 0) s.repair.devCnt = true) (i g : Nat) :
    s.decay.devCount i g = s.devCount i g - 1 := by
  obtain ⟨hrising, -⟩ := (Tab.wf_iff_good _ _).1 hwf
  rw [State.devCount, State.decay_devCnt h]
  exact tget_tmap (f := (· - 1)) (Nat.zero_sub 1) hrising _

/-- Settles O27: the visit by what stands in its way (`State.scrubLine_of_running`), the pass by where Tempo stands, the expiry by the write of one
tracker entry, the decay by the values of a canonical table. When a line falls due is log entry 22, and that the commands move Tempo to the time
due log entry 3. -/
theorem scrubTrackerAndDecay : Obligations.ScrubTrackerAndDecay := by
  refine ⟨fun c l s x y hserve hbuilt hen hwork hup hl hx hy => ⟨fun hrun hfree => ?_, fun hstop => ?_⟩,
    fun c l x hmore hfits => State.nextScrub_pos hmore hfits, fun i t s hserve ht => ?_, fun s hserve hdecay hwf => ?_⟩
  · have hvisit := State.scrubLine_of_running hen hwork hup hrun hfree hl hx
    have hcovered : x.lineCovered c l = y := by rw [hy, State.lineCovered, hx, State.advanceLong_scrubOf]
    rw [exec_scrubLineDue hserve hbuilt, hvisit, hcovered]
    refine ⟨hx ▸ s.le_longTime_of_advanceLong _, fun e he hsrc => ?_, fun hunmarked => ?_⟩
    · rw [if_pos (State.epMarked_of_mark he hsrc)]
    · rw [State.epMarked_eq_false hunmarked, if_neg Bool.false_ne_true]
      refine ⟨fun hpass => by rw [if_pos hpass], fun hbelow hidle => ?_⟩
      rw [if_neg (by simp [hbelow, hidle])]
      exact ⟨_, rfl, y.scrubRead_busy c _, y.scrubRead_read c _, y.scrubRead_regs c _⟩
  · refine ⟨_, exec_scrubPassStart hserve hbuilt, ?_⟩
    rw [State.scrubPass_of_stopped hen hwork hup hstop rfl, State.beginPass_scrubOf, State.beginPass_longTime, State.beginPass_pos]
    exact ⟨rfl, rfl, s.le_longTime_of_advanceLong _, rfl⟩
  · exact ⟨_, exec_trackerWindowExpiry hserve i, (State.trackExpire_track ht i).trans (if_pos rfl),
      fun j hj => (State.trackExpire_track ht j).trans (if_neg hj)⟩
  · exact ⟨_, exec_deviceCountDecay hserve, State.decay_devCount hdecay hwf⟩

end Sys2Proof.Machine

/-! SUPPORT and settlement of the statement about CASTLE and REMAP_COPY_COMPLETE (O29). -/

namespace Sys2Proof.Machine

open Sys2Proof

/-! ## CASTLE (R316, R317, R325) -/

/-- The bits of RPMR_MCTL are write-only, so on a free page its write is what it triggers, answered OK (R515, R524). -/
theorem State.portWrite_rpmrMctl {s : State} {agent : BitVec 4} (hfree : s.pageFree agent 0x15) (w : Word) :
    s.portWrite agent Reg.RPMR_MCTL_CASTLE.key w true true = (s.mctlWrite w).wakeWork.okAck := by
  have ⟨_, _, hagent, hclaim⟩ := hfree
  have hplain : s.plainWrite 0x15 0x048 w true = s := State.plainWrite_eq_self (by decide) (by decide) s w true
  have hown : s.ownWrite agent.toNat 0x15 0x048 w true true = none := by simp [State.ownWrite]
  have hbody : s.writeBody agent.toNat 0x15 0x048 w true true = (stOk, s.mctlWrite w) := by
    rw [State.writeBody_plain hclaim (by decide) rfl (by decide) (by decide) (by decide) hown, hplain]
    simp [State.triggers]
  have hbus := State.busWrite_of_pageFree hfree (by decide) (show 0x048 < 0x1000 by decide) w 4 true true
  rw [hbody] at hbus
  exact State.mgtWrite_accepted hagent hbus

/-- The word that the command CASTLE of one channel writes. -/
def castleWord (c : Fin 4) : Word := wordOf [(Reg.RPMR_MCTL_CASTLE, (BitVec.ofNat 4 (2 ^ c.val)).toNat)]

/-- It names that channel to be settled, and none to be retired. -/
theorem castleWord_names (c : Fin 4) :
    (List.range 4).filter (Reg.RPMR_MCTL_CASTLE.get (castleWord c)).testBit = [c.val] ∧
      (List.range 4).filter (Reg.RPMR_MCTL_RETIRE.get (castleWord c)).testBit = [] := by
  revert c
  decide

theorem State.mctlWrite_castleWord (s : State) (c : Fin 4) : s.mctlWrite (castleWord c) = (s.castleWrite c.val).fillSettle := by
  obtain ⟨hcastle, hretire⟩ := castleWord_names c
  rw [State.mctlWrite, ← List.foldl_filter, hretire, ← List.foldl_filter, hcastle]
  rfl

theorem exec_castle {s : State} {agent : BitVec 4} (hfree : s.pageFree agent 0x15) (c : Fin 4) :
    exec (.castle agent (BitVec.ofNat 4 (2 ^ c.val))) s = .next (s.done ((s.castleWrite c.val).fillSettle.wakeWork.okAck)) := by
  show execCastle agent (BitVec.ofNat 4 (2 ^ c.val)) s = _
  unfold execCastle
  rw [act_next hfree.1, State.portWrite_rpmrMctl hfree]
  exact congrArg (fun u : State => Host.Outcome.next (s.done u.wakeWork.okAck)) (s.mctlWrite_castleWord c)

/-- Firmware consents to the Castling of channel `c`. -/
def State.consent (s : State) (c : Nat) : State :=
  { s with repair := { s.repair with asked := s.repair.asked.filter (· != c) ++ [c] } }

/-- The channels asked for aside, a channel that serves is settled with firmware's consent: its peer is lost where that is awaited, and else the
channel itself has failed. -/
theorem State.castleWrite_of_chUp {s : State} {c : Nat} (hup : s.chUp c = true) :
    { s.castleWrite c with repair := { (s.castleWrite c).repair with asked := [] } } =
      (let x := if s.repair.peerWait && s.crossChannels.contains c then (s.consent c).losePeer else (s.consent c).chanFails c true
       { x with repair := { x.repair with asked := [] } }) := by
  have hserves : ¬ (!s.chUp c) = true := by simp [hup]
  rw [State.castleWrite, if_neg hserves]
  rfl

/-! ## What proposals and resumed runs leave of a remap (R304, R306, R370) -/

/-- From `s` to `t` the remap table, the fault reports and RPMR_EVT.REMAP stay as they are. -/
structure State.KeepsRemap (s t : State) : Prop where
  remap : t.repair.remap = s.repair.remap
  reports : t.fault.reports = s.fault.reports
  event : t.flag Reg.RPMR_EVT_REMAP = s.flag Reg.RPMR_EVT_REMAP

theorem State.KeepsRemap.refl (s : State) : s.KeepsRemap s := ⟨rfl, rfl, rfl⟩

theorem State.KeepsRemap.trans {s t u : State} (hst : s.KeepsRemap t) (htu : t.KeepsRemap u) : s.KeepsRemap u :=
  ⟨htu.remap.trans hst.remap, htu.reports.trans hst.reports, htu.event.trans hst.event⟩

theorem State.KeepsRemap.foldl {α : Type} {f : State → α → State} (hf : ∀ (t : State) (a : α), t.KeepsRemap (f t a)) (l : List α) (s : State) :
    s.KeepsRemap (l.foldl f s) :=
  List.foldlRecOn (motive := s.KeepsRemap) l f (.refl s) fun t ht a _ => ht.trans (hf t a)

/-- A write of a field apart from the event bit. -/
theorem State.keepsRemap_setFld (s : State) {f : FRef} (h : f.Apart Reg.RPMR_EVT_REMAP) (v : Nat) : s.KeepsRemap (s.setFld f v) where
  remap := rfl
  reports := rfl
  event := congrArg (· != 0) (State.setFld_fld_apart h s v)

theorem State.keepsRemap_setErase (s : State) (i : Nat) (x : Option Erase) : s.KeepsRemap (s.setErase i x) := ⟨rfl, rfl, rfl⟩

theorem State.keepsRemap_setEp (s : State) (c : Nat) (x : EpCh) : s.KeepsRemap (s.setEp c x) := ⟨rfl, rfl, rfl⟩

theorem State.keepsRemap_setEpRank (s : State) (sc rk : Nat) (x : Option EpRank) : s.KeepsRemap (s.setEpRank sc rk x) :=
  s.keepsRemap_setEp _ _

theorem State.keepsRemap_propose (s : State) (r : RowId) (reason mask : Nat) : s.KeepsRemap (s.propose r reason mask) := by
  unfold State.propose
  split
  · exact .refl s
  split
  · exact s.keepsRemap_setFld (by decide) 1
  next i _ =>
    have hproposed : s.KeepsRemap { s with repair := { s.repair with props := tput none i (some ⟨r, reason, mask⟩) s.repair.props } } :=
      ⟨rfl, rfl, rfl⟩
    exact hproposed.trans (State.keepsRemap_setFld _ (by decide) 1)

theorem State.keepsRemap_rmGoEnd (s : State) : s.KeepsRemap s.rmGoEnd := by
  rw [State.rmGoEnd]
  split
  · exact .refl s
  · exact s.keepsRemap_setFld (by decide) 0

/-- The time a pass was last made stands on a channel's part of page BOOK. -/
theorem BOOK_PASS_LAST_apart (c : Nat) : (Reg.BOOK_PASS_LAST c).Apart Reg.RPMR_EVT_REMAP := by
  refine ⟨show 31 < 32 by decide, by decide, .inl ?_⟩
  simp only [FRef.key, regKey, Reg.BOOK_PASS_LAST, Reg.RPMR_EVT_REMAP]
  omega

theorem State.keepsRemap_epEnd (s : State) (c : Nat) : s.KeepsRemap (s.epEnd c) := by
  rw [State.epEnd]
  split
  · exact ((s.keepsRemap_setEp c _).trans (State.keepsRemap_setFld _ (BOOK_PASS_LAST_apart c) _)).trans (State.keepsRemap_setFld _ (by decide) 1)
  · exact .refl s

/-- The run in turn of a rank begins, whatever runs are passed over before it. -/
theorem State.keepsRemap_epBegin (s : State) (sc rk fuel : Nat) : s.KeepsRemap (s.epBegin sc rk fuel) := by
  induction fuel generalizing s with
  | zero => exact .refl s
  | succ fuel ih =>
    have hset := s.keepsRemap_setEpRank sc rk
    rw [State.epBegin]
    split
    · exact .refl s
    split
    · exact .refl s
    · exact s.keepsRemap_epEnd _
    dsimp only
    split
    · split
      · exact (hset _).trans (ih _)
      split
      · exact hset _
      · exact ((s.keepsRemap_setFld (by decide) 1).trans (State.keepsRemap_setEpRank _ sc rk _)).trans (ih _)
    · split
      · exact hset _
      · exact (s.keepsRemap_setErase _ _).trans (State.keepsRemap_setEpRank _ sc rk _)

theorem State.keepsRemap_epResume (s : State) (c : Nat) : s.KeepsRemap (s.epResume c) :=
  .foldl (fun _ sc => .foldl (fun t rk => by
    split
    · exact t.keepsRemap_epBegin sc rk 24
    · exact .refl t) _ _) _ s

/-! ## REMAP_COPY_COMPLETE (R306, R321) -/

theorem exec_remapCopyComplete {s : State} (h : s.serving = true) (i : Nat) (rows mirror : List Burst) :
    exec (.remapCopyComplete i rows mirror) s = .next (s.done (s.remapDone i rows mirror)) := by
  show execRemapCopyComplete i rows mirror s = _
  exact act_next h (·.remapDone i rows mirror)

/-- Remap entry `i` redirects its row from now on. -/
def State.redirectRow (s : State) (i : Nat) (m : Remap) : State :=
  { s with repair := { s.repair with remap := tput none i (some { m with vld := true, copy := false }) s.repair.remap } }

/-- A remap is recorded, counted and shown. -/
def State.remapShown (s : State) (r : RowId) : State :=
  ((s.raise 0x18 (atBank r.ch r.sck r.rk 0xF r.bk)).bump Reg.RPMR_CNT0_RMAP).set1 Reg.RPMR_EVT_REMAP

section
variable {s : State} {i : Nat} {m : Remap} (hm : tget none s.repair.remap i = some m) (rows mirror : List Burst)
include hm

theorem State.remapDone_of_waiting (hwait : s.copyWaits m.id = true) : s.remapDone i rows mirror = s := by
  simp [State.remapDone, hm, hwait]

/-- A copy that nothing holds back: once the chunks are copied the row is redirected, the bank's entries are placed anew, and the remap is shown. -/
theorem State.remapDone_of_free (hcopy : m.copy = true) (hfree : s.copyWaits m.id = false) (hon : s.latticeOn m.id.ch = true) :
    ∃ (t : State) (which : QE → Bool) (place : QE → QE),
      (((t.redirectRow i m).mapQEs which place).remapShown m.id).KeepsRemap (s.remapDone i rows mirror) := by
  simp only [State.remapDone, hm, hcopy, hfree, hon, Bool.not_true, Bool.or_self, Bool.false_eq_true, if_false]
  exact ⟨_, _, _, ((State.keepsRemap_propose _ _ _ _).trans (State.keepsRemap_epResume _ _)).trans (State.keepsRemap_rmGoEnd _)⟩

end

theorem State.redirectRow_remap (s : State) (i : Nat) (m : Remap) :
    tget none (s.redirectRow i m).repair.remap i = some { m with vld := true, copy := false } := by
  rw [State.redirectRow, tget_tput, if_pos rfl]

theorem State.remapShown_flag (s : State) (r : RowId) : (s.remapShown r).flag Reg.RPMR_EVT_REMAP = true :=
  State.set1_flag_same _ (by decide) (by decide)

theorem State.remapShown_report (s : State) (r : RowId) : ∃ x ∈ (s.remapShown r).fault.reports, x.src = 0x18 := by
  rw [State.remapShown, State.set1_fault, State.bump_fault]
  exact s.exists_report_of_raise 0x18 _

/-- Settles O29: CASTLE is the write of one bit of RPMR_MCTL (`State.mctlWrite_castleWord`), the end of a copy one write of the remap table that
nothing after it undoes (`State.KeepsRemap`). -/
theorem castleAndRemap : Obligations.CastleAndRemap := by
  refine ⟨fun agent c s a hfree hup ha => ?_, fun i m rows mirror s hserve hm hcopy => ⟨fun hnone hon => ?_, fun hwait => ?_⟩⟩
  · subst ha
    exact ⟨s.castleWrite c.val, exec_castle hfree c, State.castleWrite_of_chUp hup⟩
  · obtain ⟨t, which, place, hkept⟩ := State.remapDone_of_free hm rows mirror hcopy hnone hon
    refine ⟨_, exec_remapCopyComplete hserve i rows mirror, ?_, ?_, ?_⟩
    · rw [hkept.remap]
      exact t.redirectRow_remap i m
    · rw [hkept.event, State.remapShown_flag]
    · rw [hkept.reports]
      exact State.remapShown_report _ _
  · rw [exec_remapCopyComplete hserve, State.remapDone_of_waiting hm rows mirror hwait]

end Sys2Proof.Machine

/-! SUPPORT and settlement of the statement about PPR results and fill lines (O33). -/

namespace Sys2Proof.Machine

open Sys2Proof

/-! ## PPR_ENTRY_DONE (R302, R328) -/

theorem exec_pprEntryDone {s : State} (h : s.serving = true) (n : Nat) (spare clean : Bool) :
    exec (.pprEntryDone n spare clean) s = .next (s.done (s.pprDone n spare clean)) := by
  show execPprEntryDone n spare clean s = _
  exact act_next h (·.pprDone n spare clean)

theorem State.pprState_startup_ppr (s : State) (n v : Nat) : (s.pprState n v).startup.ppr = s.startup.ppr := by
  unfold State.pprState
  dsimp only
  split <;> rfl

/-- The result stands in the two bits of STATE (R328). -/
theorem State.pprState_pprWord (s : State) (n v : Nat) : (s.pprState n v).pprWord n 1 / 2 ^ 30 = v := by
  have hput : (s.pprState n v).pprWord n 1 = s.pprWord n 1 % 2 ^ 30 + v * 2 ^ 30 := by
    unfold State.pprState
    dsimp only
    split <;> simp [State.pprWord]
  rw [hput]
  omega

/-- Entry `n` has its result and is in progress no longer. -/
def State.pprEntryEnded (s : State) (n v : Nat) : State :=
  let t := s.pprState n v
  { t with startup := { t.startup with ppr := t.startup.ppr.filter (· != n) } }

theorem State.pprEntryEnded_ppr (s : State) (n v : Nat) : (s.pprEntryEnded n v).startup.ppr = s.startup.ppr.filter (· != n) :=
  congrArg (List.filter (· != n)) (s.pprState_startup_ppr n v)

theorem State.pprEntryEnded_pprWord (s : State) (n v : Nat) : (s.pprEntryEnded n v).pprWord n 1 / 2 ^ 30 = v := s.pprState_pprWord n v

section
variable {s : State} {n : Nat} (spare clean : Bool)

/-- The entry in progress on its channel ends, and with the last one the step. -/
theorem State.pprDone_of_current (h : s.startup.ppr.find? (fun m => s.pprCh m == s.pprCh n) = some n) {w : State}
    (hw : w = s.pprEntryEnded n (if !spare then 2 else if clean then 1 else 3)) :
    s.pprDone n spare clean = if w.startup.ppr = [] then w.pprEnd else w := by
  rw [State.pprDone, if_neg (not_not_intro h), hw]
  simp only [List.isEmpty_iff]
  rfl

theorem State.pprDone_of_other (h : s.startup.ppr.find? (fun m => s.pprCh m == s.pprCh n) ≠ some n) : s.pprDone n spare clean = s := if_pos h

end

/-! ## FILL_LINE_WRITE (R446) -/

theorem exec_fillLineWrite {s : State} {c : Nat} (h : s.serving = true) (hb : s.chanBuilt c = true) :
    exec (.fillLineWrite c) s = .next (s.done (s.fillLine c)) := actIf_next hb h _

theorem State.fillLine_of_idle {s : State} (h : s.startup.filling = false) (c : Nat) : s.fillLine c = s := if_pos (by simp [h])

/-- The write of channel `c`'s fill line `l`, due at `d`, is proposed; the next one follows it. -/
def State.proposeFill (s : State) (c l : Nat) (d : Tempo) : State :=
  let t := s.addQE { mkQE true .fill (s.placeOf c l) d with pay := .fill }
  { t with startup := { t.startup with fillNext := tput 0 c (l + 1) t.startup.fillNext } }

theorem State.proposeFill_next (s : State) (c l : Nat) (d : Tempo) : tget 0 (s.proposeFill c l d).startup.fillNext c = l + 1 := by
  rw [State.proposeFill, tget_tput, if_pos rfl]

theorem State.proposeFill_write (s : State) (c l : Nat) (d : Tempo) :
    ∃ q ∈ (s.proposeFill c l d).qes, q.src = .fill ∧ q.wr = true ∧ q.pay = .fill ∧ q.loc = s.placeOf c l :=
  ⟨_, List.mem_append_right _ List.mem_cons_self, rfl, rfl, rfl, rfl⟩

/-- While the fill runs on a channel that has lines left and none outstanding. -/
theorem State.fillLine_of_filling {s : State} {c : Nat} (hfill : s.startup.filling = true) (hon : s.startup.fillOn.contains c = true)
    (hlattice : s.latticeOn c = true) (hleft : s.fbit Reg.GLOB_FILLST_DONE c = false)
    (hnone : s.qes.any (fun q => q.src == .fill && q.loc.ch == c) = false) :
    ∃ d : Tempo, s.fillLine c = s.proposeFill c (tget 0 s.startup.fillNext c) d := by
  simp only [State.fillLine, hfill, hon, hlattice, hleft, hnone, Bool.not_true, Bool.or_self, Bool.false_eq_true, if_false]
  exact ⟨_, rfl⟩

/-- Settles O33: the result by whether the entry is the one in progress on its channel, the fill line by whether the fill runs. That the commands
change nothing otherwise is log entry 4. -/
theorem pprResultsAndFillLines : Obligations.PprResultsAndFillLines := by
  refine ⟨fun n spare clean s hserve => ⟨fun hcurrent => ?_, fun hother => ?_⟩,
    fun c s hserve hbuilt => ⟨fun hfill hon hlattice hleft hnone => ?_, fun hidle => ?_⟩⟩
  · exact ⟨_, by rw [exec_pprEntryDone hserve, State.pprDone_of_current spare clean hcurrent rfl], s.pprEntryEnded_ppr n _,
      s.pprEntryEnded_pprWord n _⟩
  · rw [exec_pprEntryDone hserve, State.pprDone_of_other spare clean hother]
  · obtain ⟨d, hproposed⟩ := State.fillLine_of_filling hfill hon hlattice hleft hnone
    exact ⟨_, by rw [exec_fillLineWrite hserve hbuilt, hproposed], s.proposeFill_next c _ d, s.proposeFill_write c _ d⟩
  · rw [exec_fillLineWrite hserve hbuilt, State.fillLine_of_idle hidle]

end Sys2Proof.Machine

/-! SUPPORT and settlements of the statements about the step, the run, and what no command reaches past (O1, O3, O5-O8). -/

namespace Sys2Proof.Machine

open Sys2Proof

/-! ## The step and the run -/

theorem step_of_pending_cons {s : State} {c : Instr} {rest : List Instr} (h : s.pending = c :: rest) :
    step s = exec c { s with pending := rest } := by
  simp only [step, h]

/-- Settles O1: it is the step's own equation on a queue that is not empty. -/
theorem stepRunsFront : Obligations.StepRunsFront := fun _ _ _ => step_of_pending_cons rfl

/-- A step that goes on has idled, or has run the front of the queue on the rest. -/
theorem step_cases {s t : State} (h : step s = .next t) :
    (s.pending = [] ∧ t = idleStep s) ∨ ∃ c rest, s.pending = c :: rest ∧ exec c { s with pending := rest } = .next t := by
  cases hp : s.pending with
  | nil => exact .inl ⟨rfl, (Host.Outcome.next.inj ((step_of_pending_nil hp).symm.trans h)).symm⟩
  | cons c rest => exact .inr ⟨c, rest, rfl, (step_of_pending_cons hp).symm.trans h⟩

/-- A run of one step more goes on from the first step. -/
theorem run_succ {n : Nat} {s t : State} (h : Host.Core.run core (n + 1) s = .next t) :
    ∃ u, step s = .next u ∧ Host.Core.run core n u = .next t := by
  cases hs : step s with
  | next u => exact ⟨u, rfl, by simpa only [Host.Core.run, Host.Check.core_step, hs] using h⟩
  | fault r => simp [Host.Core.run, Host.Check.core_step, hs] at h
  | refused r => simp [Host.Core.run, Host.Check.core_step, hs] at h

/-! ## What every command keeps (R530) -/

/-- What the configurator built, and the commands that wait. -/
def State.given (s : State) : Build × List Instr := (s.build, s.pending)

theorem State.resetAssert_given (s : State) : s.resetAssert.given = s.given := by
  cases h : s.resetN with
  | false => rw [State.resetAssert_of_low h]
  | true => rw [State.resetAssert_of_high h]; rfl

theorem State.OnlySends.given {s t : State} (h : s.OnlySends t) : t.given = s.given := (congrArg State.given h.rest :)

theorem State.joinRing_given (s : State) (anchor : Bool) : (s.joinRing anchor).given = s.given := by
  unfold State.joinRing
  split
  · rfl
  split
  · exact (s.onlySends_sendOn true 0x01 0 false 0 []).given
  · exact (s.onlySends_send 0x03 0 0 []).given

theorem State.resetRelease_given (s : State) (anchor : Bool) : (s.resetRelease anchor).given = s.given := by
  cases h : s.resetN with
  | true => rw [State.resetRelease_of_high h]
  | false =>
    rw [State.resetRelease_of_low h, State.joinRing_given]
    exact (congrArg State.given (s.pinRisen anchor).absentMarked_frame :)

theorem exec_given {c : Instr} {s t : State} (h : exec c s = .next t) : t.given = s.given := by
  by_cases hreset : isReset c = true
  · cases c <;> simp only [isReset, Bool.false_eq_true] at hreset
    case tileResetRelease anchor => cases h; exact s.resetRelease_given anchor
    case tileResetAssert => cases h; exact s.resetAssert_given
  by_cases htap : isTap c = true
  · obtain ⟨-, u, rfl⟩ | ⟨hframe, -⟩ := tap_shape c s t h htap
    · rfl
    · exact (congrArg State.given hframe :)
  · obtain ⟨-, u, rfl⟩ | ⟨-, rfl⟩ := exec_shape c s t h (by simpa using hreset) (by simpa using htap) <;> rfl

theorem step_given {s t : State} (h : step s = .next t) : t.given = (s.build, s.pending.drop 1) := by
  obtain ⟨hempty, rfl⟩ | ⟨c, rest, hp, hexec⟩ := step_cases h
  · rw [State.given, idle_build, idle_pending, hempty, List.drop_nil]
  · rw [exec_given hexec, hp]; rfl

theorem run_given {n : Nat} {s t : State} (h : Host.Core.run core n s = .next t) : t.given = (s.build, s.pending.drop n) := by
  induction n generalizing s with
  | zero => cases h; rfl
  | succ n ih =>
    obtain ⟨u, hstep, hrun⟩ := run_succ h
    obtain ⟨hbuild, hpending⟩ := Prod.mk.inj (step_given hstep)
    rw [ih hrun, hbuild, hpending, List.drop_drop, Nat.add_comm]

/-- Settles O3, by induction on the steps: no command changes what was built or the queue it was taken from. -/
theorem stepsKeepBuildAndOrder : Obligations.StepsKeepBuildAndOrder :=
  ⟨fun _ _ _ h => (Prod.mk.inj (run_given h)).2, fun _ _ _ h => (Prod.mk.inj (run_given h)).1⟩

/-! ## TILE_RESET_n low (R537) -/

/-- Settles O5: every field of the reset state is as written there. -/
theorem resetIsBlank : Obligations.ResetIsBlank := by
  have hblank : State.reset.blank :=
    ⟨rfl, rfl, rfl, rfl, rfl, rfl, rfl, rfl, rfl, fun _ => rfl, rfl, rfl, rfl, rfl, rfl, rfl, rfl, rfl, rfl, rfl, rfl, rfl, rfl, rfl, rfl,
      rfl, rfl⟩
  exact ⟨hblank, fun _ => hblank, rfl⟩

/-- The state but for time, the test port and scan, what has left the tile and what waits to be commanded. -/
def State.tileOf (s : State) : State := { s with tempo := 0, wraps := 0, tap := ⟨0, none, 0⟩, frozen := false, outputs := [], pending := [] }

theorem State.heldInReset_congr {s t : State} (h : t.tileOf = s.tileOf) (hs : s.heldInReset) : t.heldInReset := by
  have hheld : s.tileOf.heldInReset := hs
  rw [← h] at hheld
  exact hheld

theorem State.idleStep_tileOf (s : State) : (idleStep s).tileOf = s.tileOf := by
  unfold State.tileOf idleStep State.advanceLong
  split <;> rfl

theorem State.resetAssert_heldInReset {s : State} (h : s.heldInReset) : s.resetAssert.heldInReset := by
  cases hpin : s.resetN with
  | false => rwa [State.resetAssert_of_low hpin]
  | true => rw [State.resetAssert_of_high hpin]; exact fun _ => s.resetValues_blank _

theorem State.resetRelease_heldInReset (s : State) (anchor : Bool) : (s.resetRelease anchor).heldInReset := by
  intro hlow
  cases hpin : s.resetN with
  | true => rw [State.resetRelease_of_high hpin, hpin] at hlow; cases hlow
  | false =>
    rw [State.resetRelease_of_low hpin, (State.joinRing_joins _ anchor).resetN, State.released_resetN] at hlow
    cases hlow

/-- In service the pin is high. -/
theorem State.keepPins_heldInReset {s : State} (h : s.serving = true) (u : State) : (keepPins s u).heldInReset := by
  intro hlow
  rw [keepPins_resetN] at hlow
  simp [State.serving, hlow] at h

theorem exec_heldInReset {c : Instr} {s t : State} (hs : s.heldInReset) (h : exec c s = .next t) : t.heldInReset := by
  by_cases hreset : isReset c = true
  · cases c <;> simp only [isReset, Bool.false_eq_true] at hreset
    case tileResetRelease anchor => cases h; exact s.resetRelease_heldInReset anchor
    case tileResetAssert => cases h; exact State.resetAssert_heldInReset hs
  by_cases htap : isTap c = true
  · obtain ⟨hserve, u, rfl⟩ | ⟨hframe, -⟩ := tap_shape c s t h htap
    · exact State.keepPins_heldInReset hserve u
    · exact State.heldInReset_congr (congrArg State.tileOf hframe :) hs
  · obtain ⟨hserve, u, rfl⟩ | ⟨-, rfl⟩ := exec_shape c s t h (by simpa using hreset) (by simpa using htap)
    · exact State.keepPins_heldInReset hserve u
    · exact hs

/-- Settles O6: a command in service finds the pin high and leaves it so; out of service only the reset's own commands and the test port's
change anything, and of those only the fall leaves the pin low, with the reset values in place. -/
theorem heldInResetInvariant : Obligations.HeldInResetInvariant := by
  intro s t hs h
  obtain ⟨-, rfl⟩ | ⟨c, rest, -, hexec⟩ := step_cases h
  · exact State.heldInReset_congr s.idleStep_tileOf hs
  · exact exec_heldInReset (s := { s with pending := rest }) hs hexec

/-! ## Out of service (R530, R537, R542) -/

/-- A command finds nothing to do, or names a unit not built. -/
def IdleOrUnbuilt (s : State) (o : Host.Outcome State Fault Refusal) : Prop := o = .next s ∨ o = .fault .unitNotBuilt

section
variable {s : State} (h : s.serving = false)
include h

theorem serve_idle (f : State → State) : IdleOrUnbuilt s (serve s f) := .inl (by simp [serve, h])

theorem act_idle (f : State → State) : IdleOrUnbuilt s (act s f) := .inl (by simp [act, h])

theorem actIf_idle (b : Bool) (f : State → State) : IdleOrUnbuilt s (actIf b s f) := by
  cases b with
  | false => exact .inr rfl
  | true => exact act_idle h f

/-- Every command but the reset's and the test port's is an effect in service: one that asks nothing of the build, with or without what follows
at once, or one of a unit that has to be built. -/
theorem exec_idle {c : Instr} (hreset : isReset c = false) (htap : isTap c = false) : IdleOrUnbuilt s (exec c s) := by
  cases c
  all_goals simp only [exec]
  case tileResetRelease | tileResetAssert => simp [isReset] at hreset
  case bypass | idcode | samplePreload | extest | scanEn => simp [isTap] at htap
  case mrcmdMrr | mrcmdMrw | eccsInjArm | thermalPoll | sideDxferRead | sideDxferWrite | bootGo | faultReport | faultStatusClear |
      firstFaultClear | force | logPop | bengDataAccess | pprw1Access | spddatRead | claim | release | claimIdleTimeout | agentReset |
      targetResetPattern | sidebandRead | sideDxferDone | dynamicAddressAssignment =>
    exact serve_idle h _
  case arbiterGrant | deadlineClamp | lockTimeout | mr4Poll | trackerWindowExpiry | deviceCountDecay | rmreq | ersreq | remapCopyComplete |
      castle | retire | pprEntryDone | load | clear | clearAll | tamperRise | vreqComplete | vreqTimeout | pwrGoodFall | pgoodDownTimeout |
      vloopWindow | idleTimerExpiry | voteAgree | voteRefuse | voteWithdraw | voteTimeout | sleepEntryComplete | wakeEvent | wakeComplete |
      coreIdleRegate | goActedOn | shutdownRequest | endgameDrainComplete | endgameDrainTimeout | bistSliceDone | bistSliceBudgetExpiry |
      captureWindowClose | checkTimerExpiry | commit | commitSafePoint | sidebandWrite | registerWrite | mapSwitch | mapRetireGo |
      migrationGo | migrationCopyLine | pwrGoodRise | voutModeReadDone =>
    exact act_idle h _
  all_goals exact actIf_idle h _ _

end

/-- Settles O7: a low pin puts the tile out of service. -/
theorem resetLowIgnores : Obligations.ResetLowIgnores := fun _ _ hlow => exec_idle (by simp [State.serving, hlow])

/-! ## In scan (R542) -/

theorem State.sameTile.trans {s t u : State} (hst : s.sameTile t) (htu : t.sameTile u) : s.sameTile u :=
  Eq.trans (congrArg (fun x : State =>
    { x with tempo := s.tempo, wraps := s.wraps, tap := s.tap, outputs := s.outputs, pending := s.pending }) htu :) hst

/-- Two states that differ in Tempo, the test port and what has left alone. -/
theorem State.sameTile_of_eq {s t : State} (h : { t with tempo := s.tempo, wraps := s.wraps } = s) : s.sameTile t :=
  (congrArg (fun x : State =>
    { x with tempo := s.tempo, wraps := s.wraps, tap := s.tap, outputs := s.outputs, pending := s.pending }) h :)

theorem State.sameTile.frozen {s t : State} (h : s.sameTile t) : t.frozen = s.frozen := (congrArg State.frozen h :)

theorem exec_sameTile_of_frozen {c : Instr} {s t : State} (hscan : s.frozen = true) (hreset : isReset c = false) (h : exec c s = .next t) :
    s.sameTile t := by
  have hstop : ¬ s.serving = true := by simp [State.serving, hscan]
  by_cases htap : isTap c = true
  · obtain ⟨hserve, -⟩ | ⟨hframe, hstays⟩ := tap_shape c s t h htap
    · exact absurd hserve hstop
    · have hfrozen : t.frozen = s.frozen := (hstays hscan).trans hscan.symm
      unfold State.sameTile
      rw [← hframe]
      simp [hfrozen]
  · obtain ⟨hserve, -⟩ | ⟨-, rfl⟩ := exec_shape c s t h hreset (by simpa using htap)
    · exact absurd hserve hstop
    · rfl

theorem step_sameTile_of_frozen {s t : State} (hscan : s.frozen = true) (hqueue : s.pending.all (fun c => !isReset c) = true)
    (h : step s = .next t) : s.sameTile t := by
  obtain ⟨-, rfl⟩ | ⟨c, rest, hp, hexec⟩ := step_cases h
  · exact State.sameTile_of_eq (idle_frame s)
  · have hreset : isReset c = false := by simp_all
    exact State.sameTile.trans (t := { s with pending := rest }) rfl (exec_sameTile_of_frozen hscan hreset hexec)

/-- Settles O8, by induction on the steps: in scan no command but the reset's reaches more than the test port and the record of what has
left, and the commands that still wait are among those that waited. -/
theorem scanStopsService : Obligations.ScanStopsService := by
  intro n
  induction n with
  | zero => intro s t _ _ h; cases h; rfl
  | succ n ih =>
    intro s t hscan hqueue h
    obtain ⟨u, hstep, hrun⟩ := run_succ h
    have hsame : s.sameTile u := step_sameTile_of_frozen hscan hqueue hstep
    have hpending : u.pending = s.pending.drop 1 := (Prod.mk.inj (step_given hstep)).2
    refine hsame.trans (ih u t (hsame.frozen.trans hscan) ?_ hrun)
    rw [hpending, List.all_eq_true]
    exact fun c hc => List.all_eq_true.1 hqueue c (List.mem_of_mem_drop hc)

end Sys2Proof.Machine

/-! SUPPORT. Fields written together, and what a write of fields leaves: shared by the families of calibration, encryption, power, the DIMM
sideband and fault collection (O31, O34, O35, O37-O41, O45, O46, O58). -/

namespace Sys2Proof.Machine

open Sys2Proof

theorem State.fld_of_regs {s t : State} (h : t.regs = s.regs) (f : FRef) : t.fld f = s.fld f := by
  rw [State.fld, State.word, h, State.fld, State.word]

theorem State.flag_of_regs {s t : State} (h : t.regs = s.regs) (f : FRef) : t.flag f = s.flag f := by
  rw [State.flag, State.fld_of_regs h, State.flag]

theorem State.setFld_flag_apart {f g : FRef} (h : f.Apart g) (s : State) (v : Nat) : (s.setFld f v).flag g = s.flag g := by
  rw [State.flag, State.setFld_fld_apart h, State.flag]

/-- A value fits into a field of a word. -/
abbrev FRef.Fits (f : FRef) (v : Nat) : Prop := f.lo ≤ f.hi ∧ f.hi < 32 ∧ v < 2 ^ (f.hi + 1 - f.lo)

/-- Of fields written together that share no bit, each reads as its own value. -/
theorem State.setFlds_fld_of_mem {l : List (FRef × Nat)} {f : FRef} {v : Nat} (hmem : (f, v) ∈ l)
    (hapart : l.Pairwise fun p q => q.1.Apart p.1) (hfits : f.Fits v) (s : State) : (s.setFlds l).fld f = v := by
  obtain ⟨hf, hf32, hv⟩ := hfits
  induction l generalizing s with
  | nil => cases hmem
  | cons p l ih =>
    rw [List.pairwise_cons] at hapart
    rcases List.mem_cons.1 hmem with rfl | hmem
    · exact (State.setFlds_fld_apart l hapart.1 _).trans (s.setFld_fld_same hf hf32 hv)
    · exact ih hmem hapart.2 (s.setFld p.1 p.2)

/-- What a write of fields leaves in the register store depends on the register store alone. -/
theorem State.setFlds_regs_congr {s t : State} (h : t.regs = s.regs) (l : List (FRef × Nat)) : (t.setFlds l).regs = (s.setFlds l).regs := by
  induction l generalizing s t with
  | nil => exact h
  | cons p l ih => exact ih (by simp only [State.setFld, State.setWord, State.word, h])

theorem State.flag_of_fld {s : State} {f : FRef} {b : Bool} (h : s.fld f = b2n b) : s.flag f = b := by
  rw [State.flag, h]
  cases b <;> rfl

/-- A bit cleared reads 0. -/
theorem State.clr_flag_same (s : State) {f : FRef} (hf : f.lo ≤ f.hi) (hf32 : f.hi < 32) : (s.clr f).flag f = false :=
  State.flag_of_fld (b := false) (s.setFld_fld_same hf hf32 (Nat.two_pow_pos _))

end Sys2Proof.Machine

/-! SUPPORT and settlement of the statement about calibration, temperature samples and idle gaps (O31). -/

namespace Sys2Proof.Machine

open Sys2Proof

/-! ## The commands in service -/

section
variable {s : State} (h : s.serving = true)
include h

theorem exec_phyImpedanceCalibrationDone {c : Nat} (hb : s.chanBuilt c = true) (pu pd : BitVec 6) :
    exec (.phyImpedanceCalibrationDone c pu pd) s = .next (s.done (s.phyZqDone c pu.toNat pd.toNat)) := actIf_next hb h _

theorem exec_phyZqRecal {c : Nat} (hb : s.chanBuilt c = true) (pu pd : BitVec 6) :
    exec (.phyZqRecal c pu pd) s = .next (s.done (s.phyRecal c pu.toNat pd.toNat)) := actIf_next hb h _

theorem exec_tempSample {c : Nat} (hb : s.chanBuilt c = true) (t : Int) :
    exec (.tempSample c t) s = .next (s.done (s.tempSample c t)) := actIf_next hb h _

theorem exec_idleGapTrimApply {sc : Nat} (hb : s.subBuilt sc = true) :
    exec (.idleGapTrimApply sc) s = .next (s.done (s.gapApply sc)) := actIf_next hb h _

theorem exec_gapInsert {sc : Nat} (hb : s.subBuilt sc = true) :
    exec (.gapInsert sc) s = .next (s.done (s.gapInsert sc)) := actIf_next hb h _

end

/-! ## Impedance (R340) -/

/-- A code at either end of its range. -/
def codeAtEnd (pu pd : Nat) : Bool := decide (pu % 64 = 0) || decide (pu % 64 = 63) || decide (pd % 64 = 0) || decide (pd % 64 = 63)

/-- What CHNn_ZQ shows of a calibration. -/
def zqShown (c pu pd : Nat) : List (FRef × Nat) :=
  [(Reg.CHN_ZQ_PU c, pu), (Reg.CHN_ZQ_PD c, pd), (Reg.CHN_ZQ_DONE c, 1), (Reg.CHN_ZQ_ERR c, b2n (codeAtEnd pu pd))]

theorem State.zqCodes_eq (s : State) (c pu pd : Nat) :
    s.zqCodes c pu pd = if codeAtEnd pu pd then (s.setFlds (zqShown c pu pd)).set1 (Reg.CHN_EVT_ZQ_ERR c) else s.setFlds (zqShown c pu pd) := rfl

theorem zqShown_apart (c pu pd : Nat) : (zqShown c pu pd).Pairwise fun p q => q.1.Apart p.1 := by
  simp [zqShown, FRef.Apart, Reg.CHN_ZQ_PU, Reg.CHN_ZQ_PD, Reg.CHN_ZQ_DONE, Reg.CHN_ZQ_ERR]

theorem zqShown_fits (c : Nat) (pu pd : BitVec 6) : ∀ p ∈ zqShown c pu.toNat pd.toNat, p.1.Fits p.2 := by
  simp [zqShown, FRef.Fits, Reg.CHN_ZQ_PU, Reg.CHN_ZQ_PD, Reg.CHN_ZQ_DONE, Reg.CHN_ZQ_ERR, pu.isLt, pd.isLt,
    Nat.le_of_lt_succ (b2n_lt_two _)]

theorem zqShown_key {c pu pd : Nat} : ∀ p ∈ zqShown c pu pd, p.1.key ≠ (Reg.CHN_EVT_ZQ_ERR c).key := by
  simp [zqShown, FRef.key, regKey, Reg.CHN_ZQ_PU, Reg.CHN_ZQ_PD, Reg.CHN_ZQ_DONE, Reg.CHN_ZQ_ERR, Reg.CHN_EVT_ZQ_ERR]

/-- The event bit is not among what CHNn_ZQ shows. -/
theorem State.zqCodes_fld (s : State) {c : Nat} {pu pd : BitVec 6} {f : FRef} {v : Nat} (hmem : (f, v) ∈ zqShown c pu.toNat pd.toNat) :
    (s.zqCodes c pu.toNat pd.toNat).fld f = v := by
  have hshown : (s.setFlds (zqShown c pu.toNat pd.toNat)).fld f = v :=
    State.setFlds_fld_of_mem hmem (zqShown_apart c _ _) (zqShown_fits c pu pd _ hmem) s
  rw [State.zqCodes_eq]
  split
  · exact (State.setFld_fld_ne _ _ _ _ (zqShown_key _ hmem)).trans hshown
  · exact hshown

theorem codeAtEnd_eq (pu pd : BitVec 6) : codeAtEnd pu.toNat pd.toNat = (pu == 0 || pu == 63 || pd == 0 || pd == 63) := by
  have hcode : ∀ x : BitVec 6, decide (x.toNat % 64 = 0) = (x == 0) ∧ decide (x.toNat % 64 = 63) = (x == 63) := by decide
  simp only [codeAtEnd, hcode]

theorem State.zqCodes_shows (s : State) (c : Nat) (pu pd : BitVec 6) :
    (s.zqCodes c pu.toNat pd.toNat).fld (Reg.CHN_ZQ_PU c) = pu.toNat ∧ (s.zqCodes c pu.toNat pd.toNat).fld (Reg.CHN_ZQ_PD c) = pd.toNat ∧
      (s.zqCodes c pu.toNat pd.toNat).flag (Reg.CHN_ZQ_DONE c) = true ∧
      (s.zqCodes c pu.toNat pd.toNat).flag (Reg.CHN_ZQ_ERR c) = (pu == 0 || pu == 63 || pd == 0 || pd == 63) := by
  rw [← codeAtEnd_eq]
  refine ⟨s.zqCodes_fld ?_, s.zqCodes_fld ?_, State.flag_of_fld (b := true) (s.zqCodes_fld ?_), State.flag_of_fld (s.zqCodes_fld ?_)⟩ <;>
    simp [zqShown, b2n]

theorem State.zqCodes_regs_congr {s t : State} (h : t.regs = s.regs) (c pu pd : Nat) : (t.zqCodes c pu pd).regs = (s.zqCodes c pu pd).regs := by
  have hshown : (t.setFlds (zqShown c pu pd)).regs = (s.setFlds (zqShown c pu pd)).regs := State.setFlds_regs_congr h _
  rw [State.zqCodes_eq, State.zqCodes_eq]
  split
  · exact State.setFlds_regs_congr hshown [(_, 1)]
  · exact hshown

theorem State.zqCodes_frame (s : State) (c pu pd : Nat) : { s.zqCodes c pu pd with regs := s.regs } = s := by
  rw [State.zqCodes_eq]
  split
  · exact ((s.setFlds (zqShown c pu pd)).setFld_frame (Reg.CHN_EVT_ZQ_ERR c) 1 s.regs).trans (State.setFlds_frame _ s)
  · exact State.setFlds_frame _ s

theorem State.zqCodes_phy (s : State) (c pu pd j : Nat) : (s.zqCodes c pu pd).phy j = s.phy j :=
  (congrArg (State.phy · j) (s.zqCodes_frame c pu pd) :)

theorem State.phyZqDone_of_powered {s : State} {c : Nat} (h : (s.phy c).phase = .powered) (pu pd : Nat) :
    s.phyZqDone c pu pd = (s.zqCodes c pu pd).tryRelease c := if_pos h

theorem State.phyZqDone_of_not_powered {s : State} {c : Nat} (h : (s.phy c).phase ≠ .powered) (pu pd : Nat) : s.phyZqDone c pu pd = s := if_neg h

/-- The state in which a recalibration's codes wait. -/
def State.zqWaits (s : State) (c pu pd : Nat) : State :=
  (s.periodic (tmrPhyZq c) s.zqInt).setPhy c { (s.periodic (tmrPhyZq c) s.zqInt).phy c with zqNew := some (pu, pd) }

theorem State.zqWaits_regs (s : State) (c pu pd : Nat) : (s.zqWaits c pu pd).regs = s.regs := by
  simp [State.zqWaits, State.periodic]

theorem State.zqWaits_zqNew (s : State) (c pu pd : Nat) : ((s.zqWaits c pu pd).phy c).zqNew = some (pu, pd) := by simp [State.zqWaits]

/-- Whether a gap is open is a matter of the subchannel and the timing registers. -/
theorem State.zqWaits_gapOpen (s : State) (c pu pd sc : Nat) : (s.zqWaits c pu pd).gapOpen sc = s.gapOpen sc := by
  have htimg : (s.zqWaits c pu pd).timg = s.timg := congrArg timgOf (funext (State.fld_of_regs (s.zqWaits_regs c pu pd)))
  have hsub : (s.zqWaits c pu pd).sub sc = s.sub sc := by simp [State.zqWaits, State.periodic_sub]
  rw [State.gapOpen, htimg, hsub, State.gapOpen]

theorem State.phyRecal_of_calibrated {s : State} {c : Nat} (hon : s.latticeOn c = true) (hdone : s.flag (Reg.CHN_ZQ_DONE c) = true) (pu pd : Nat) :
    s.phyRecal c pu pd = (s.zqWaits c pu pd).zqApply c := if_pos (by simp [hon, hdone])

theorem State.phyRecal_of_stopped {s : State} {c : Nat} (hoff : s.latticeOn c = false) (pu pd : Nat) : s.phyRecal c pu pd = s :=
  if_neg (by simp [hoff])

theorem State.zqApply_of_waiting {s : State} {c pu pd : Nat} (hnew : (s.phy c).zqNew = some (pu, pd)) :
    s.zqApply c = if s.gapOpen (2 * c) && s.gapOpen (2 * c + 1) then (s.setPhy c { s.phy c with zqNew := none }).zqCodes c pu pd else s := by
  unfold State.zqApply
  rw [hnew]

/-- In a gap open on both subchannels the codes are shown, until then they wait. -/
theorem State.phyRecal_codes {s : State} {c : Nat} (hon : s.latticeOn c = true) (hdone : s.flag (Reg.CHN_ZQ_DONE c) = true) (pu pd : Nat) :
    if s.gapOpen (2 * c) && s.gapOpen (2 * c + 1) then
      ((s.phyRecal c pu pd).phy c).zqNew = none ∧ (s.phyRecal c pu pd).regs = (s.zqCodes c pu pd).regs
    else ((s.phyRecal c pu pd).phy c).zqNew = some (pu, pd) ∧ (s.phyRecal c pu pd).regs = s.regs := by
  rw [State.phyRecal_of_calibrated hon hdone, State.zqApply_of_waiting (s.zqWaits_zqNew c pu pd), State.zqWaits_gapOpen, State.zqWaits_gapOpen]
  split
  · refine ⟨?_, State.zqCodes_regs_congr (by rw [State.setPhy_regs, State.zqWaits_regs]) c pu pd⟩
    rw [State.zqCodes_phy, State.setPhy_phy, if_pos rfl]
  · exact ⟨s.zqWaits_zqNew c pu pd, s.zqWaits_regs c pu pd⟩

/-! ## Temperature samples (R342, R365) -/

theorem twos_lt (n : Nat) (v : Int) : twos n v < 2 ^ n := by
  have hpos : (0 : Int) < (2 ^ n : Nat) := by exact_mod_cast Nat.two_pow_pos n
  have hlt := Int.emod_lt_of_pos v hpos
  have hnonneg := Int.emod_nonneg v hpos.ne'
  unfold twos
  omega

/-- What CHNn_TEMP shows of a sample. -/
def tempShown (c : Nat) (v : Int) : List (FRef × Nat) := [(Reg.CHN_TEMP_VALID c, 1), (Reg.CHN_TEMP_T c, twos 11 v)]

/-- A sample is shown and joins the others. -/
def State.sampled (s : State) (c : Nat) (v : Int) : State :=
  (s.setFlds (tempShown c v)).setPhy c
    { (s.setFlds (tempShown c v)).phy c with samples := (v :: ((s.setFlds (tempShown c v)).phy c).samples).take 16 }

theorem State.setFlds_phy (s : State) (l : List (FRef × Nat)) (c : Nat) : (s.setFlds l).phy c = s.phy c :=
  (congrArg (State.phy · c) (State.setFlds_frame l s) :)

theorem State.sampled_samples (s : State) (c : Nat) (v : Int) : ((s.sampled c v).phy c).samples = (v :: (s.phy c).samples).take 16 := by
  simp [State.sampled, State.setFlds_phy]

theorem State.sampled_shows (s : State) (c : Nat) (v : Int) :
    (s.sampled c v).flag (Reg.CHN_TEMP_VALID c) = true ∧ (s.sampled c v).fld (Reg.CHN_TEMP_T c) = twos 11 v := by
  have hapart : (tempShown c v).Pairwise fun p q => q.1.Apart p.1 := by
    simp [tempShown, FRef.Apart, Reg.CHN_TEMP_VALID, Reg.CHN_TEMP_T]
  have hfits : ∀ p ∈ tempShown c v, p.1.Fits p.2 := by
    simpa [tempShown, FRef.Fits, Reg.CHN_TEMP_VALID, Reg.CHN_TEMP_T] using twos_lt 11 v
  have hshown {f : FRef} {n : Nat} (hmem : (f, n) ∈ tempShown c v) : (s.sampled c v).fld f = n := by
    rw [State.sampled, State.setPhy_fld]
    exact State.setFlds_fld_of_mem hmem hapart (hfits _ hmem) s
  exact ⟨State.flag_of_fld (b := true) (hshown List.mem_cons_self), hshown (List.mem_cons_of_mem _ List.mem_cons_self)⟩

/-- A recomputation begins: what the trims are recomputed for is noted. -/
def State.recomputing (s : State) (c : Nat) : State := s.setPhy c { s.phy c with thDone := s.thF c, bookNew := false }

/-- Recomputed trims wait, and nothing else changes. -/
theorem State.recompute_keeps {γ : Type} (g : State → γ) (h : ∀ (t : State) (sc rk : Nat), g (t.pendRank sc rk) = g t) (s : State) (c : Nat) :
    g (s.recompute c) = g s ∨ g (s.recompute c) = g (s.recomputing c) := by
  unfold State.recompute
  split
  · exact .inl rfl
  · exact .inr (foldl_keeps g (fun t sc _ => foldl_keeps g (fun u rk _ => h u sc rk) t) (s.recomputing c))

theorem State.recompute_regs (s : State) (c : Nat) : (s.recompute c).regs = s.regs := by
  rcases State.recompute_keeps State.regs (fun _ _ _ => rfl) s c with h | h
  · exact h
  · rw [h, State.recomputing, State.setPhy_regs]

theorem State.recompute_samples (s : State) (c : Nat) : ((s.recompute c).phy c).samples = (s.phy c).samples := by
  rcases State.recompute_keeps (State.phy · c) (fun _ _ _ => rfl) s c with h | h
  · rw [h]
  · rw [h, State.recomputing, State.setPhy_phy, if_pos rfl]

theorem State.tempSample_of_off {s : State} {c : Nat} (h : s.sensorOn c = false) (t : Int) : s.tempSample c t = s := if_pos (by simp [h])

theorem State.tempSample_of_on {s x : State} {c : Nat} (h : s.sensorOn c = true) (t : Int)
    (hx : x = (s.periodic (tmrTemp c) 1000000).sampled c (clampTo (-220) 500 t)) : s.tempSample c t = x ∨ s.tempSample c t = x.recompute c := by
  subst x
  rw [State.tempSample, if_neg (by simp [h])]
  dsimp only
  split
  · exact .inr rfl
  · exact .inl rfl

theorem State.periodic_phy (s : State) (k per c : Nat) : (s.periodic k per).phy c = s.phy c :=
  (congrArg (State.phy · c) (s.periodic_frame k per) :)

theorem State.tempSample_shows {s : State} {c : Nat} (h : s.sensorOn c = true) (t : Int) :
    ((s.tempSample c t).phy c).samples = (clampTo (-220) 500 t :: (s.phy c).samples).take 16 ∧
      (s.tempSample c t).flag (Reg.CHN_TEMP_VALID c) = true ∧ (s.tempSample c t).fld (Reg.CHN_TEMP_T c) = twos 11 (clampTo (-220) 500 t) := by
  have hsamples := (s.periodic (tmrTemp c) 1000000).sampled_samples c (clampTo (-220) 500 t)
  have hshows := (s.periodic (tmrTemp c) 1000000).sampled_shows c (clampTo (-220) 500 t)
  rw [State.periodic_phy] at hsamples
  rcases State.tempSample_of_on h t rfl with hend | hend
  · rw [hend]
    exact ⟨hsamples, hshows⟩
  · rw [hend, State.recompute_samples, State.flag_of_regs (State.recompute_regs _ c), State.fld_of_regs (State.recompute_regs _ c)]
    exact ⟨hsamples, hshows⟩

/-! ## Trims that wait for a gap (R365-R367) -/

theorem State.setTrim_frame (s : State) (k : Nat) (t : Trim) (trims : Tab Trim) : { s.setTrim k t with trims := trims } = { s with trims := trims } :=
  rfl

/-- Trims in force from now on. -/
def State.setTrims (s : State) (l : List (Nat × Trim)) : State := l.foldl (fun s kt => s.setTrim kt.1 kt.2) s

theorem State.setTrims_frame (s : State) (l : List (Nat × Trim)) (trims : Tab Trim) :
    { s.setTrims l with trims := trims } = { s with trims := trims } := by
  exact foldl_keeps (fun t : State => { t with trims := trims }) (fun t (kt : Nat × Trim) _ => t.setTrim_frame kt.1 kt.2 trims) s

/-- The trims of a rank that wait are applied. -/
def State.takePend (s : State) (sc rk : Nat) : State :=
  match tget none s.pendTrims (2 * sc + rk) with
  | none => s
  | some p => State.setTrims { s with pendTrims := tput none (2 * sc + rk) none s.pendTrims } p.trims

theorem State.applyPend_eq (s : State) (sc : Nat) : s.applyPend sc = (s.takePend sc 0).takePend sc 1 := rfl

theorem State.takePend_of_none {s : State} {sc rk : Nat} (h : tget none s.pendTrims (2 * sc + rk) = none) : s.takePend sc rk = s := by
  rw [State.takePend, h]

theorem State.takePend_of_some {s : State} {sc rk : Nat} {p : PendTrim} (h : tget none s.pendTrims (2 * sc + rk) = some p) :
    s.takePend sc rk =
      State.setTrims { s with pendTrims := tput none (2 * sc + rk) none s.pendTrims } p.trims := by
  rw [State.takePend, h]

theorem State.takePend_frame (s : State) (sc rk : Nat) : { s.takePend sc rk with pendTrims := s.pendTrims, trims := s.trims } = s := by
  cases h : tget none s.pendTrims (2 * sc + rk) with
  | none => rw [State.takePend_of_none h]
  | some p =>
    rw [State.takePend_of_some h]
    exact (congrArg (fun t : State => { t with pendTrims := s.pendTrims }) (State.setTrims_frame _ p.trims s.trims) :)

theorem State.takePend_pend (s : State) (sc rk i : Nat) :
    tget none (s.takePend sc rk).pendTrims i = if i = 2 * sc + rk then none else tget none s.pendTrims i := by
  cases h : tget none s.pendTrims (2 * sc + rk) with
  | none =>
    rw [State.takePend_of_none h]
    split
    · subst i; exact h
    · rfl
  | some p =>
    have hpend : (s.takePend sc rk).pendTrims = tput none (2 * sc + rk) none s.pendTrims := by
      rw [State.takePend_of_some h]
      exact (congrArg State.pendTrims (State.setTrims_frame _ p.trims s.trims) :)
    rw [hpend, tget_tput]

theorem State.applyPend_frame (s : State) (sc : Nat) : { s.applyPend sc with pendTrims := s.pendTrims, trims := s.trims } = s := by
  rw [State.applyPend_eq]
  exact (congrArg (fun t : State => { t with pendTrims := s.pendTrims, trims := s.trims }) ((s.takePend sc 0).takePend_frame sc 1) :).trans
    (s.takePend_frame sc 0)

theorem State.applyPend_none (s : State) (sc : Nat) : ∀ rk < 2, tget none (s.applyPend sc).pendTrims (2 * sc + rk) = none := by
  intro rk hrk
  rw [State.applyPend_eq, State.takePend_pend, State.takePend_pend]
  split
  · rfl
  · exact if_pos (by omega)

/-- A single trim that waits on the subchannel is applied. -/
theorem State.applyPend_trim {s : State} {sc : Nat} : ∀ rk < 2, ∀ t0 k t, tget none s.pendTrims (2 * sc + rk) = some ⟨t0, [(k, t)]⟩ →
    tget none s.pendTrims (2 * sc + (1 - rk)) = none → (s.applyPend sc).trim k = t := by
  intro rk hrk t0 k t hone hother
  have htrim : (s.takePend sc rk).trim k = t := by simp [State.takePend_of_some hone, State.setTrims]
  obtain rfl | rfl : rk = 0 ∨ rk = 1 := by omega
  · have hrest : tget none (s.takePend sc 0).pendTrims (2 * sc + 1) = none := by
      rw [State.takePend_pend, if_neg (by omega)]
      exact hother
    rw [State.applyPend_eq, State.takePend_of_none hrest]
    exact htrim
  · rw [State.applyPend_eq, State.takePend_of_none hother]
    exact htrim

theorem State.gapApply_of_open {s : State} {sc : Nat} (hon : s.latticeOn (sc / 2) = true) (hgap : s.gapOpen sc = true) :
    s.gapApply sc = s.applyPend sc := if_pos (by simp [hon, hgap])

theorem State.gapApply_of_closed {s : State} {sc : Nat} (h : s.latticeOn (sc / 2) = false ∨ s.gapOpen sc = false) : s.gapApply sc = s :=
  if_neg (by rcases h with h | h <;> simp [h])

/-- The lattice holds new column commands. -/
def State.gapHeld (s : State) (sc : Nat) : State := (s.bump Reg.BOOK_CNT2_GAPINS).setSub sc { s.sub sc with gapHold := true }

theorem State.gapInsert_of_none {s : State} {sc : Nat} (h : s.pendSince sc = none) : s.gapInsert sc = s := by
  rw [State.gapInsert, h]

theorem State.gapInsert_of_waiting {s : State} {sc : Nat} {t : Tempo} (h : s.pendSince sc = some t) (hhold : (s.sub sc).gapHold = false)
    (hadm : (s.sub sc).window.any (fun p => p.tier == 1) = false) : s.gapInsert sc = (s.advanceTo (t + ns s.gapWait)).gapHeld sc := by
  rw [State.gapInsert, h]
  exact if_neg (by simp [hhold, hadm])

theorem State.gapHeld_count (s : State) (sc : Nat) : (s.gapHeld sc).fld Reg.BOOK_CNT2_GAPINS = satAdd 16 (s.fld Reg.BOOK_CNT2_GAPINS) 1 := by
  rw [State.gapHeld, State.setSub_fld]
  exact s.bump_fld_same 1 (by decide) (by decide)

theorem State.gapHeld_tempo (s : State) (sc : Nat) : (s.gapHeld sc).tempo = s.tempo := by
  rw [State.gapHeld, State.setSub_tempo, State.bump_tempo]

/-- Settles O31: what shows codes and samples writes those registers alone; a gap empties the waiting trims of the two ranks in turn. -/
theorem phyCalibrationSamplesAndGaps : Obligations.PhyCalibrationSamplesAndGaps := by
  refine ⟨fun c pu pd s hserve hb => ?_, fun c t s hserve hb => ?_, fun sc s hserve hb => ?_⟩
  · refine ⟨s.zqCodes_shows c pu pd, fun hpow => ?_, fun hpow => ?_, fun hon hdone => ?_, fun hoff => ?_⟩
    · rw [exec_phyImpedanceCalibrationDone hserve hb, State.phyZqDone_of_powered hpow]
    · rw [exec_phyImpedanceCalibrationDone hserve hb, State.phyZqDone_of_not_powered hpow]
    · exact ⟨_, exec_phyZqRecal hserve hb pu pd, State.phyRecal_codes hon hdone _ _⟩
    · rw [exec_phyZqRecal hserve hb, State.phyRecal_of_stopped hoff]
  · refine ⟨fun hon => ?_, fun hoff => ?_⟩
    · exact ⟨_, exec_tempSample hserve hb t, State.tempSample_shows hon t⟩
    · rw [exec_tempSample hserve hb, State.tempSample_of_off hoff]
  · refine ⟨fun hon hgap => ?_, fun hclosed => ?_, fun t0 hsince hhold hadm => ?_, fun hnone => ?_⟩
    · rw [exec_idleGapTrimApply hserve hb, State.gapApply_of_open hon hgap]
      exact ⟨_, rfl, s.applyPend_none sc, s.applyPend_frame sc, State.applyPend_trim⟩
    · rw [exec_idleGapTrimApply hserve hb, State.gapApply_of_closed hclosed]
    · rw [exec_gapInsert hserve hb, State.gapInsert_of_waiting hsince hhold hadm]
      refine ⟨_, rfl, by simp [State.gapHeld], ?_, ?_⟩
      · rw [State.gapHeld_tempo, State.advanceTo_reached]
      · rw [State.gapHeld_count, State.advanceTo_fld]
    · rw [exec_gapInsert hserve hb, State.gapInsert_of_none hnone]

end Sys2Proof.Machine

/-! SUPPORT and settlement of the statement about En Passant passes (O34). -/

namespace Sys2Proof.Machine

open Sys2Proof

/-! ## Lists -/

/-- What the step of one element makes so, where an invariant of the fold stands, and every step leaves so, is so once the list is through. -/
theorem foldl_of_mem {α β : Type} {P Q : β → Prop} {f : β → α → β} {l : List α} {a : α} {b : β} (ha : a ∈ l) (hQ : Q b)
    (hinv : ∀ t x, Q t → Q (f t x)) (hmake : ∀ t, Q t → P (f t a)) (hkeep : ∀ t x, P t → P (f t x)) : P (l.foldl f b) := by
  induction l generalizing b with
  | nil => cases ha
  | cons x l ih =>
    rw [List.foldl_cons]
    rcases List.mem_cons.1 ha with rfl | hmem
    · exact List.foldlRecOn (motive := P) l f (hmake b hQ) fun t ht y _ => hkeep t y ht
    · exact ih hmem (hinv b x hQ)

/-! ## The commands in service -/

section
variable {s : State} (h : s.serving = true)
include h

theorem exec_epPassStart {c : Nat} (hb : s.chanBuilt c = true) : exec (.epPassStart c) s = .next (s.done (s.epPass c)) := actIf_next hb h _

variable {sc : Nat} (hb : s.subBuilt sc = true) (rk : Fin 2)
include hb

theorem exec_epRunDone (a b : List LaneRun) : exec (.epRunDone sc rk a b) s = .next (s.done (s.epRunDone sc rk.val a b)) := actIf_next hb h _

theorem exec_epProbeWaitExpiry : exec (.epProbeWaitExpiry sc rk) s = .next (s.done (s.probe sc rk.val)) := actIf_next hb h _

theorem exec_epRunTimeout : exec (.epRunTimeout sc rk) s = .next (s.done (s.epTimeout sc rk.val)) := actIf_next hb h _

end

/-! ## The runs of a rank -/

theorem State.setEpRank_epRank? (s : State) (sc rk : Nat) (x : Option EpRank) : (s.setEpRank sc rk x).epRank? sc rk = x := by
  simp [State.epRank?, State.setEpRank]

/-- What is not the ranks' runs of a pass stands when a rank's runs change. -/
theorem State.setEpRank_keeps {γ : Type} (g : EpCh → γ) (hg : ∀ e l, g { e with ranks := l } = g e) (s : State) (sc rk : Nat)
    (x : Option EpRank) (c : Nat) : g ((s.setEpRank sc rk x).ep c) = g (s.ep c) := by
  rw [State.setEpRank, State.setEp_ep]
  split
  next h => rw [hg, h]
  next => rfl

/-- One rank's runs change: another's stand, and where both have the same ones, they still do. -/
theorem State.setEpRank_epRank?_of_eq {s : State} {sc rk : Nat} {x : Option EpRank} (h : s.epRank? sc rk = x) (sc' rk' : Nat) :
    (s.setEpRank sc' rk' x).epRank? sc rk = x := by
  rw [State.epRank?] at h ⊢
  rw [State.setEpRank, State.setEp_ep]
  split
  next hc =>
    rw [tget_tput, ← hc]
    split
    · rfl
    · exact h
  next => exact h

/-! ## A pass begins (R369, R370) -/

/-- A pass comes due: on drift at once, else at the end of its period. -/
def State.passDue (s : State) (c : Nat) : State :=
  if s.drifted c then s.set1 Reg.BOOK_EVT_DRIFT_PASS else s.advanceLong ((s.ep c).start + 1000000000 * s.fld Reg.BOOK_LCTL_PERIOD)

/-- The runs a pass makes on a rank: each lane group's read run, and its write run where those are on. -/
def runsToMake (writes : Bool) : EpRank :=
  ⟨(List.range 10).flatMap (fun g => (g, false) :: (if writes then [(g, true)] else [])), false, 0, 0, 0, 0, 0, 0, 0⟩

/-- Every rank of a channel has the same runs to make. -/
def State.setEpRanks (s : State) (c : Nat) (r : EpRank) : State :=
  [2 * c, 2 * c + 1].foldl (fun t sc => (t.epRanks c).foldl (fun t rk => t.setEpRank sc rk (some r)) t) s

/-- A pass has begun, with every run still to make. -/
def State.passBegun (s : State) (c : Nat) : State :=
  ((s.passDue c).setEp c ⟨true, (s.passDue c).longTime, 0, []⟩).setEpRanks c (runsToMake ((s.passDue c).flag Reg.BOOK_LCTL_WR_EN))

theorem State.epPass_of_enabled {s : State} {c : Nat} (hen : s.flag Reg.BOOK_LCTL_EP_EN = true) (hown : s.ownWork = true) (hup : s.chUp c = true)
    (hpassed : (s.phy c).phase = .passed) (hidle : (s.ep c).running = false) : s.epPass c = (s.passBegun c).epResume c := by
  rw [State.epPass, if_neg (by simp [hen, hown, hup, hpassed, hidle])]
  rfl

theorem State.epPass_of_disabled {s : State} (h : s.flag Reg.BOOK_LCTL_EP_EN = false) (c : Nat) : s.epPass c = s := if_pos (by simp [h])

/-- Two ranks, or one, by a bit of the channel's decode word (R112). -/
theorem State.chDec_rkEn (s : State) (c : Nat) : (s.chDec c).rkEn = s.flag ⟨7, 0x50 + 4 * c, 10, 10⟩ := by
  simp only [State.chDec, chDecOf, State.flag, State.fld, FRef.get, FRef.key]
  rw [Nat.testBit_eq_decide_div_mod_eq, Nat.shiftRight_eq_div_pow]
  have hbit (x : Nat) : decide (x % 2 = 1) = (x % 2 != 0) := by rcases Nat.mod_two_eq_zero_or_one x with h | h <;> simp [h]
  exact hbit _

theorem State.epRanks_congr {s t : State} (hmode : t.fld Reg.TIMG_MODE_MTYPE = s.fld Reg.TIMG_MODE_MTYPE) {c : Nat}
    (hrk : t.flag ⟨7, 0x50 + 4 * c, 10, 10⟩ = s.flag ⟨7, 0x50 + 4 * c, 10, 10⟩) : t.epRanks c = s.epRanks c := by
  simp only [State.epRanks, State.mrdimm, State.ranks, State.chDec_rkEn, hmode, hrk]

theorem State.passDue_fld {g : FRef} (h : Reg.BOOK_EVT_DRIFT_PASS.Apart g) (s : State) (c : Nat) : (s.passDue c).fld g = s.fld g := by
  unfold State.passDue
  split
  · exact State.setFld_fld_apart h s 1
  · exact (congrArg (State.fld · g) (s.advanceLong_frame _) :)

theorem State.passDue_flag {g : FRef} (h : Reg.BOOK_EVT_DRIFT_PASS.Apart g) (s : State) (c : Nat) : (s.passDue c).flag g = s.flag g := by
  rw [State.flag, State.passDue_fld h, State.flag]

theorem State.passDue_epRanks (s : State) (c : Nat) : (s.passDue c).epRanks c = s.epRanks c :=
  State.epRanks_congr (s.passDue_fld (by decide) c) (s.passDue_flag ⟨by decide, by simp, .inr (.inl (by simp [Reg.BOOK_EVT_DRIFT_PASS]))⟩ c)

section
variable (s : State) (c : Nat) (r : EpRank)

/-- What no rank's run touches stands when every rank of a channel has runs to make. -/
theorem State.setEpRanks_keeps {γ : Type} (g : State → γ) (h : ∀ (t : State) (sc rk : Nat), g (t.setEpRank sc rk (some r)) = g t) :
    g (s.setEpRanks c r) = g s :=
  foldl_keeps g (fun t sc _ => foldl_keeps g (fun u rk _ => h u sc rk) t) s

theorem State.setEpRanks_longTime : (s.setEpRanks c r).longTime = s.longTime := s.setEpRanks_keeps c r State.longTime fun _ _ _ => rfl

theorem State.setEpRanks_ep {γ : Type} (g : EpCh → γ) (hg : ∀ e l, g { e with ranks := l } = g e) : g ((s.setEpRanks c r).ep c) = g (s.ep c) :=
  s.setEpRanks_keeps c r (fun t => g (t.ep c)) fun t sc rk => t.setEpRank_keeps g hg sc rk (some r) c

end

/-- Each rank has its runs to make. -/
theorem State.setEpRanks_epRank? {s : State} {c sc rk : Nat} (hsc : sc ∈ [2 * c, 2 * c + 1]) (hrk : rk ∈ s.epRanks c) (r : EpRank) :
    (s.setEpRanks c r).epRank? sc rk = some r := by
  have hranks (t : State) (sc' rk' : Nat) : (t.setEpRank sc' rk' (some r)).epRanks c = t.epRanks c := State.epRanks_congr rfl rfl
  have hkeep (t : State) (sc' rk' : Nat) (ht : t.epRank? sc rk = some r) : (t.setEpRank sc' rk' (some r)).epRank? sc rk = some r :=
    State.setEpRank_epRank?_of_eq ht sc' rk'
  refine foldl_of_mem (P := fun t => t.epRank? sc rk = some r) (Q := fun t => t.epRanks c = s.epRanks c) hsc rfl
    (fun t sc' ht => (foldl_keeps (State.epRanks · c) (fun u rk' _ => hranks u sc' rk') t).trans ht)
    (fun t ht => ?_) (fun t sc' ht => List.foldlRecOn (motive := fun u => u.epRank? sc rk = some r) _ _ ht fun u hu rk' _ => hkeep u sc' rk' hu)
  exact foldl_of_mem (P := fun u => u.epRank? sc rk = some r) (Q := fun _ => True) (ht ▸ hrk) trivial (fun _ _ _ => trivial)
    (fun u _ => u.setEpRank_epRank? sc rk (some r)) (fun u rk' hu => hkeep u sc rk' hu)

theorem State.passBegun_ep (s : State) (c : Nat) :
    ((s.passBegun c).ep c).running = true ∧ ((s.passBegun c).ep c).start = (s.passBegun c).longTime ∧ ((s.passBegun c).ep c).done = 0 := by
  have hpass (γ : Type) (g : EpCh → γ) (hg : ∀ e l, g { e with ranks := l } = g e) :
      g ((s.passBegun c).ep c) = g ⟨true, (s.passDue c).longTime, 0, []⟩ := by
    rw [State.passBegun, State.setEpRanks_ep _ _ _ g hg, State.setEp_ep, if_pos rfl]
  refine ⟨hpass _ EpCh.running fun _ _ => rfl, (hpass _ EpCh.start fun _ _ => rfl).trans ?_, hpass _ EpCh.done fun _ _ => rfl⟩
  rw [State.passBegun, State.setEpRanks_longTime]
  rfl

theorem State.passBegun_epRank? {s : State} {c sc rk : Nat} (hsc : sc ∈ [2 * c, 2 * c + 1]) (hrk : rk ∈ s.epRanks c) :
    (s.passBegun c).epRank? sc rk = some (runsToMake (s.flag Reg.BOOK_LCTL_WR_EN)) := by
  have hranks : ((s.passDue c).setEp c ⟨true, (s.passDue c).longTime, 0, []⟩).epRanks c = s.epRanks c :=
    (State.epRanks_congr rfl rfl).trans (s.passDue_epRanks c)
  rw [State.passBegun, State.setEpRanks_epRank? hsc (hranks ▸ hrk), State.passDue_flag (by decide)]

/-! ## A run in progress (R370, R372, R376-R378) -/

section
variable {s : State} {sc rk : Nat}

theorem State.epRunDone_of_none (h : s.epRank? sc rk = none) (a b : List LaneRun) : s.epRunDone sc rk a b = s := by
  rw [State.epRunDone, h]

theorem State.probe_of_none (h : s.epRank? sc rk = none) : s.probe sc rk = s := by
  rw [State.probe, h]

theorem State.epTimeout_of_none (h : s.epRank? sc rk = none) : s.epTimeout sc rk = s := by
  rw [State.epTimeout, h]

/-- A run that has not come to its end in time is given up. -/
theorem State.epTimeout_of_begun {r : EpRank} (hr : s.epRank? sc rk = some r) (hbegun : r.begun = true) :
    ∃ w : State, s.epTimeout sc rk = (w.epUnmark sc rk).epNext sc rk true ∧
      w.fld Reg.BOOK_CNT2_SKIP = satAdd 16 (s.fld Reg.BOOK_CNT2_SKIP) 1 ∧ w.flag Reg.BOOK_EVT_SKIP = true := by
  let x := s.advanceTo (r.t0 + ns (1000000 * max 1 (Reg.BOOK_PROBE_RUNTMO.get r.probe)))
  refine ⟨(x.bump Reg.BOOK_CNT2_SKIP).set1 Reg.BOOK_EVT_SKIP, ?_, ?_, State.set1_flag_same _ (by decide) (by decide)⟩
  · simp only [State.epTimeout, hr, hbegun, Bool.not_true, Bool.false_eq_true, if_false, x]
  · have hbefore : x.fld Reg.BOOK_CNT2_SKIP = s.fld Reg.BOOK_CNT2_SKIP := s.advanceTo_fld _ _
    rw [State.set1, State.setFld_fld_ne _ _ _ _ (by decide), ← hbefore]
    exact x.bump_fld_same 1 (by decide) (by decide)

variable {r : EpRank} {g : Nat} {wr : Bool} {rest : List (Nat × Bool)} (hr : s.epRank? sc rk = some r) (hbegun : r.begun = true)
  (htodo : r.todo = (g, wr) :: rest)
include hr hbegun htodo

/-- A result is trusted. -/
theorem State.epRunDone_of_trusted {a b : List LaneRun} {e : EyeFit}
    (h : trusted (s.minw (if wr then Reg.TRAIN_CRIT_MINW_WR else Reg.TRAIN_CRIT_MINW_RD)) (eyeFit a [0, 1, 2, 3]) (eyeFit b [0, 1, 2, 3]) = some e) :
    s.epRunDone sc rk a b = ((((s.bump Reg.BOOK_CNT0_RUNS).epUnmark sc rk).epStore sc rk g wr r.th e).epNext sc rk false) := by
  simp only [State.epRunDone, hr, hbegun, htodo, h]

/-- Sweeps disagree. -/
theorem State.epRunDone_of_untrusted {a b : List LaneRun} {x : State} (hx : x = (s.bump Reg.BOOK_CNT0_DISAGREE).set1 Reg.BOOK_EVT_DISAGREE)
    (h : trusted (s.minw (if wr then Reg.TRAIN_CRIT_MINW_WR else Reg.TRAIN_CRIT_MINW_RD)) (eyeFit a [0, 1, 2, 3]) (eyeFit b [0, 1, 2, 3]) = none) :
    s.epRunDone sc rk a b = if r.bad + 1 < 3 then (x.dropTrain sc rk).startRun sc rk { r with bad := r.bad + 1 }
      else (((x.setEpRank sc rk (some { r with begun := false })).epErase sc rk g wr).epNext sc rk wr).releaseFill := by
  simp only [State.epRunDone, hr, hbegun, htodo, h, hx]

end

theorem State.dropTrain_regs (s : State) (sc rk : Nat) : (s.dropTrain sc rk).regs = s.regs := s.withdraw_regs _

theorem State.startRun_regs (s : State) (sc rk : Nat) (r : EpRank) : (s.startRun sc rk r).regs = s.regs := rfl

theorem State.startRun_epRank? (s : State) (sc rk : Nat) (r : EpRank) :
    ∃ r', (s.startRun sc rk r).epRank? sc rk = some r' ∧ r'.bad = r.bad ∧ r'.todo = r.todo ∧ r'.begun = true :=
  ⟨_, s.setEpRank_epRank? sc rk _, rfl, rfl, rfl⟩

/-! ## Probe reads (R372) -/

/-- One probe read, of the line chosen. -/
def State.probeOnce (s : State) (sc rk : Nat) : State :=
  match s.probePick sc rk with
  | none => s
  | some x => (s.bump Reg.BOOK_CNT1_PROBES).addQE (mkQE false .probe x (s.tempo + ns 10000))

/-- A probe read of a line is proposed. -/
def State.Probes (s : State) (l : Loc) : Prop := ∃ q ∈ s.qes, q.src = .probe ∧ q.wr = false ∧ q.loc = l

section
variable {s : State} {sc rk : Nat} {l : Loc}

theorem State.probeOnce_of_pick (h : s.probePick sc rk = some l) :
    s.probeOnce sc rk = (s.bump Reg.BOOK_CNT1_PROBES).addQE (mkQE false .probe l (s.tempo + ns 10000)) := by
  rw [State.probeOnce, h]

theorem State.probeOnce_probes (h : s.probePick sc rk = some l) : (s.probeOnce sc rk).Probes l := by
  rw [State.probeOnce_of_pick h]
  exact ⟨_, State.mem_addQE (s.bump Reg.BOOK_CNT1_PROBES) _, rfl, rfl, rfl⟩

theorem State.probeOnce_count (h : s.probePick sc rk = some l) :
    (s.probeOnce sc rk).fld Reg.BOOK_CNT1_PROBES = satAdd 16 (s.fld Reg.BOOK_CNT1_PROBES) 1 := by
  rw [State.probeOnce_of_pick h, State.addQE_fld]
  exact s.bump_fld_same 1 (by decide) (by decide)

theorem State.Probes.probeOnce (h : s.Probes l) : (s.probeOnce sc rk).Probes l := by
  obtain ⟨q, hq, hprobe⟩ := h
  unfold State.probeOnce
  split
  · exact ⟨q, hq, hprobe⟩
  · exact ⟨q, List.mem_append_left _ (by rwa [State.bump_qes]), hprobe⟩

/-- The probe reads of one wait: one at least. -/
def State.probes (s : State) (sc rk n : Nat) : State := (List.range (max 1 n)).foldl (fun t _ => t.probeOnce sc rk) s

theorem State.probes_probes (h : s.probePick sc rk = some l) (n : Nat) : (s.probes sc rk n).Probes l := by
  obtain ⟨m, hm⟩ : ∃ m, max 1 n = m + 1 := ⟨max 1 n - 1, by omega⟩
  rw [State.probes, hm, List.range_succ_eq_map, List.foldl_cons]
  exact List.foldlRecOn (motive := fun t : State => t.Probes l) _ _ (State.probeOnce_probes h) fun t ht _ _ => ht.probeOnce

theorem State.probes_one {n : Nat} (hn : n ≤ 1) : s.probes sc rk n = s.probeOnce sc rk := by
  rw [State.probes, Nat.max_eq_left hn]
  rfl

/-- With no admitted line that waits, the wait of a read run ends in probe reads. -/
theorem State.probe_of_quiet {x : State} {r : EpRank} {g : Nat} {rest : List (Nat × Bool)} (hr : s.epRank? sc rk = some r)
    (hbegun : r.begun = true) (htodo : r.todo = (g, false) :: rest)
    (hquiet : s.qes.any (fun q => q.adm && q.loc.sc == sc && q.loc.rk == rk) = false)
    (hx : x = s.advanceTo (r.sample + ns (1000 * max 1 (Reg.BOOK_PROBE_PWAIT.get r.probe)))) :
    s.probe sc rk = (x.setEpRank sc rk (some { r with sample := x.tempo })).probes sc rk (Reg.BOOK_PROBE_PRATE.get r.probe) := by
  have hqes : (x.setEpRank sc rk (some { r with sample := x.tempo })).qes = s.qes := by rw [hx]; exact s.advanceTo_qes _
  have hnone : (x.setEpRank sc rk (some { r with sample := x.tempo })).qes.any (fun q => q.adm && q.loc.sc == sc && q.loc.rk == rk &&
      (x.setEpRank sc rk (some { r with sample := x.tempo })).isCand q) = false := by
    rw [hqes, List.any_eq_false] at *
    exact fun q hq h => hquiet q hq (Bool.and_eq_true _ _ ▸ h).1
  simp only [hbegun, htodo] at hnone
  simp only [State.probe, hr, hbegun, htodo, ← hx]
  exact if_neg (by rw [hnone]; decide)

end

/-- Settles O34: every rank's runs are set before the pass resumes; a run in progress ends as its sweeps agree, or by its count of disagreements. -/
theorem enPassantPass : Obligations.EnPassantPass := by
  refine ⟨fun c s hserve hb => ⟨fun hen hown hup hpassed hidle => ?_, fun hoff => ?_⟩, fun sc rk s hserve hb => ⟨?_, fun hnone => ?_⟩⟩
  · rw [exec_epPassStart hserve hb, State.epPass_of_enabled hen hown hup hpassed hidle]
    obtain ⟨hrunning, hstart, hdone⟩ := s.passBegun_ep c
    exact ⟨_, rfl, hrunning, hstart, hdone, fun sc hsc rk hrk => ⟨_, State.passBegun_epRank? hsc hrk, rfl, rfl⟩⟩
  · rw [exec_epPassStart hserve hb, State.epPass_of_disabled hoff]
  · intro r g wr rest hr hbegun htodo
    refine ⟨fun a b e htrust => ?_, fun a b x htrust hx => ⟨fun hfew => ?_, fun hmany => ?_⟩, fun x l hwr hquiet hx hpick => ?_, ?_⟩
    · rw [exec_epRunDone hserve hb, State.epRunDone_of_trusted hr hbegun htodo htrust]
    · rw [exec_epRunDone hserve hb, State.epRunDone_of_untrusted hr hbegun htodo hx htrust, if_pos (by omega)]
      obtain ⟨r', hrun, hbad, htodo', hbegun'⟩ := (x.dropTrain sc rk).startRun_epRank? sc rk { r with bad := r.bad + 1 }
      refine ⟨_, rfl, ?_, r', hrun, hbad, htodo', hbegun'⟩
      have hflag : x.flag Reg.BOOK_EVT_DISAGREE = true := by rw [hx]; exact State.set1_flag_same _ (by decide) (by decide)
      rwa [State.flag_of_regs ((State.startRun_regs _ _ _ _).trans (x.dropTrain_regs sc rk))]
    · rw [exec_epRunDone hserve hb, State.epRunDone_of_untrusted hr hbegun htodo hx htrust, if_neg (by omega)]
    · subst hwr
      rw [exec_epProbeWaitExpiry hserve hb, State.probe_of_quiet hr hbegun htodo hquiet hx]
      refine ⟨_, rfl, State.probes_probes hpick _, fun hrate => ?_⟩
      rw [State.probes_one hrate, State.probeOnce_count hpick, hx]
      exact congrArg (satAdd 16 · 1) (s.advanceTo_fld _ _)
    · rw [exec_epRunTimeout hserve hb]
      obtain ⟨w, hend, hcount, hevent⟩ := State.epTimeout_of_begun (sc := sc) (rk := rk) hr hbegun
      exact ⟨w, by rw [hend], hcount, hevent⟩
  · exact ⟨fun a b => by rw [exec_epRunDone hserve hb, State.epRunDone_of_none hnone],
      by rw [exec_epProbeWaitExpiry hserve hb, State.probe_of_none hnone], by rw [exec_epRunTimeout hserve hb, State.epTimeout_of_none hnone]⟩

end Sys2Proof.Machine

/-! SUPPORT. Key slots: what each operation of a key command does to them, and what it leaves (O38, O39). -/

namespace Sys2Proof.Machine

open Sys2Proof

theorem any_mapIf {α : Type} {p c : α → Bool} {f : α → α} {l : List α} (h : ∀ x, c (f x) = c x) : (mapIf p f l).any c = l.any c := by
  rw [mapIf, List.any_map]
  congr 1
  funext x
  dsimp only [Function.comp]
  split
  · exact h x
  · rfl

/-! ## Slots -/

theorem State.slot_of_slots {s t : State} (h : t.crypt.slots = s.crypt.slots) (k : Nat) : t.slot k = s.slot k := by
  rw [State.slot, h, State.slot]

theorem State.slotBusy_of_queues {s t : State} (hqes : t.qes = s.qes) (hreqs : t.reqs = s.reqs) (k : Nat) : t.slotBusy k = s.slotBusy k := by
  rw [State.slotBusy, hqes, hreqs, State.slotBusy]

/-- No change of the slot is under way. -/
def Slot.Settled (x : Slot) : Prop := x.st ≠ .pendLoad ∧ x.st ≠ .pendClear

theorem State.anyPending_eq_false_iff (s : State) : s.anyPending = false ↔ ∀ k < 256, (s.slot k).Settled := by
  simp only [State.anyPending, List.any_eq_false, List.mem_range, Bool.or_eq_true, beq_iff_eq, not_or, Slot.Settled]

theorem State.anyPending_of_pending {s : State} {k : Nat} (hk : k < 256) (h : ¬ (s.slot k).Settled) : s.anyPending = true := by
  cases hnone : s.anyPending with
  | false => exact absurd ((s.anyPending_eq_false_iff).1 hnone k hk) h
  | true => rfl

/-- From `s` to `t` a key command works: of the tile it touches the register store, the fault reports, the key store, and how requests and
queue entries are ranked and what they write. -/
def State.KeyWork (s t : State) : Prop :=
  { t with regs := s.regs, fault := s.fault, crypt := s.crypt, reqs := s.reqs, qes := s.qes } = s

theorem State.KeyWork.refl (s : State) : s.KeyWork s := rfl

theorem State.KeyWork.trans {s t u : State} (hst : s.KeyWork t) (htu : t.KeyWork u) : s.KeyWork u :=
  Eq.trans (congrArg (fun x : State =>
    { x with regs := s.regs, fault := s.fault, crypt := s.crypt, reqs := s.reqs, qes := s.qes }) htu :) hst

theorem State.KeyWork.foldl {α : Type} {f : State → α → State} (hf : ∀ (t : State) (a : α), t.KeyWork (f t a)) (l : List α) (s : State) :
    s.KeyWork (l.foldl f s) :=
  List.foldlRecOn (motive := s.KeyWork) l f (.refl s) fun t ht a _ => ht.trans (hf t a)

theorem State.KeyWork.mode {s t : State} (h : s.KeyWork t) : t.mode = s.mode := (congrArg State.mode h :)

theorem State.keyWork_setFld (s : State) (f : FRef) (v : Nat) : s.KeyWork (s.setFld f v) := rfl

theorem State.keyWork_setSlot (s : State) (k : Nat) (x : Slot) : s.KeyWork (s.setSlot k x) := rfl

theorem State.keyWork_raise (s : State) (n : Nat) (w : Place) : s.KeyWork (s.raise n w) := rfl

theorem State.keyWork_reqs (s : State) (l : List Req) : s.KeyWork { s with reqs := l } := rfl

theorem State.keyWork_mapQEs (s : State) (c : QE → Bool) (f : QE → QE) : s.KeyWork (s.mapQEs c f) := rfl

/-! ## A slot becomes PENDING (R395) -/

section
variable (s : State) (k : Nat) (st : SlotSt) (next : LineData)

/-- The slot's own part of it, with BUSY. -/
def State.pendMarked : State := (s.setSlot k { s.slot k with st := st, nextKey := next }).setKbusy true

/-- A rank among the forced writes, for those of the requests `c` names. -/
def rankReqs (c : Req → Bool) (now : Tempo) (l : List Req) : List Req := mapIf c (fun r => { r with eff := minDl r.eff now }) l

/-- The same for queue entries. -/
def rankQEs (c : QE → Bool) (now : Tempo) (l : List QE) : List QE := mapIf c (fun q => { q with eff := minDl q.eff now }) l

/-- Requests and queue entries ranked anew. -/
def State.ranked (s : State) (c : Req → Bool) (d : QE → Bool) (now : Tempo) : State :=
  { s with reqs := rankReqs c now s.reqs, qes := rankQEs d now s.qes }

theorem State.pend_eq : ∃ (c : Req → Bool) (d : QE → Bool) (now : Tempo), s.pend k st next = (s.pendMarked k st next).ranked c d now := by
  unfold State.pend State.pendMarked
  generalize (s.setSlot k { s.slot k with st := st, nextKey := next }).setKbusy true = x
  exact ⟨_, _, _, rfl⟩

theorem State.ranked_regs (c : Req → Bool) (d : QE → Bool) (now : Tempo) : (s.ranked c d now).regs = s.regs := rfl

theorem State.keyWork_ranked (c : Req → Bool) (d : QE → Bool) (now : Tempo) : s.KeyWork (s.ranked c d now) := rfl

theorem State.keyWork_pend : s.KeyWork (s.pend k st next) := by
  obtain ⟨c, d, now, hpend⟩ := s.pend_eq k st next
  rw [hpend]
  exact ((s.keyWork_setSlot k _).trans (State.keyWork_setFld _ _ _)).trans (State.keyWork_ranked _ c d now)

theorem State.pend_crypt : (s.pend k st next).crypt = (s.setSlot k { s.slot k with st := st, nextKey := next }).crypt := by
  obtain ⟨c, d, now, hpend⟩ := s.pend_eq k st next
  rw [hpend, ← State.setFld_crypt (s.setSlot k _) Reg.CRYP_KCMD_BUSY (b2n true)]
  rfl

theorem State.pend_slot (j : Nat) : (s.pend k st next).slot j = if j = k then { s.slot k with st := st, nextKey := next } else s.slot j := by
  rw [State.slot_of_slots (congrArg CryptSt.slots (s.pend_crypt k st next)), State.slot_setSlot]

theorem State.pend_busy : (s.pend k st next).flag Reg.CRYP_KCMD_BUSY = true := by
  obtain ⟨c, d, now, hpend⟩ := s.pend_eq k st next
  rw [hpend, State.flag_of_regs (State.ranked_regs _ c d now)]
  exact State.set1_flag_same (s.setSlot k { s.slot k with st := st, nextKey := next }) (f := Reg.CRYP_KCMD_BUSY) (by decide) (by decide)

/-- A rank among the writes is no use of a slot more or less. -/
theorem State.pend_slotBusy (j : Nat) : (s.pend k st next).slotBusy j = s.slotBusy j := by
  obtain ⟨c, d, now, hpend⟩ := s.pend_eq k st next
  have hqes (l : List QE) (p : QE → Bool) (hp : ∀ q t, p { q with eff := t } = p q) : (rankQEs d now l).any p = l.any p :=
    any_mapIf fun q => hp q _
  have hreqs (l : List Req) (p : Req → Bool) (hp : ∀ r t, p { r with eff := t } = p r) : (rankReqs c now l).any p = l.any p :=
    any_mapIf fun r => hp r _
  have hmarked : (s.pendMarked k st next).slotBusy j = s.slotBusy j := State.slotBusy_of_queues (State.setFld_qes _ _ _) (State.setFld_reqs _ _ _) j
  rw [hpend, ← hmarked, State.slotBusy, State.ranked, hqes _ _ fun _ _ => rfl, hreqs _ _ fun _ _ => rfl, State.slotBusy]

end

/-! ## A PENDING slot settles (R395) -/

section
variable {s : State} {k : Nat}

theorem State.settle_of_busy (h : s.slotBusy k = true) : s.settle k = s := if_pos h

theorem State.settle_of_load (h : s.slotBusy k = false) (hst : (s.slot k).st = .pendLoad) :
    s.settle k = s.setSlot k { s.slot k with st := .valid, key := (s.slot k).nextKey, nextKey := 0 } := by
  simp only [State.settle, h, hst, Bool.false_eq_true, if_false]

theorem State.settle_of_clear (h : s.slotBusy k = false) (hst : (s.slot k).st = .pendClear) :
    s.settle k = s.setSlot k { s.slot k with st := .empty, key := 0, nextKey := 0 } := by
  simp only [State.settle, h, hst, Bool.false_eq_true, if_false]

theorem State.keyWork_settle (s : State) (k : Nat) : s.KeyWork (s.settle k) := by
  unfold State.settle
  dsimp only
  split
  · rfl
  · split <;> rfl

/-- A slot not in use takes its new key at once. -/
theorem State.pend_settle_load (h : s.slotBusy k = false) (kb : LineData) :
    (s.pend k .pendLoad kb).settle k = (s.pend k .pendLoad kb).setSlot k ⟨.valid, (s.slot k).ports, kb, 0⟩ := by
  have hslot := s.pend_slot k .pendLoad kb k
  rw [if_pos rfl] at hslot
  rw [State.settle_of_load ((s.pend_slotBusy k _ _ k).trans h) (by rw [hslot]), hslot]

/-- A slot not in use is emptied at once. -/
theorem State.pend_settle_clear (h : s.slotBusy k = false) :
    (s.pend k .pendClear 0).settle k = (s.pend k .pendClear 0).setSlot k ⟨.empty, (s.slot k).ports, 0, 0⟩ := by
  have hslot := s.pend_slot k .pendClear 0 k
  rw [if_pos rfl] at hslot
  rw [State.settle_of_clear ((s.pend_slotBusy k _ _ k).trans h) (by rw [hslot]), hslot]

end

/-! ## The clear is verified (R396, R397, R399) -/

theorem State.keyWork_verifyClear (s : State) (cause : Nat) (v1 v2 : Bool) : s.KeyWork (s.verifyClear cause v1 v2) := by
  unfold State.verifyClear
  split
  · exact ((s.keyWork_setFld _ 1).trans (State.keyWork_setFld _ _ cause)).trans (State.keyWork_setFld _ _ 1)
  · exact ((s.keyWork_setFld _ 1).trans (State.keyWork_setFld _ _ 1)).trans (State.keyWork_raise _ 0x32 nowhere)

theorem State.verifyClear_crypt (s : State) (cause : Nat) (v1 v2 : Bool) : (s.verifyClear cause v1 v2).crypt = s.crypt := by
  unfold State.verifyClear
  split <;> simp

/-- What a verified clear, and one that failed, shows. -/
def State.ClearShown (s : State) (cause : Nat) (ok : Bool) : Prop :=
  if ok then s.flag Reg.CRYP_KSTAT_CLEARED ∧ s.fld Reg.CRYP_KSTAT_CAUSE = cause
  else s.flag Reg.CRYP_KSTAT_VERIFY_FAIL ∧ ∃ r ∈ s.fault.reports, r.src = 0x32

theorem State.verifyClear_shown (s : State) {cause : Nat} (h : cause < 8) (v1 v2 : Bool) :
    (s.verifyClear cause v1 v2).ClearShown cause (v1 || v2) := by
  unfold State.verifyClear State.ClearShown
  split
  · have hcause : Reg.CRYP_KSTAT_CAUSE.Apart Reg.CRYP_KSTAT_CLEARED := by decide
    refine ⟨?_, ?_⟩
    · rw [State.set1, State.setFld_flag_apart (by decide), State.setFld_flag_apart (by decide)]
      exact s.set1_flag_same (by decide) (by decide)
    · rw [State.set1, State.setFld_fld_apart (by decide)]
      exact State.setFld_fld_same _ (by decide) (by decide) h
  · refine ⟨?_, State.exists_report_of_raise _ 0x32 nowhere⟩
    rw [State.raise_flag, State.set1, State.setFld_flag_apart (by decide)]
    exact s.set1_flag_same (by decide) (by decide)

/-! ## A key command ends (R394-R396) -/

section
variable {s : State} (v1 v2 : Bool)

theorem State.endKcmd_of_pending (h : s.anyPending = true) : s.endKcmd v1 v2 = s := if_pos h

theorem State.endKcmd_of_settled (h : s.anyPending = false) (hone : s.crypt.clearAll = false) :
    s.endKcmd v1 v2 = (s.setKbusy false).set1 Reg.CRYP_EVT_LOAD_DONE := by
  rw [State.endKcmd, if_neg (by simp [h])]
  exact if_neg (by show ¬ s.crypt.clearAll = true; simp [hone])

/-- The clear of all slots is over. -/
def State.clearOver (s : State) : State := { s.zeroKeyw with crypt := { s.zeroKeyw.crypt with clearAll := false } }

theorem State.clearOver_keyw (s : State) : s.clearOver.crypt.keyw = [] := rfl
theorem State.clearOver_slots (s : State) : s.clearOver.crypt.slots = s.crypt.slots := rfl
theorem State.clearOver_tamper (s : State) : s.clearOver.crypt.tamper = s.crypt.tamper := rfl
theorem State.clearOver_regs (s : State) : s.clearOver.regs = s.regs := rfl
theorem State.setKbusy_crypt (s : State) (b : Bool) : (s.setKbusy b).crypt = s.crypt := State.setFld_crypt _ _ _

theorem State.keyWork_clearOver (s : State) : s.KeyWork s.clearOver := rfl

theorem State.endKcmd_of_cleared (h : s.anyPending = false) (hall : s.crypt.clearAll = true) :
    s.endKcmd v1 v2 = ((s.setKbusy false).set1 Reg.CRYP_EVT_LOAD_DONE).clearOver.verifyClear 5 v1 v2 := by
  rw [State.endKcmd, if_neg (by simp [h])]
  exact if_pos hall

theorem State.endKcmd_slots (s : State) : (s.endKcmd v1 v2).crypt.slots = s.crypt.slots := by
  unfold State.endKcmd
  split
  · rfl
  dsimp only
  split
  · rw [State.verifyClear_crypt]; rfl
  · rfl

theorem State.keyWork_endKcmd (s : State) : s.KeyWork (s.endKcmd v1 v2) := by
  have hdone : s.KeyWork ((s.setKbusy false).set1 Reg.CRYP_EVT_LOAD_DONE) := (s.keyWork_setFld _ _).trans (State.keyWork_setFld _ _ 1)
  unfold State.endKcmd
  split
  · rfl
  dsimp only
  split
  · exact (hdone.trans (State.keyWork_clearOver _)).trans (State.keyWork_verifyClear _ 5 v1 v2)
  · exact hdone

end

/-! ## Every slot is emptied (R396-R398) -/

/-- A fold over the slots, each step of which changes its own slot alone. -/
theorem State.foldl_slots {f : State → Nat → State} {g : Nat → Slot → Slot} {P : State → Prop} (hP : ∀ t k, P t → P (f t k))
    (h : ∀ t k, P t → ∀ j, (f t k).slot j = if j = k then g k (t.slot k) else t.slot j) {s : State} (hs : P s) (n : Nat) :
    P ((List.range n).foldl f s) ∧ ∀ j, ((List.range n).foldl f s).slot j = if j < n then g j (s.slot j) else s.slot j := by
  induction n with
  | zero => exact ⟨hs, fun j => (if_neg (Nat.not_lt_zero j)).symm⟩
  | succ n ih =>
    obtain ⟨hinv, hslot⟩ := ih
    rw [List.range_succ, List.foldl_append, List.foldl_cons, List.foldl_nil]
    refine ⟨hP _ _ hinv, fun j => ?_⟩
    rw [h _ _ hinv, hslot, hslot, if_neg (lt_irrefl n)]
    by_cases hj : j = n
    · subst hj
      rw [if_pos rfl, if_pos (Nat.lt_succ_self j)]
    · rw [if_neg hj]
      exact if_congr (by omega) rfl rfl

/-- Every slot but 0 is emptied, its mask kept (R397, R398). -/
def State.slotsEmptied (s : State) : State :=
  (List.range 256).foldl (fun s k => if k = 0 then s else s.setSlot k { slotReset k with ports := (s.slot k).ports }) s

theorem State.keyWork_slotsEmptied (s : State) : s.KeyWork s.slotsEmptied := by
  refine .foldl (fun t k => ?_) _ s
  split
  · exact .refl t
  · exact t.keyWork_setSlot k _

theorem State.slotsEmptied_slot (s : State) {k : Nat} (hk : 1 ≤ k) (hk256 : k < 256) :
    s.slotsEmptied.slot k = ⟨.empty, (s.slot k).ports, 0, 0⟩ := by
  have hslots := (State.foldl_slots (s := s) (P := fun _ => True)
    (f := fun s k => if k = 0 then s else s.setSlot k { slotReset k with ports := (s.slot k).ports })
    (g := fun k x => if k = 0 then x else { slotReset k with ports := x.ports }) (fun _ _ _ => trivial) (fun t k _ j => ?_) trivial 256).2 k
  · rw [if_pos hk256, if_neg (by omega), slotReset, if_neg (by omega)] at hslots
    exact hslots
  · split
    · split
      · subst j; rfl
      · rfl
    · exact t.slot_setSlot k j _

/-- A trigger first makes poison of the writes whose key is lost and takes the key from the reads (R398); then it empties the slots and the key
words, and the clear is verified (R397, R399). -/
theorem State.clearKeys_eq (s : State) (cause : Nat) (v1 v2 : Bool) : ∃ w : State, s.KeyWork w ∧ w.crypt = s.crypt ∧
    w.flag Reg.CRYP_KSTAT_VERIFY_FAIL = s.flag Reg.CRYP_KSTAT_VERIFY_FAIL ∧
    s.clearKeys cause v1 v2 = (w.slotsEmptied.clearOver.setKbusy false).verifyClear cause v1 v2 := by
  have hlost (t : State) (p : Nat) (a : HLine) : t.KeyWork (t.lostKey p a) ∧ (t.lostKey p a).crypt = t.crypt :=
    ⟨((t.keyWork_setFld _ _).trans (State.keyWork_setFld _ _ 1)).trans (State.keyWork_raise _ _ _), by simp [State.lostKey]⟩
  have hflag (t : State) (p : Nat) (a : HLine) : (t.lostKey p a).flag Reg.CRYP_KSTAT_VERIFY_FAIL = t.flag Reg.CRYP_KSTAT_VERIFY_FAIL := by
    rw [State.lostKey, State.raise_flag, State.set1, State.setFld_flag_apart (by decide), State.bump, State.setFld_flag_apart (by decide)]
  unfold State.clearKeys
  refine ⟨_, ?_, ?_, ?_, rfl⟩
  · exact (((State.KeyWork.foldl (fun t x => (hlost t _ _).1) _ s).trans (State.keyWork_reqs _ _)).trans (State.keyWork_mapQEs _ _ _)).trans
      (State.keyWork_mapQEs _ _ _)
  · exact foldl_keeps State.crypt (fun t x _ => (hlost t _ _).2) s
  · exact foldl_keeps (State.flag · Reg.CRYP_KSTAT_VERIFY_FAIL) (fun t x _ => hflag t _ _) s

section
variable (s : State) (cause : Nat) (v1 v2 : Bool)

theorem State.keyWork_clearKeys : s.KeyWork (s.clearKeys cause v1 v2) := by
  obtain ⟨w, hwork, -, -, hclear⟩ := s.clearKeys_eq cause v1 v2
  rw [hclear]
  exact (((hwork.trans w.keyWork_slotsEmptied).trans (State.keyWork_clearOver _)).trans (State.keyWork_setFld _ _ _)).trans
    (State.keyWork_verifyClear _ cause v1 v2)

theorem State.clearKeys_shown (h : cause < 8) : (s.clearKeys cause v1 v2).ClearShown cause (v1 || v2) := by
  obtain ⟨w, -, -, -, hclear⟩ := s.clearKeys_eq cause v1 v2
  rw [hclear]
  exact State.verifyClear_shown _ h v1 v2

theorem State.clearKeys_keyw : (s.clearKeys cause v1 v2).crypt.keyw = [] := by
  obtain ⟨w, -, -, -, hclear⟩ := s.clearKeys_eq cause v1 v2
  rw [hclear, State.verifyClear_crypt, State.setKbusy_crypt, State.clearOver_keyw]

theorem State.slotsEmptied_regs : s.slotsEmptied.regs = s.regs :=
  foldl_keeps (fun t : State => t.regs) (fun t k _ => by dsimp only; split <;> rfl) s

/-- A clear that is verified reports no failure. -/
theorem State.clearKeys_verifyFail_of_ok (h : (v1 || v2) = true) :
    (s.clearKeys cause v1 v2).flag Reg.CRYP_KSTAT_VERIFY_FAIL = s.flag Reg.CRYP_KSTAT_VERIFY_FAIL := by
  obtain ⟨w, -, -, hflag, hclear⟩ := s.clearKeys_eq cause v1 v2
  rw [hclear, State.verifyClear, if_pos h, State.set1, State.setFld_flag_apart (by decide), State.setFld_flag_apart (by decide), State.set1,
    State.setFld_flag_apart (by decide), State.setKbusy, State.setFld_flag_apart (by decide)]
  rw [State.flag_of_regs (State.clearOver_regs _), State.flag_of_regs w.slotsEmptied_regs, hflag]

theorem State.slotsEmptied_tamper : s.slotsEmptied.crypt.tamper = s.crypt.tamper :=
  foldl_keeps (fun t : State => t.crypt.tamper) (fun t k _ => by dsimp only; split <;> rfl) s

theorem State.clearKeys_tamper : (s.clearKeys cause v1 v2).crypt.tamper = s.crypt.tamper := by
  obtain ⟨w, -, hcrypt, -, hclear⟩ := s.clearKeys_eq cause v1 v2
  rw [hclear, State.verifyClear_crypt, State.setKbusy_crypt, State.clearOver_tamper, State.slotsEmptied_tamper, hcrypt]

theorem State.clearKeys_slot {k : Nat} (hk : 1 ≤ k) (hk256 : k < 256) :
    (s.clearKeys cause v1 v2).slot k = ⟨.empty, (s.slot k).ports, 0, 0⟩ := by
  obtain ⟨w, -, hcrypt, -, hclear⟩ := s.clearKeys_eq cause v1 v2
  rw [hclear, State.slot_of_slots (congrArg CryptSt.slots (State.verifyClear_crypt _ cause v1 v2)),
    State.slot_of_slots (congrArg CryptSt.slots (State.setKbusy_crypt _ false)), State.slot_of_slots (State.clearOver_slots _),
    w.slotsEmptied_slot hk hk256, State.slot_of_slots (congrArg CryptSt.slots hcrypt)]

end

end Sys2Proof.Machine

/-! SUPPORT and settlement of the statement about key commands and TAMPER (O38). -/

namespace Sys2Proof.Machine

open Sys2Proof

/-! ## The commands in service -/

section
variable {s : State} (h : s.serving = true)
include h

theorem exec_keySlotChangeComplete (hcrypt : s.build.crypt = true) (k : Nat) (v1 v2 : Bool) :
    exec (.keySlotChangeComplete k v1 v2) s = .next (s.done (s.keyChange k v1 v2)) := actIf_next hcrypt h _

theorem exec_tamperRise (v1 v2 : Bool) : exec (.tamperRise v1 v2) s = .next (s.done (s.tamperRise v1 v2)) := by
  show execTamperRise v1 v2 s = _
  exact act_next h _

end

/-! ## CRYP_KCMD is written (R393-R396) -/

theorem State.keyWork_kRefused (s : State) : s.KeyWork s.kRefused := s.keyWork_setFld _ 1

theorem State.keyWork_crypt (s : State) (x : CryptSt) : s.KeyWork { s with crypt := x } := rfl

/-- LOAD begins: the key words are zeroed, and no clear stands verified any more. -/
def State.loadBegun (s : State) : State := s.zeroKeyw.clr Reg.CRYP_KSTAT_CLEARED

theorem State.keyWork_loadBegun (s : State) : s.KeyWork s.loadBegun :=
  State.KeyWork.trans (t := s.zeroKeyw) rfl (State.keyWork_setFld _ _ 0)

theorem State.keyWork_keyLoad (s : State) (agent : Nat) : s.KeyWork (s.keyLoad agent) := by
  unfold State.keyLoad
  dsimp only
  split
  · exact s.keyWork_kRefused
  split
  · exact ((s.keyWork_loadBegun.trans (State.keyWork_pend _ _ _ _)).trans (State.keyWork_settle _ _)).trans (State.keyWork_endKcmd _ _ _)
  · exact (s.keyWork_loadBegun.trans (State.keyWork_setSlot _ _ _)).trans (State.keyWork_endKcmd _ _ _)

theorem State.keyWork_keyClear (s : State) (agent : Nat) : s.KeyWork (s.keyClear agent) := by
  unfold State.keyClear
  dsimp only
  split
  · exact s.keyWork_kRefused
  split
  · exact ((s.keyWork_pend _ _ _).trans (State.keyWork_settle _ _)).trans (State.keyWork_endKcmd _ _ _)
  · exact (s.keyWork_setSlot _ _).trans (State.keyWork_endKcmd _ _ _)

/-- CLEAR ALL of one slot: a VALID one but 0 becomes PENDING, and is emptied where it is not in use. -/
def State.clearSlot (s : State) (k : Nat) : State := if k ≠ 0 ∧ (s.slot k).st = .valid then (s.pend k .pendClear 0).settle k else s

theorem State.keyWork_clearSlot (s : State) (k : Nat) : s.KeyWork (s.clearSlot k) := by
  unfold State.clearSlot
  split
  · exact (s.keyWork_pend k _ _).trans (State.keyWork_settle _ k)
  · exact .refl s

/-- CLEAR ALL is under way, every slot named. -/
def State.clearAllBegun (s : State) : State :=
  ((List.range 256).foldl State.clearSlot { s with crypt := { s.crypt with clearAll := true } }).setKbusy true

theorem State.keyWork_clearAllBegun (s : State) : s.KeyWork s.clearAllBegun :=
  ((s.keyWork_crypt { s.crypt with clearAll := true }).trans (.foldl State.keyWork_clearSlot _ _)).trans (State.keyWork_setFld _ _ _)

theorem State.keyWork_keyClearAll (s : State) (agent : Nat) (v1 v2 : Bool) : s.KeyWork (s.keyClearAll agent v1 v2) := by
  unfold State.keyClearAll
  split
  · exact s.keyWork_kRefused
  · exact s.keyWork_clearAllBegun.trans (State.keyWork_endKcmd v1 v2 _)

/-- A write of the register on a free page is the command, answered OK. -/
theorem State.portWrite_kcmd {s u : State} (hfree : s.pageFree 3 6) (hcrypt : s.build.crypt = true) {w : Word} {v1 v2 : Bool}
    (hu : s.kcmdWrite 3 (Reg.CRYP_KCMD_CMD.get w) v1 v2 = u) (hwork : s.KeyWork u) :
    s.portWrite 3 Reg.CRYP_KCMD_CMD.key w v1 v2 = u.okAck := by
  have hawake : u.mode ≠ .sleep := by rw [hwork.mode]; exact hfree.2.1
  have hown : s.ownWrite (3 : BitVec 4).toNat 6 0x04C w v1 v2 = some u := by rw [← hu]; rfl
  exact State.mgtWrite_own hfree rfl (by decide) (by decide) hcrypt (by decide) (fun _ => rfl) (by decide) hown hawake

section
variable {s : State} (hfree : s.pageFree 3 6) (hcrypt : s.build.crypt = true)
include hfree hcrypt

theorem exec_load : exec (.load 3) s = .next (s.done (s.keyLoad 3).okAck) := by
  show execLoad 3 s = _
  rw [execLoad, act_next hfree.1, State.portWrite_kcmd (w := 1) (u := s.keyLoad 3) hfree hcrypt rfl (s.keyWork_keyLoad 3)]

theorem exec_clear : exec (.clear 3) s = .next (s.done (s.keyClear 3).okAck) := by
  show execClear 3 s = _
  rw [execClear, act_next hfree.1, State.portWrite_kcmd (w := 2) (u := s.keyClear 3) hfree hcrypt rfl (s.keyWork_keyClear 3)]

theorem exec_clearAll (v1 v2 : Bool) : exec (.clearAll 3 v1 v2) s = .next (s.done (s.keyClearAll 3 v1 v2).okAck) := by
  show execClearAll 3 v1 v2 s = _
  rw [execClearAll, act_next hfree.1, State.portWrite_kcmd (w := 3) (u := s.keyClearAll 3 v1 v2) hfree hcrypt rfl (s.keyWork_keyClearAll 3 v1 v2)]

end

/-! ## The end of a command that leaves nothing PENDING -/

theorem State.anyPending_eq_false_of_slots {s t : State} {k : Nat} {x : Slot} (h : s.anyPending = false) (hx : x.Settled)
    (hslot : ∀ j, t.slot j = if j = k then x else s.slot j) : t.anyPending = false := by
  rw [State.anyPending_eq_false_iff] at h ⊢
  intro j hj
  rw [hslot]
  split
  · exact hx
  · exact h j hj

theorem State.endKcmd_shows {s : State} (h : s.anyPending = false) (hone : s.crypt.clearAll = false) (v1 v2 : Bool) :
    (s.endKcmd v1 v2).crypt = s.crypt ∧ (s.endKcmd v1 v2).flag Reg.CRYP_EVT_LOAD_DONE = true := by
  rw [State.endKcmd_of_settled v1 v2 h hone]
  refine ⟨?_, State.set1_flag_same _ (by decide) (by decide)⟩
  rw [State.set1_crypt, State.setKbusy_crypt]

/-! ## LOAD and CLEAR (R394, R395) -/

section
variable {s : State} (hidle : s.flag Reg.CRYP_KCMD_BUSY = false) (htamper : s.crypt.tamper = false)

theorem State.loadBegun_slot (s : State) (j : Nat) : s.loadBegun.slot j = s.slot j :=
  State.slot_of_slots (by simp [State.loadBegun, State.zeroKeyw]) j

theorem State.loadBegun_slotBusy (s : State) (j : Nat) : s.loadBegun.slotBusy j = s.slotBusy j :=
  State.slotBusy_of_queues (State.setFld_qes _ _ _) (State.setFld_reqs _ _ _) j

theorem State.loadBegun_crypt (s : State) : s.loadBegun.crypt = { s.crypt with keyw := [] } := State.setFld_crypt _ _ _

include hidle htamper

theorem State.kcmdOk_of_idle : s.kcmdOk 3 = true := by simp [State.kcmdOk, hidle, htamper]

variable {k : Nat} (hk : s.fld Reg.CRYP_KSEL_SLOT = k) (hk0 : k ≠ 0)
include hk hk0

section
variable (hhalves : sameHalves s.keyBlock = false) (hstore : s.bist.keyBad = false)
include hhalves hstore

theorem State.keyLoad_of_valid (hst : (s.slot k).st = .valid) :
    s.keyLoad 3 = ((s.loadBegun.pend k .pendLoad s.keyBlock).settle k).endKcmd true true := by
  rw [State.keyLoad, if_neg (by simp [State.kcmdOk_of_idle hidle htamper, hk, hk0, hhalves, hstore]), hk]
  exact if_pos ((congrArg Slot.st (s.loadBegun_slot k)).trans hst)

theorem State.keyLoad_of_empty (hst : (s.slot k).st = .empty) :
    s.keyLoad 3 = (s.loadBegun.setSlot k { s.slot k with st := .valid, key := s.keyBlock }).endKcmd true true := by
  rw [State.keyLoad, if_neg (by simp [State.kcmdOk_of_idle hidle htamper, hk, hk0, hhalves, hstore]), hk, ← s.loadBegun_slot k]
  have hother : ¬ (s.loadBegun.slot k).st = .valid := by rw [s.loadBegun_slot, hst]; decide
  exact if_neg hother

end

theorem State.keyClear_of_valid (hst : (s.slot k).st = .valid) : s.keyClear 3 = ((s.pend k .pendClear 0).settle k).endKcmd true true := by
  rw [State.keyClear, if_neg (by simp [State.kcmdOk_of_idle hidle htamper, hk, hk0]), hk]
  exact if_pos hst

end

/-- A slot of which nothing is PENDING any more ends its command: its new contents show, with LOAD_DONE. -/
theorem State.setSlot_endKcmd {s t : State} {k : Nat} {x : Slot} (h : s.anyPending = false) (hone : t.crypt.clearAll = false) (hx : x.Settled)
    (hslot : ∀ j, j ≠ k → t.slot j = s.slot j) : ((t.setSlot k x).endKcmd true true).slot k = x ∧
    ((t.setSlot k x).endKcmd true true).crypt.keyw = t.crypt.keyw ∧ ((t.setSlot k x).endKcmd true true).flag Reg.CRYP_EVT_LOAD_DONE = true := by
  have hslots (j : Nat) : (t.setSlot k x).slot j = if j = k then x else s.slot j := by
    rw [State.slot_setSlot]
    split
    · rfl
    next hj => exact hslot j hj
  obtain ⟨hcrypt, hevent⟩ := State.endKcmd_shows (State.anyPending_eq_false_of_slots h hx hslots) (s := t.setSlot k x) hone true true
  refine ⟨?_, by rw [hcrypt]; rfl, hevent⟩
  rw [State.slot_of_slots (congrArg CryptSt.slots hcrypt), hslots, if_pos rfl]

theorem State.fld_lt (s : State) (f : FRef) : s.fld f < 2 ^ (f.hi + 1 - f.lo) := Nat.mod_lt _ (Nat.two_pow_pos _)

section
variable {s t : State} {k : Nat}

/-- A VALID slot not in use changes within the command. -/
theorem State.pend_setSlot_endKcmd {st : SlotSt} {next : LineData} {x : Slot} (h : s.anyPending = false) (hone : t.crypt.clearAll = false)
    (hx : x.Settled) (hslot : ∀ j, t.slot j = s.slot j) : (((t.pend k st next).setSlot k x).endKcmd true true).slot k = x ∧
    (((t.pend k st next).setSlot k x).endKcmd true true).crypt.keyw = t.crypt.keyw ∧
    (((t.pend k st next).setSlot k x).endKcmd true true).flag Reg.CRYP_EVT_LOAD_DONE = true := by
  have hcrypt := t.pend_crypt k st next
  have hkeyw : (t.pend k st next).crypt.keyw = t.crypt.keyw := by rw [hcrypt]; rfl
  rw [← hkeyw]
  refine State.setSlot_endKcmd h (by rw [hcrypt]; exact hone) hx fun j hj => ?_
  rw [State.pend_slot, if_neg hj, hslot]

/-- A VALID slot in use stays PENDING, and the command with it. -/
theorem State.pend_settle_of_busy (st : SlotSt) (next : LineData) (hst : st = .pendLoad ∨ st = .pendClear) (h : t.slotBusy k = true)
    (hk : k < 256) : ((t.pend k st next).settle k).endKcmd true true = t.pend k st next := by
  have hpending : (t.pend k st next).anyPending = true := by
    refine State.anyPending_of_pending hk fun hsettled => ?_
    rw [State.pend_slot, if_pos rfl] at hsettled
    exact hst.elim hsettled.1 hsettled.2
  rw [State.settle_of_busy ((t.pend_slotBusy k st next k).trans h), State.endKcmd_of_pending true true hpending]

end

/-! ## CLEAR ALL (R396) -/

/-- What CLEAR ALL makes of a slot not in use. -/
def Slot.cleared (k : Nat) (x : Slot) : Slot := if k ≠ 0 ∧ x.st = .valid then ⟨.empty, x.ports, 0, 0⟩ else x

theorem State.clearSlot_slot {s : State} {k : Nat} (h : 1 ≤ k → s.slotBusy k = false) (j : Nat) :
    (s.clearSlot k).slot j = if j = k then (s.slot k).cleared k else s.slot j := by
  unfold State.clearSlot Slot.cleared
  split
  next hvalid =>
    rw [State.pend_settle_clear (h (by omega)), State.slot_setSlot, State.pend_slot]
    split <;> rfl
  next =>
    split
    · subst j; rfl
    · rfl

theorem State.settle_slotBusy (s : State) (k j : Nat) : (s.settle k).slotBusy j = s.slotBusy j := by
  unfold State.settle
  dsimp only
  split
  · rfl
  · split <;> rfl

theorem State.clearSlot_slotBusy (s : State) (k j : Nat) : (s.clearSlot k).slotBusy j = s.slotBusy j := by
  unfold State.clearSlot
  split
  · rw [State.settle_slotBusy, State.pend_slotBusy]
  · rfl

theorem State.settle_clearAll (s : State) (k : Nat) : (s.settle k).crypt.clearAll = s.crypt.clearAll := by
  unfold State.settle
  dsimp only
  split
  · rfl
  · split <;> rfl

theorem State.clearSlot_clearAll (s : State) (k : Nat) : (s.clearSlot k).crypt.clearAll = s.crypt.clearAll := by
  unfold State.clearSlot
  split
  · rw [State.settle_clearAll, State.pend_crypt]; rfl
  · rfl

theorem State.clearAllBegun_slot {s : State} (hfree : ∀ k, 1 ≤ k → s.slotBusy k = false) {j : Nat} (hj : j < 256) :
    s.clearAllBegun.slot j = (s.slot j).cleared j := by
  have hslots := (State.foldl_slots (s := { s with crypt := { s.crypt with clearAll := true } }) (f := State.clearSlot)
    (g := Slot.cleared) (P := fun t => ∀ k, 1 ≤ k → t.slotBusy k = false) (fun t k ht j hj => (t.clearSlot_slotBusy k j).trans (ht j hj))
    (fun t k ht => State.clearSlot_slot (ht k)) hfree 256).2 j
  rw [if_pos hj] at hslots
  rw [State.clearAllBegun, State.slot_of_slots (congrArg CryptSt.slots (State.setKbusy_crypt _ true)), hslots]
  rfl

theorem State.clearAllBegun_clearAll (s : State) : s.clearAllBegun.crypt.clearAll = true := by
  rw [State.clearAllBegun, State.setKbusy_crypt]
  exact foldl_keeps (fun t : State => t.crypt.clearAll) (fun t k _ => t.clearSlot_clearAll k) _

theorem Slot.Settled.cleared {x : Slot} (h : x.Settled) (k : Nat) : (x.cleared k).Settled := by
  unfold Slot.cleared
  split
  · exact ⟨by simp, by simp⟩
  · exact h

/-- With no slot in use CLEAR ALL is over at once. -/
theorem State.keyClearAll_of_free {s : State} (hidle : s.flag Reg.CRYP_KCMD_BUSY = false) (htamper : s.crypt.tamper = false)
    (hnone : s.anyPending = false) (hfree : ∀ k, 1 ≤ k → s.slotBusy k = false) (v1 v2 : Bool) :
    s.keyClearAll 3 v1 v2 = ((s.clearAllBegun.setKbusy false).set1 Reg.CRYP_EVT_LOAD_DONE).clearOver.verifyClear 5 v1 v2 := by
  have hsettled : s.clearAllBegun.anyPending = false := by
    rw [State.anyPending_eq_false_iff] at hnone ⊢
    intro k hk
    rw [State.clearAllBegun_slot hfree hk]
    exact (hnone k hk).cleared k
  rw [← State.endKcmd_of_cleared v1 v2 hsettled s.clearAllBegun_clearAll, State.keyClearAll,
    if_neg (by simp [State.kcmdOk_of_idle hidle htamper])]
  rfl

section
variable (s : State) (v1 v2 : Bool)

/-- What the end of CLEAR ALL leaves of the key store. -/
theorem State.clearAllOver_crypt : (((s.setKbusy false).set1 Reg.CRYP_EVT_LOAD_DONE).clearOver.verifyClear 5 v1 v2).crypt =
    { s.crypt with keyw := [], clearAll := false } := by
  rw [State.verifyClear_crypt]
  have hcrypt : ((s.setKbusy false).set1 Reg.CRYP_EVT_LOAD_DONE).crypt = s.crypt := by rw [State.set1_crypt, State.setKbusy_crypt]
  rw [← hcrypt]
  rfl

/-- The slots are as CLEAR ALL's start left them. -/
theorem State.clearAllOver_slot (j : Nat) :
    (((s.setKbusy false).set1 Reg.CRYP_EVT_LOAD_DONE).clearOver.verifyClear 5 v1 v2).slot j = s.slot j :=
  State.slot_of_slots (by rw [State.clearAllOver_crypt]) j

end

/-! ## KEY_SLOT_CHANGE_COMPLETE and TAMPER (R395, R397) -/

section
variable {s : State} {k : Nat}

theorem State.keyChange_of_free (h : s.slotBusy k = false) (hst : (s.slot k).st = .pendLoad ∨ (s.slot k).st = .pendClear) (v1 v2 : Bool) :
    s.keyChange k v1 v2 = (s.settle k).endKcmd v1 v2 := if_pos ⟨hst, h⟩

theorem State.keyChange_of_busy (h : s.slotBusy k = true) (v1 v2 : Bool) : s.keyChange k v1 v2 = s := if_neg (by simp [h])

theorem State.keyChange_slot (h : s.slotBusy k = false) (hst : (s.slot k).st = .pendLoad ∨ (s.slot k).st = .pendClear) (v1 v2 : Bool) :
    (s.keyChange k v1 v2).slot k = (s.settle k).slot k := by
  rw [State.keyChange_of_free h hst, State.slot_of_slots (State.endKcmd_slots v1 v2 _)]

end

/-- TAMPER has risen. -/
def State.tampered (s : State) : State := { s with crypt := { s.crypt with tamper := true } }

theorem State.tamperRise_of_crypt {s : State} (h : s.build.crypt = true) (v1 v2 : Bool) :
    s.tamperRise v1 v2 = (s.tampered.clearKeys 2 v1 v2).stopSlice := by
  have hbuild : s.tampered.build.crypt = true := h
  unfold State.tamperRise
  exact congrArg State.stopSlice (if_pos hbuild)

theorem State.tamperRise_of_plain {s : State} (h : s.build.crypt = false) (v1 v2 : Bool) : s.tamperRise v1 v2 = s.tampered.stopSlice := by
  have hbuild : ¬ s.tampered.build.crypt = true := by show ¬ s.build.crypt = true; simp [h]
  unfold State.tamperRise
  exact congrArg State.stopSlice (if_neg hbuild)

/-- Settles O38: a slot not in use changes within its command, which then ends; one in use stays PENDING until its last use has ended. -/
theorem keySlotsChange : Obligations.KeySlotsChange := by
  refine ⟨fun s hfree hcrypt hidle htamper hnone hone => ⟨fun hk0 hhalves hstore => ⟨fun hst => ?_, fun hst hbusy => ?_, fun hst hbusy => ?_⟩,
    fun hk0 hst hbusy => ?_, fun v1 v2 hfrees => ?_⟩, fun k v1 v2 s hserve hcrypt =>
      ⟨fun hbusy => ⟨fun hst => ?_, fun hst => ?_⟩, fun hbusy => ?_⟩,
    fun v1 v2 s hserve => ⟨fun hcrypt => ?_, fun hplain => ?_⟩⟩
  · obtain ⟨hslot, hkeyw, hevent⟩ := State.setSlot_endKcmd (k := s.fld Reg.CRYP_KSEL_SLOT) (t := s.loadBegun)
      (x := { s.slot (s.fld Reg.CRYP_KSEL_SLOT) with st := .valid, key := s.keyBlock }) hnone
      ((congrArg CryptSt.clearAll s.loadBegun_crypt).trans hone) ⟨by simp, by simp⟩ fun j _ => s.loadBegun_slot j
    rw [exec_load hfree hcrypt, State.keyLoad_of_empty hidle htamper rfl hk0 hhalves hstore hst]
    exact ⟨_, rfl, hkeyw.trans (congrArg CryptSt.keyw s.loadBegun_crypt), hslot, hevent⟩
  · obtain ⟨hslot, hkeyw, hevent⟩ := State.pend_setSlot_endKcmd (k := s.fld Reg.CRYP_KSEL_SLOT) (t := s.loadBegun) (st := .pendLoad)
      (next := s.keyBlock) (x := ⟨.valid, (s.slot (s.fld Reg.CRYP_KSEL_SLOT)).ports, s.keyBlock, 0⟩) hnone
      ((congrArg CryptSt.clearAll s.loadBegun_crypt).trans hone) ⟨by simp, by simp⟩ s.loadBegun_slot
    rw [exec_load hfree hcrypt, State.keyLoad_of_valid hidle htamper rfl hk0 hhalves hstore hst,
      State.pend_settle_load ((s.loadBegun_slotBusy _).trans hbusy), s.loadBegun_slot]
    exact ⟨_, rfl, hkeyw.trans (congrArg CryptSt.keyw s.loadBegun_crypt), hevent, hslot⟩
  · rw [exec_load hfree hcrypt, State.keyLoad_of_valid hidle htamper rfl hk0 hhalves hstore hst,
      State.pend_settle_of_busy _ _ (.inl rfl) ((s.loadBegun_slotBusy _).trans hbusy) (s.fld_lt _)]
    refine ⟨_, rfl, s.loadBegun.pend_busy _ _ _, ?_⟩
    rw [State.pend_slot, if_pos rfl, s.loadBegun_slot]
  · obtain ⟨hslot, -, hevent⟩ := State.pend_setSlot_endKcmd (k := s.fld Reg.CRYP_KSEL_SLOT) (t := s) (st := .pendClear)
      (next := 0) (x := ⟨.empty, (s.slot (s.fld Reg.CRYP_KSEL_SLOT)).ports, 0, 0⟩) hnone hone ⟨by simp, by simp⟩ fun _ => rfl
    rw [exec_clear hfree hcrypt, State.keyClear_of_valid hidle htamper rfl hk0 hst, State.pend_settle_clear hbusy]
    exact ⟨_, rfl, hevent, hslot⟩
  · rw [exec_clearAll hfree hcrypt, State.keyClearAll_of_free hidle htamper hnone hfrees]
    refine ⟨_, rfl, by rw [State.clearAllOver_crypt], fun k hk hk256 hst => ?_, State.verifyClear_shown _ (by decide) v1 v2⟩
    rw [State.clearAllOver_slot, State.clearAllBegun_slot hfrees hk256, Slot.cleared, if_pos ⟨by omega, hst⟩]
    exact ⟨rfl, rfl, rfl⟩
  · rw [exec_keySlotChangeComplete hserve hcrypt]
    refine ⟨_, rfl, ?_⟩
    rw [State.keyChange_slot hbusy (.inl hst), State.settle_of_load hbusy hst, State.slot_setSlot, if_pos rfl]
  · rw [exec_keySlotChangeComplete hserve hcrypt]
    refine ⟨_, rfl, ?_⟩
    rw [State.keyChange_slot hbusy (.inr hst), State.settle_of_clear hbusy hst, State.slot_setSlot, if_pos rfl]
  · rw [exec_keySlotChangeComplete hserve hcrypt, State.keyChange_of_busy hbusy]
  · rw [exec_tamperRise hserve, State.tamperRise_of_crypt hcrypt]
    exact ⟨_, rfl, s.tampered.clearKeys_tamper 2 v1 v2, s.tampered.clearKeys_keyw 2 v1 v2,
      fun k hk hk256 => s.tampered.clearKeys_slot 2 v1 v2 hk hk256, s.tampered.clearKeys_shown 2 v1 v2 (by decide)⟩
  · rw [exec_tamperRise hserve, State.tamperRise_of_plain hplain]
    rfl

end Sys2Proof.Machine

/-! SUPPORT and settlement of the statement about the test port (O39). -/

namespace Sys2Proof.Machine

open Sys2Proof

/-! ## The slices are stopped (R474) -/

theorem State.setRec_regs (s : State) (i v : Nat) : (s.setRec i v).regs = s.regs := rfl

/-- The record's words as the host reads them. -/
def State.recShown (s : State) : State := (List.range 16).foldl (fun s i => s.setFld (Reg.BIST_REC_REC i) (s.recWord i).toNat) s

/-- The slice in progress is INCOMPLETE. -/
def State.sliceCut (s : State) : State :=
  match s.bist.slice with
  | some k => s.noteSlice k 5 none
  | none => s

theorem State.haltSlices_of_run {s : State} (h : s.bist.run = true) : s.haltSlices = s.sliceCut.finishRecord := by
  rw [State.haltSlices, if_neg (by simp [h])]
  rfl

theorem State.haltSlices_of_idle {s : State} (h : s.bist.run = false) : s.haltSlices = s := if_pos (by simp [h])

/-- Of the tile, a record touches the register store and the self-test alone. -/
def State.RecWork (s t : State) : Prop := { t with regs := s.regs, bist := s.bist } = s

theorem State.RecWork.trans {s t u : State} (hst : s.RecWork t) (htu : t.RecWork u) : s.RecWork u :=
  Eq.trans (congrArg (fun x : State => { x with regs := s.regs, bist := s.bist }) htu :) hst

theorem State.recWork_setFld (s : State) (f : FRef) (v : Nat) : s.RecWork (s.setFld f v) := rfl

theorem State.recWork_setRec (s : State) (i v : Nat) : s.RecWork (s.setRec i v) := rfl

theorem State.recWork_bist (s : State) (b : Bist) : s.RecWork { s with bist := b } := rfl

theorem State.recWork_setFlds (s : State) (l : List (FRef × Nat)) : s.RecWork (s.setFlds l) :=
  (congrArg (fun x : State => { x with bist := s.bist }) (State.setFlds_frame l s) :)

theorem State.recWork_recShown (s : State) : s.RecWork s.recShown :=
  List.foldlRecOn (motive := s.RecWork) _ _ rfl fun _ ht _ _ => ht.trans (State.recWork_setFld _ _ _)

theorem State.recWork_sliceCut (s : State) : s.RecWork s.sliceCut := by
  unfold State.sliceCut
  split
  · exact (s.recWork_setRec _ _).trans (State.recWork_setFld _ _ 1)
  · rfl

theorem State.recWork_finishRecord (s : State) : s.RecWork s.finishRecord :=
  (((s.recWork_setRec 15 _).trans (State.recWork_recShown _)).trans (State.recWork_setFlds _ _)).trans (State.recWork_bist _ _)

theorem State.recWork_haltSlices (s : State) : s.RecWork s.haltSlices := by
  cases hrun : s.bist.run with
  | false => rw [State.haltSlices_of_idle hrun]; rfl
  | true => rw [State.haltSlices_of_run hrun]; exact s.recWork_sliceCut.trans (State.recWork_finishRecord _)

theorem State.haltSlices_tap (s : State) : s.haltSlices.tap = s.tap := (congrArg State.tap s.recWork_haltSlices :)
theorem State.haltSlices_frozen (s : State) : s.haltSlices.frozen = s.frozen := (congrArg State.frozen s.recWork_haltSlices :)
theorem State.haltSlices_crypt (s : State) : s.haltSlices.crypt = s.crypt := (congrArg State.crypt s.recWork_haltSlices :)

section
variable {f : FRef}

theorem State.sliceCut_fld (h : Reg.BIST_EVT_INCOMPLETE.Apart f) (s : State) : s.sliceCut.fld f = s.fld f := by
  unfold State.sliceCut
  split
  · rw [State.noteSlice, State.set1, State.setFld_fld_apart h, State.fld_of_regs (s.setRec_regs _ _)]
  · rfl

/-- A record of the self-test touches no field that lies apart from the record and from BIST_STAT and BIST_EVT. -/
theorem State.finishRecord_fld (hrec : ∀ i < 16, (Reg.BIST_REC_REC i).Apart f) (hphase : Reg.BIST_STAT_PHASE.Apart f)
    (hslice : Reg.BIST_STAT_SLICE.Apart f) (hdone : Reg.BIST_EVT_DONE.Apart f) (s : State) : s.finishRecord.fld f = s.fld f := by
  have hshown (t : State) : t.recShown.fld f = t.fld f :=
    foldl_keeps (State.fld · f) (fun u i hi => State.setFld_fld_apart (hrec i (List.mem_range.1 hi)) u _) t
  have hstat (t : State) (l : List (FRef × Nat)) (hl : ∀ p ∈ l, p.1.Apart f) (b : Bist) :
      ({ t.setFlds l with bist := b } : State).fld f = t.fld f :=
    State.setFlds_fld_apart l hl t
  refine (hstat (s.setRec 15 (recordCrc s.recWord)).recShown _ (fun p hp => ?_) _).trans ((hshown _).trans (State.fld_of_regs (s.setRec_regs _ _) f))
  simp only [List.mem_cons, List.not_mem_nil, or_false] at hp
  rcases hp with rfl | rfl | rfl
  · exact hphase
  · exact hslice
  · exact hdone

theorem State.haltSlices_fld (hrec : ∀ i < 16, (Reg.BIST_REC_REC i).Apart f) (hphase : Reg.BIST_STAT_PHASE.Apart f)
    (hslice : Reg.BIST_STAT_SLICE.Apart f) (hdone : Reg.BIST_EVT_DONE.Apart f) (hcut : Reg.BIST_EVT_INCOMPLETE.Apart f) (s : State) :
    s.haltSlices.fld f = s.fld f := by
  cases hrun : s.bist.run with
  | false => rw [State.haltSlices_of_idle hrun]
  | true => rw [State.haltSlices_of_run hrun, State.finishRecord_fld hrec hphase hslice hdone, State.sliceCut_fld hcut]

end

theorem State.haltSlices_verifyFail (s : State) : s.haltSlices.flag Reg.CRYP_KSTAT_VERIFY_FAIL = s.flag Reg.CRYP_KSTAT_VERIFY_FAIL := by
  rw [State.flag, State.haltSlices_fld (by decide) (by decide) (by decide) (by decide) (by decide), State.flag]

/-! ## The instruction (R397, R474, R542) -/

/-- What an instruction that stops service does first: the keys are cleared, the slices stopped. -/
def State.scanReady (s : State) (v1 v2 : Bool) : State := (if s.build.crypt then s.clearKeys 1 v1 v2 else s).haltSlices

theorem State.tapScan_eq (s : State) (ir : Nat) (v1 v2 : Bool) : s.tapScan ir v1 v2 =
    if (s.scanReady v1 v2).flag Reg.CRYP_KSTAT_VERIFY_FAIL then
      { s.scanReady v1 v2 with tap := { (s.scanReady v1 v2).tap with hold := some ir } }
    else (s.scanReady v1 v2).tapTakes ir := rfl

section
variable (s : State) (v1 v2 : Bool)

theorem State.scanReady_tap : (s.scanReady v1 v2).tap = s.tap := by
  rw [State.scanReady, State.haltSlices_tap]
  split
  · exact (congrArg State.tap (s.keyWork_clearKeys 1 v1 v2) :)
  · rfl

theorem State.scanReady_frozen : (s.scanReady v1 v2).frozen = s.frozen := by
  rw [State.scanReady, State.haltSlices_frozen]
  split
  · exact (congrArg State.frozen (s.keyWork_clearKeys 1 v1 v2) :)
  · rfl

theorem State.scanReady_keyw (h : s.build.crypt = true) : (s.scanReady v1 v2).crypt.keyw = [] := by
  rw [State.scanReady, State.haltSlices_crypt, if_pos h, State.clearKeys_keyw]

variable {s v1 v2}

/-- With no failed verification before, none stands where the clear is verified or there are no keys. -/
theorem State.scanReady_verifyFail_of_ok (h : s.flag Reg.CRYP_KSTAT_VERIFY_FAIL = false) (hok : s.build.crypt = false ∨ (v1 || v2) = true) :
    (s.scanReady v1 v2).flag Reg.CRYP_KSTAT_VERIFY_FAIL = false := by
  rw [State.scanReady, State.haltSlices_verifyFail]
  split
  case isTrue hcrypt => rw [State.clearKeys_verifyFail_of_ok _ _ _ _ (hok.resolve_left (by simp [hcrypt])), h]
  case isFalse => exact h

theorem State.scanReady_verifyFail_of_failed (hcrypt : s.build.crypt = true) (hbad : (v1 || v2) = false) :
    (s.scanReady v1 v2).flag Reg.CRYP_KSTAT_VERIFY_FAIL = true := by
  have hshown := s.clearKeys_shown 1 v1 v2 (by decide)
  rw [State.ClearShown, hbad] at hshown
  rw [State.scanReady, State.haltSlices_verifyFail, if_pos hcrypt]
  exact hshown.1

end

/-- The instruction code in force, and that nothing is served any more. -/
theorem State.tapTakes_ir_frozen (s : State) (ir : Nat) : (s.tapTakes ir).tap.ir = ir ∧ (s.tapTakes ir).frozen = true := by
  unfold State.tapTakes
  dsimp only
  split <;> exact ⟨rfl, rfl⟩

theorem State.tapTakes_crypt (s : State) (ir : Nat) : (s.tapTakes ir).crypt = s.crypt := by
  unfold State.tapTakes
  dsimp only
  split <;> rfl

/-- EXTEST drives the levels of the boundary register. -/
theorem State.boundary_mem_tapTakes (s : State) : .boundary s.tap.boundary ∈ (s.tapTakes 3).outputs :=
  List.mem_append_right s.outputs (List.mem_singleton.2 rfl)

section
variable {s : State} {v1 v2 : Bool}

/-- A scan instruction in service whose clear is verified takes effect. -/
theorem scan_takes (h : s.serving = true) (hflag : s.flag Reg.CRYP_KSTAT_VERIFY_FAIL = false) (hok : s.build.crypt = false ∨ (v1 || v2) = true)
    (ir : Nat) : scan s ir v1 v2 = .next (keepPins s ((s.scanReady v1 v2).tapTakes ir)) ∧
      ((s.scanReady v1 v2).tapTakes ir).frozen = true ∧ ((s.scanReady v1 v2).tapTakes ir).tap.ir = ir ∧
      (s.build.crypt = true → ((s.scanReady v1 v2).tapTakes ir).crypt.keyw = []) := by
  obtain ⟨hir, hfrozen⟩ := (s.scanReady v1 v2).tapTakes_ir_frozen ir
  refine ⟨?_, hfrozen, hir, fun hcrypt => ?_⟩
  · rw [scan, if_pos h, State.tapScan_eq, if_neg (by simp [State.scanReady_verifyFail_of_ok hflag hok])]
  · rw [State.tapTakes_crypt, s.scanReady_keyw v1 v2 hcrypt]

/-- One whose clear is not verified is held back. -/
theorem scan_holds (h : s.serving = true) (hcrypt : s.build.crypt = true) (hbad : (v1 || v2) = false) (ir : Nat) :
    ∃ u : State, scan s ir v1 v2 = .next (keepPins s u) ∧ u.frozen = s.frozen ∧ u.tap.hold = some ir := by
  rw [scan, if_pos h, State.tapScan_eq, if_pos (State.scanReady_verifyFail_of_failed hcrypt hbad)]
  exact ⟨_, rfl, s.scanReady_frozen v1 v2, rfl⟩

end

theorem idcodeOf_toNat (mfr : BitVec 11) : (idcodeOf mfr).toNat = 4 * 2 ^ 28 + 0xB401 * 2 ^ 12 + mfr.toNat * 2 + 1 := by
  rw [idcodeOf, BitVec.toNat_ofNat]
  omega

/-- Settles O39. The codes of the instructions are the model's own (log 48); that a scan instruction takes effect at once with TILE_RESET_n low
is log 71. -/
theorem testPortInstructions : Obligations.TestPortInstructions := by
  unfold Obligations.TestPortInstructions
  refine ⟨fun s => ⟨_, rfl, rfl, rfl⟩, fun s => ⟨_, idcodeOf s.build.mfr, rfl, rfl, idcodeOf_toNat _, rfl, rfl⟩,
    fun pins s => ⟨_, rfl, rfl, rfl⟩, fun v1 v2 s hserve hflag => ⟨fun hok => ⟨?_, ?_⟩, fun hcrypt hbad => ⟨?_, ?_⟩⟩,
    fun v1 v2 s hlow => ⟨?_, ?_⟩⟩
  · obtain ⟨hexec, hfrozen, hir, hkeyw⟩ := scan_takes hserve hflag hok 3
    have hout := (s.scanReady v1 v2).boundary_mem_tapTakes
    rw [s.scanReady_tap v1 v2] at hout
    exact ⟨_, hexec, hfrozen, hir, hout, hkeyw⟩
  · exact ⟨_, scan_takes hserve hflag hok 4⟩
  · exact scan_holds hserve hcrypt hbad 3
  · exact scan_holds hserve hcrypt hbad 4
  · exact ⟨s.tapTakes 3, if_neg (by simp [hlow]), rfl, rfl, s.boundary_mem_tapTakes, rfl⟩
  · exact ⟨s.tapTakes 4, if_neg (by simp [hlow]), rfl, rfl, rfl⟩

end Sys2Proof.Machine

/-! SUPPORT and settlement of the statement about the regulator (O40). -/

namespace Sys2Proof.Machine

open Sys2Proof

/-! ## The commands in service -/

section
variable {s : State} (h : s.serving = true)
include h

theorem exec_vreqComplete : exec .vreqComplete s = .next (s.done s.voltDone) := by
  show execVreqComplete s = _
  exact act_next h _

theorem exec_vreqTimeout (word : Option (BitVec 16)) : exec (.vreqTimeout word) s = .next (s.done (s.voltTimeout word)) := by
  show execVreqTimeout word s = _
  exact act_next h _

theorem exec_pwrGoodFall : exec .pwrGoodFall s = .next (s.done s.pgoodFall) := by
  show execPwrGoodFall s = _
  exact act_next h _

theorem exec_pwrGoodRise : exec .pwrGoodRise s = .next (s.done s.pgoodRise) := by
  show execPwrGoodRise s = _
  exact act_next h _

theorem exec_pgoodDownTimeout : exec .pgoodDownTimeout s = .next (s.done s.pgoodDown) := by
  show execPgoodDownTimeout s = _
  exact act_next h _

theorem exec_voutModeReadDone (byte : Option (BitVec 8)) : exec (.voutModeReadDone byte) s = .next (s.done (s.voutMode byte)) := by
  show execVoutModeReadDone byte s = _
  exact act_next h _

theorem exec_vloopWindow (rho : Nat) : exec (.vloopWindow rho) s = .next (s.done (s.vloop rho)) := by
  show execVloopWindow rho s = _
  exact act_next h _

end

/-! ## A request on the bus (R408-R410) -/

theorem State.smbus_regs (s : State) (cmd data : Nat) : (s.smbus cmd data).regs = s.regs := rfl
theorem State.smbus_power (s : State) (cmd data : Nat) : (s.smbus cmd data).power = s.power := rfl

theorem State.sendVolt_power (s : State) (k why tries : Nat) :
    (s.sendVolt k why tries).power = { s.power with vreq := some ⟨k, s.tempo, tries, why⟩ } := by
  rw [State.sendVolt, State.smbus_power, State.setFld_power, State.setFld_tempo]

theorem State.sendVolt_regs (s : State) (k why tries : Nat) : (s.sendVolt k why tries).regs = (s.setFld Reg.PWRM_VSTAT_VCMD k).regs := by
  rw [State.sendVolt, State.smbus_regs]

theorem State.sendVolt_fld {f : FRef} (h : Reg.PWRM_VSTAT_VCMD.Apart f) (s : State) (k why tries : Nat) :
    (s.sendVolt k why tries).fld f = s.fld f := by
  rw [State.fld_of_regs (s.sendVolt_regs k why tries), State.setFld_fld_apart h]

theorem State.sendVolt_flag {f : FRef} (h : Reg.PWRM_VSTAT_VCMD.Apart f) (s : State) (k why tries : Nat) :
    (s.sendVolt k why tries).flag f = s.flag f := by
  rw [State.flag, State.sendVolt_fld h, State.flag]

/-- With a usable VOUT_MODE and no request in flight, the voltage asked for goes on the bus. -/
theorem State.askVolt_of_free {s : State} (hmode : s.flag Reg.PWRM_VSTAT_MODE_OK = true) (hfree : s.power.vreq = none) (k why : Nat) :
    s.askVolt k why = s.sendVolt (stepCode k) why 1 := by
  rw [State.askVolt, if_neg (by simp [hmode]), hfree]

/-- No request is in flight, and none waits. -/
def State.voltFreed (s : State) : State := { s with power := { s.power with vreq := none, vnext := none } }

theorem State.nextVolt_of_none {s : State} (h : s.power.vnext = none) : s.nextVolt = s.voltFreed := by
  rw [State.nextVolt, h]
  rfl

theorem State.nextVolt_of_some {s : State} {n : VReq} (h : s.power.vnext = some n) : s.nextVolt = s.voltFreed.sendVolt n.target n.why 1 := by
  rw [State.nextVolt, h]
  rfl

theorem State.nextVolt_fld {f : FRef} (h : Reg.PWRM_VSTAT_VCMD.Apart f) (s : State) : s.nextVolt.fld f = s.fld f := by
  cases hnext : s.power.vnext with
  | none => rw [State.nextVolt_of_none hnext]; rfl
  | some n => rw [State.nextVolt_of_some hnext, State.sendVolt_fld h]; rfl

/-! ## VREQ_COMPLETE and VREQ_TIMEOUT (R410, R420, R427) -/

/-- A request is complete: the voltage is recorded, at the time `d` the request ended. -/
def State.voltReached (s : State) (v : VReq) (d : Tempo) : State :=
  let t := (s.advanceTo d).setFld Reg.PWRM_VSTAT_VACK v.target
  { t with power := { t.power with vmaxDone := t.power.vmaxDone || v.why == 0 } }

theorem State.voltDone_of_some {s : State} {v : VReq} (hreq : s.power.vreq = some v) (hgood : s.power.pgood = true) :
    ∃ d : Tempo, s.voltDone = (s.voltReached v d).nextVolt := by
  simp only [State.voltDone, hreq, hgood, Bool.not_true, Bool.false_eq_true, if_false]
  exact ⟨_, rfl⟩

theorem State.voltDone_of_none {s : State} (h : s.power.vreq = none) : s.voltDone = s := by rw [State.voltDone, h]

theorem State.voltReached_regs (s : State) (v : VReq) (d : Tempo) :
    (s.voltReached v d).regs = ((s.advanceTo d).setFld Reg.PWRM_VSTAT_VACK v.target).regs := by rw [State.voltReached]

theorem State.voltReached_vack (s : State) {v : VReq} (h : v.target ≤ 30) (d : Tempo) :
    (s.voltReached v d).fld Reg.PWRM_VSTAT_VACK = v.target := by
  rw [State.fld_of_regs (s.voltReached_regs v d)]
  exact State.setFld_fld_same _ (by decide) (by decide) (lt_of_le_of_lt h (by decide))

theorem State.voltReached_vnext (s : State) (v : VReq) (d : Tempo) : (s.voltReached v d).power.vnext = s.power.vnext := by
  rw [State.voltReached, State.setFld_power, State.advanceTo_power]

/-- The end of a request in flight when it timed out, and what STATUS_WORD answered. -/
def State.voltLate (s : State) (v : VReq) (w : Option (BitVec 16)) : State := (s.advanceTo (v.start + ns 2000000)).statusWord w

theorem State.statusWord_read (s : State) (w : BitVec 16) : (s.statusWord (some w)).fld Reg.PWRM_RSTAT_STATUS = w.toNat := by
  rw [State.statusWord, State.clr, State.setFld_fld_apart (by decide)]
  exact State.setFld_fld_same _ (by decide) (by decide) w.isLt

theorem State.statusWord_failed (s : State) : (s.statusWord none).flag Reg.PWRM_RSTAT_RD_FAIL = true := by
  rw [State.statusWord]
  exact State.set1_flag_same _ (by decide) (by decide)

theorem State.voltTimeout_of_none {s : State} (h : s.power.vreq = none) (w : Option (BitVec 16)) : s.voltTimeout w = s := by rw [State.voltTimeout, h]

/-- The request that goes out a second time; one of a wake is recorded. -/
def State.voltAgain (s : State) (v : VReq) : State := (if v.why = 3 then s.set1 Reg.PWRM_EVT_WAKE_FAIL else s).sendVolt v.target v.why 2

theorem State.voltTimeout_of_first {s : State} {v : VReq} (hreq : s.power.vreq = some v) (htries : v.tries < 2) (w : Option (BitVec 16)) :
    s.voltTimeout w = (s.voltLate v w).voltAgain v := by
  simp only [State.voltTimeout, hreq, htries, if_true]
  rfl

theorem State.voltTimeout_of_second {s : State} {v : VReq} (hreq : s.power.vreq = some v) (htries : 2 ≤ v.tries) (w : Option (BitVec 16)) :
    s.voltTimeout w = (s.voltLate v w).nextVolt.voltFailed v.why := by
  simp only [State.voltTimeout, hreq, Nat.not_lt.2 htries, if_false]
  rfl

theorem State.voltAgain_fld {f : FRef} (hcmd : Reg.PWRM_VSTAT_VCMD.Apart f) (hevt : Reg.PWRM_EVT_WAKE_FAIL.Apart f) (s : State) (v : VReq) :
    (s.voltAgain v).fld f = s.fld f := by
  rw [State.voltAgain, State.sendVolt_fld hcmd]
  split
  · exact State.setFld_fld_apart hevt s 1
  · rfl

theorem State.voltAgain_vreq (s : State) (v : VReq) : ∃ t : Tempo, (s.voltAgain v).power.vreq = some ⟨v.target, t, 2, v.why⟩ := by
  rw [State.voltAgain, State.sendVolt_power]
  exact ⟨_, rfl⟩

/-- A request that failed twice is recorded and reported; in service and in BRINGUP the loop stops. -/
theorem State.voltFailed_shows (s : State) (why : Nat) : (s.voltFailed why).flag Reg.PWRM_EVT_VREQ_FAIL = true ∧
    (why ≠ 2 → why ≠ 3 → (s.voltFailed why).power.vstop = true) ∧
    ∃ r ∈ (s.voltFailed why).fault.reports, r.src = (if why = 2 then 0x2F else if why = 3 then 0x30 else 0x2C) := by
  have hset (t : State) : (t.set1 Reg.PWRM_EVT_VREQ_FAIL).flag Reg.PWRM_EVT_VREQ_FAIL = true := t.set1_flag_same (by decide) (by decide)
  unfold State.voltFailed
  split
  · rw [State.raise_flag]
    exact ⟨hset s, fun h => absurd rfl h, State.exists_report_of_raise _ _ _⟩
  · rw [State.raise_flag, State.set1, State.setFld_flag_apart (by decide)]
    exact ⟨hset s, fun _ h => absurd rfl h, State.exists_report_of_raise _ _ _⟩
  · next h2 h3 =>
    rw [if_neg h2, if_neg h3, State.raise_flag, State.raise_power, State.set1_power]
    exact ⟨hset _, fun _ _ => rfl, State.exists_report_of_raise _ _ _⟩

/-! ## PWR_GOOD (R411) -/

section
variable {s : State}

theorem State.pgoodFall_of_low (h : s.power.pgood = false) : s.pgoodFall = s := if_pos (by simp [h])

/-- PWR_GOOD is low from now on; `out` tells that it fell outside a request. -/
def State.pgoodFallen (s : State) (out : Bool) : State := { s with power := { s.power with pgood := false, pgAt := s.tempo, pgLost := out } }

theorem State.pgoodFall_outside (h : s.power.pgood = true) (hfree : s.power.vreq = none) :
    s.pgoodFall = ((s.pgoodFallen true).set1 Reg.PWRM_EVT_PGOOD_LOST).raise 0x2D nowhere := by
  have hnone : s.power.vreq.isNone = true := by rw [hfree]; rfl
  simp only [State.pgoodFall, h, hnone, Bool.not_true, Bool.false_eq_true, if_false, if_true]
  rfl

theorem State.pgoodFall_within (h : s.power.pgood = true) (hreq : s.power.vreq.isSome = true) : s.pgoodFall = s.pgoodFallen false := by
  have hnone : s.power.vreq.isNone = false := by simpa using hreq
  simp only [State.pgoodFall, h, hnone, Bool.not_true, Bool.false_eq_true, if_false]
  rfl

theorem State.pgoodRise_of_high (h : s.power.pgood = true) : s.pgoodRise = s := if_pos h

theorem State.pgoodRise_of_low (h : s.power.pgood = false) :
    s.pgoodRise = { s with power := { s.power with pgood := true, pgAt := s.tempo, pgLost := false } } := if_neg (by simp [h])

theorem State.pgoodDown_of_kept (h : s.power.pgLost = false) : s.pgoodDown = s := if_pos (by simp [h])

theorem State.pgoodDown_of_lost (h : s.power.pgLost = true) : s.pgoodDown =
    State.raise { s.advanceTo (s.power.pgAt + ns 2000000) with power := { s.power with pgLost := false } } 0x2E nowhere := if_neg (by simp [h])

end

/-! ## VOUT_MODE (R409) -/

section
variable {s : State} (hmode : s.flag Reg.PWRM_VSTAT_MODE_OK = false)
include hmode

/-- A byte in linear format, its exponent within range, is kept, and the highest voltage is asked for. -/
theorem State.voutMode_of_linear (hfails : s.power.vmodeFails < 2) {b : BitVec 8} (hlinear : b.toNat / 32 = 0) (hlow : 16 ≤ b.toNat)
    (hhigh : b.toNat ≤ 24) : s.voutMode (some b) =
      ((s.setFld Reg.PWRM_VSTAT_EXP b.toNat).set1 Reg.PWRM_VSTAT_MODE_OK).askVolt (s.fld Reg.PWRM_VLIM_VMAX) 0 := by
  have hmod : b.toNat % 32 = b.toNat := Nat.mod_eq_of_lt (by omega)
  simp only [State.voutMode, hmode, Nat.not_le.2 hfails, decide_false, Bool.or_self, Bool.false_eq_true, if_false, hmod, hlinear, hlow, hhigh,
    and_self, if_true, State.setFld_fld_apart (f := Reg.PWRM_VSTAT_EXP) (g := Reg.PWRM_VLIM_VMAX) (by decide)]

theorem State.voutMode_of_second_failure (hfails : s.power.vmodeFails = 1) :
    s.voutMode none = State.set1 { s with power := { s.power with vmodeFails := 2 } } Reg.PWRM_EVT_VMODE := by
  simp only [State.voutMode, hmode, hfails, Bool.false_or, show decide (2 ≤ 1) = false from rfl, Bool.false_eq_true, if_false, if_true]

end

/-! ## The voltage loop (R412) -/

theorem stepCode_of_le {k : Nat} (h : k ≤ 30) : stepCode k = k := Nat.min_eq_left h

theorem stepCode_le (k : Nat) : stepCode k ≤ 30 := Nat.min_le_right _ _

/-- A window of the loop has ended: its demand is shown. -/
def State.demandShown (s : State) (rho : Nat) : State :=
  (s.periodic tmrVloop (1000 * max 1 (s.fld Reg.PWRM_VLOOP_WIN))).setFld Reg.PWRM_VSTAT_DEMAND (min rho 100)

theorem State.demandShown_fld {f : FRef} (h : Reg.PWRM_VSTAT_DEMAND.Apart f) (s : State) (rho : Nat) : (s.demandShown rho).fld f = s.fld f := by
  rw [State.demandShown, State.setFld_fld_apart h]
  exact (congrArg (State.fld · f) (s.periodic_frame _ _) :)

theorem State.demandShown_flag {f : FRef} (h : Reg.PWRM_VSTAT_DEMAND.Apart f) (s : State) (rho : Nat) : (s.demandShown rho).flag f = s.flag f := by
  rw [State.flag, State.demandShown_fld h, State.flag]

theorem State.demandShown_power (s : State) (rho : Nat) : (s.demandShown rho).power = s.power := by
  rw [State.demandShown, State.setFld_power]
  exact (congrArg State.power (s.periodic_frame _ _) :)

theorem State.demandShown_fullDemand (s : State) (rho : Nat) : (s.demandShown rho).fullDemand = s.fullDemand := by
  have hqes : (s.demandShown rho).qes = s.qes := by
    rw [State.demandShown, State.setFld_qes]
    exact (congrArg State.qes (s.periodic_frame _ _) :)
  rw [State.fullDemand, State.demandShown_fld (by decide), hqes, State.fullDemand]

theorem State.demandShown_demand (s : State) (rho : Nat) : (s.demandShown rho).fld Reg.PWRM_VSTAT_DEMAND = min rho 100 :=
  State.setFld_fld_same _ (by decide) (by decide) (lt_of_le_of_lt (Nat.min_le_right _ _) (by decide))

/-- The count of windows of low demand. -/
def State.setLow (s : State) (n : Nat) : State := { s with power := { s.power with low := n } }

theorem State.setLow_regs (s : State) (n : Nat) : (s.setLow n).regs = s.regs := rfl
theorem State.setLow_power (s : State) (n : Nat) : (s.setLow n).power = { s.power with low := n } := rfl

/-- What the loop does once a window's demand is shown: a step up or down, or to the highest voltage at full demand. -/
def State.windowActs (s : State) (rho : Nat) : State :=
  let cur := s.fld Reg.PWRM_VSTAT_VCMD
  let vmax := stepCode (s.fld Reg.PWRM_VLIM_VMAX)
  let vmin := stepCode (s.fld Reg.PWRM_VLIM_VMIN)
  let (target, low) :=
    if s.fullDemand then (vmax, s.power.low)
    else if s.fld Reg.PWRM_VLOOP_UP ≤ rho then (min (cur + 1) vmax, 0)
    else if rho ≤ s.fld Reg.PWRM_VLOOP_DN then
      (if s.fld Reg.PWRM_VLOOP_HOLD ≤ s.power.low + 1 then (max (cur - 1) vmin, 0) else (cur, s.power.low + 1))
    else (cur, 0)
  if target = cur ∨ (s.setLow low).power.vstop = true then s.setLow low else (s.setLow low).askVolt target 1

theorem State.vloop_of_on {s : State} (hen : s.flag Reg.PWRM_VLOOP_EN = true) (hservice : s.inService = true) (rho : Nat) :
    s.vloop rho = (s.demandShown rho).windowActs rho := if_neg (by simp [hen, hservice])

/-- At UP or above, below the highest voltage, the loop asks for one step more. -/
theorem State.windowActs_of_up {s : State} {rho : Nat} (hstop : s.power.vstop = false) (hfull : s.fullDemand = false)
    (hup : s.fld Reg.PWRM_VLOOP_UP ≤ rho) (hlow : s.fld Reg.PWRM_VSTAT_VCMD < stepCode (s.fld Reg.PWRM_VLIM_VMAX)) :
    s.windowActs rho = (s.setLow 0).askVolt (s.fld Reg.PWRM_VSTAT_VCMD + 1) 1 := by
  have hkeep : (s.setLow 0).power.vstop = false := hstop
  simp only [State.windowActs, hfull, hup, hkeep, Nat.min_eq_left (Nat.succ_le_of_lt hlow), Bool.false_eq_true, if_false, if_true, or_false,
    Nat.succ_ne_self]

theorem State.vloop_of_off {s : State} (h : s.flag Reg.PWRM_VLOOP_EN = false) (rho : Nat) : s.vloop rho = s := if_pos (by simp [h])

/-- Settles O40. That an event with nothing to act on changes nothing is log 4. -/
theorem regulatorEventsAct : Obligations.RegulatorEventsAct := by
  unfold Obligations.RegulatorEventsAct
  refine ⟨fun v s hserve hreq htarget hgood => ?_, fun v word s hserve hreq => ⟨fun htries => ?_, fun htries => ?_⟩,
    fun word s hserve hnone => ?_,
    fun s hserve => ⟨fun hgood hnone => ?_, fun hgood hreq => ?_, fun hlow => ?_, fun hlow => ?_, fun hgood => ?_, fun hlost => ?_,
      fun hkept => ?_⟩,
    fun s hserve hmode hfails => ⟨fun b hlinear hlow hhigh hnone => ?_, fun hone => ?_⟩,
    fun rho s hserve => ⟨fun hen hservice hmode hnone hstop hfull hup hlow => ?_, fun hoff => ?_⟩⟩
  · obtain ⟨d, hdone⟩ := State.voltDone_of_some hreq hgood
    rw [exec_vreqComplete hserve, hdone]
    refine ⟨_, rfl, ?_, fun hnext => ?_, fun n hnext => ?_⟩
    · rw [State.nextVolt_fld (by decide), s.voltReached_vack htarget]
    · rw [State.nextVolt_of_none ((s.voltReached_vnext v d).trans hnext)]
      rfl
    · rw [State.nextVolt_of_some ((s.voltReached_vnext v d).trans hnext), State.sendVolt_power]
      exact ⟨_, rfl⟩
  · obtain ⟨t, hvreq⟩ := (s.voltLate v word).voltAgain_vreq v
    rw [exec_vreqTimeout hserve, State.voltTimeout_of_first hreq htries]
    refine ⟨_, t, rfl, hvreq, fun w hw => ?_, fun hw => ?_⟩
    · rw [State.voltAgain_fld (by decide) (by decide), State.voltLate, hw, State.statusWord_read]
    · rw [State.flag, State.voltAgain_fld (by decide) (by decide), State.voltLate, hw]
      exact State.statusWord_failed _
  · rw [exec_vreqTimeout hserve, State.voltTimeout_of_second hreq htries]
    exact ⟨_, rfl, State.voltFailed_shows _ _⟩
  · rw [exec_vreqComplete hserve, exec_vreqTimeout hserve, State.voltDone_of_none hnone, State.voltTimeout_of_none hnone]
    exact ⟨rfl, rfl⟩
  · rw [exec_pwrGoodFall hserve, State.pgoodFall_outside hgood hnone]
    refine ⟨_, rfl, rfl, rfl, ?_, State.exists_report_of_raise _ _ _⟩
    rw [State.raise_flag]
    exact State.set1_flag_same _ (by decide) (by decide)
  · rw [exec_pwrGoodFall hserve, State.pgoodFall_within hgood hreq]
    exact ⟨_, rfl, rfl, rfl, rfl⟩
  · rw [exec_pwrGoodRise hserve, State.pgoodRise_of_low hlow]
    exact ⟨_, rfl, rfl, rfl, rfl⟩
  · rw [exec_pwrGoodFall hserve, State.pgoodFall_of_low hlow]
  · rw [exec_pwrGoodRise hserve, State.pgoodRise_of_high hgood]
  · rw [exec_pgoodDownTimeout hserve, State.pgoodDown_of_lost hlost]
    exact ⟨_, rfl, rfl, State.exists_report_of_raise _ _ _⟩
  · rw [exec_pgoodDownTimeout hserve, State.pgoodDown_of_kept hkept]
  · have hok := (s.setFld Reg.PWRM_VSTAT_EXP b.toNat).set1_flag_same (f := Reg.PWRM_VSTAT_MODE_OK) (by decide) (by decide)
    have hpower : ((s.setFld Reg.PWRM_VSTAT_EXP b.toNat).set1 Reg.PWRM_VSTAT_MODE_OK).power = s.power := by
      rw [State.set1_power, State.setFld_power]
    rw [exec_voutModeReadDone hserve, State.voutMode_of_linear hmode hfails hlinear hlow hhigh,
      State.askVolt_of_free hok ((congrArg Power.vreq hpower).trans hnone)]
    refine ⟨_, rfl, ?_, ?_, ?_⟩
    · rw [State.sendVolt_flag (by decide), hok]
    · rw [State.sendVolt_fld (by decide), State.set1, State.setFld_fld_apart (by decide)]
      exact State.setFld_fld_same _ (by decide) (by decide) (lt_of_le_of_lt hhigh (by decide))
    · rw [State.sendVolt_power, State.set1_tempo, State.setFld_tempo]
  · rw [exec_voutModeReadDone hserve, State.voutMode_of_second_failure hmode hone]
    exact ⟨_, rfl, State.set1_flag_same _ (by decide) (by decide)⟩
  · have hok : ((s.demandShown rho).setLow 0).flag Reg.PWRM_VSTAT_MODE_OK = true := by
      rw [State.flag_of_regs (State.setLow_regs _ 0), State.demandShown_flag (by decide), hmode]
    have hfree : ((s.demandShown rho).setLow 0).power.vreq = none := by rw [State.setLow_power, State.demandShown_power, hnone]
    have hstep := stepCode_of_le (le_trans (Nat.succ_le_of_lt hlow) (stepCode_le _))
    have hcmd := s.demandShown_fld (f := Reg.PWRM_VSTAT_VCMD) (by decide) rho
    have hacts : (s.demandShown rho).windowActs rho = ((s.demandShown rho).setLow 0).askVolt (s.fld Reg.PWRM_VSTAT_VCMD + 1) 1 := by
      rw [← hcmd]
      refine State.windowActs_of_up ((congrArg Power.vstop (s.demandShown_power rho)).trans hstop)
        ((s.demandShown_fullDemand rho).trans hfull) ?_ ?_
      · rwa [State.demandShown_fld (by decide)]
      · rwa [hcmd, State.demandShown_fld (by decide)]
    rw [exec_vloopWindow hserve, State.vloop_of_on hen hservice, hacts, State.askVolt_of_free hok hfree, hstep]
    refine ⟨_, _, rfl, by rw [State.sendVolt_power], ?_⟩
    rw [State.sendVolt_fld (by decide), State.fld_of_regs (State.setLow_regs _ 0), State.demandShown_demand]
  · rw [exec_vloopWindow hserve, State.vloop_of_off hoff]

end Sys2Proof.Machine

/-! SUPPORT. What the work on training, on the queues and on the registers of other pages leaves as it is: the mode, the power state, the locks,
the Check Timers, and the registers of pages FLTC and PWRM (O41, O45). -/

namespace Sys2Proof.Machine

open Sys2Proof

/-- The mode, the power state, the locks and the Check Timers. -/
def State.standing (s : State) : Mode × Mode × Bool × Power × Tab (Option Lock) × List ChkTimer :=
  (s.mode, s.sleepFrom, s.memReady, s.power, s.locks, s.fault.timers)

/-- From `s` to `t` the mode, the power state, the locks and the Check Timers stand, no entry enters empty queues, and a register of page FLTC or
PWRM reads as before. -/
structure State.Steady (s t : State) : Prop where
  standing : t.standing = s.standing
  qes : s.qes = [] → t.qes = []
  fld : ∀ f : FRef, 0x1000 ≤ f.key → f.key < 0x3000 → t.fld f = s.fld f

theorem State.Steady.refl (s : State) : s.Steady s := ⟨rfl, id, fun _ _ _ => rfl⟩

theorem State.Steady.trans {s t u : State} (hst : s.Steady t) (htu : t.Steady u) : s.Steady u :=
  ⟨htu.standing.trans hst.standing, htu.qes ∘ hst.qes, fun f hlo hhi => (htu.fld f hlo hhi).trans (hst.fld f hlo hhi)⟩

theorem State.Steady.foldl {α : Type} {f : State → α → State} (hf : ∀ (t : State) (a : α), t.Steady (f t a)) (l : List α) (s : State) :
    s.Steady (l.foldl f s) :=
  List.foldlRecOn (motive := s.Steady) l f (.refl s) fun t ht a _ => ht.trans (hf t a)

/-- An operation on other parts of the tile, the queues among them. -/
theorem State.Steady.of_eq {s t : State} (hstanding : t.standing = s.standing) (hqes : s.qes = [] → t.qes = []) (hregs : t.regs = s.regs) :
    s.Steady t :=
  ⟨hstanding, hqes, fun f _ _ => State.fld_of_regs hregs f⟩

theorem State.Steady.mode {s t : State} (h : s.Steady t) : t.mode = s.mode := congrArg Prod.fst h.standing

theorem State.Steady.power {s t : State} (h : s.Steady t) : t.power = s.power := congrArg (·.2.2.2.1) h.standing

theorem State.Steady.sleepFrom {s t : State} (h : s.Steady t) : t.sleepFrom = s.sleepFrom := congrArg (·.2.1) h.standing

theorem State.Steady.flag {s t : State} (h : s.Steady t) {f : FRef} (hlo : 0x1000 ≤ f.key) (hhi : f.key < 0x3000) : t.flag f = s.flag f := by
  rw [State.flag, h.fld f hlo hhi, State.flag]

/-- A field of another page. -/
abbrev FRef.Elsewhere (f : FRef) : Prop := f.key < 0x1000 ∨ 0x3000 ≤ f.key

theorem State.steady_setFld (s : State) {f : FRef} (h : f.Elsewhere) (v : Nat) : s.Steady (s.setFld f v) where
  standing := rfl
  qes := id
  fld g hlo hhi := State.setFld_fld_ne s f g v (by omega)

theorem State.steady_mapQEs (s : State) (c : QE → Bool) (f : QE → QE) : s.Steady (s.mapQEs c f) :=
  .of_eq rfl (fun h => by rw [State.mapQEs, h]; rfl) rfl

theorem State.steady_mapQE (s : State) (tag : Nat) (f : QE → QE) : s.Steady (s.mapQE tag f) := s.steady_mapQEs _ _

theorem State.steady_setSub (s : State) (sc : Nat) (x : Sub) : s.Steady (s.setSub sc x) := .of_eq rfl id rfl

theorem State.steady_setEng (s : State) (i : Nat) (x : Eng) : s.Steady (s.setEng i x) := .of_eq rfl id rfl

theorem State.steady_filterQEs (s : State) (c : QE → Bool) : s.Steady { s with qes := s.qes.filter c } :=
  .of_eq rfl (fun h => by rw [h]; rfl) rfl

theorem State.steady_setErase (s : State) (i : Nat) (x : Option Erase) : s.Steady (s.setErase i x) := .of_eq rfl id rfl

theorem State.steady_setEp (s : State) (c : Nat) (x : EpCh) : s.Steady (s.setEp c x) := .of_eq rfl id rfl

theorem State.steady_setEpRank (s : State) (sc rk : Nat) (x : Option EpRank) : s.Steady (s.setEpRank sc rk x) := s.steady_setEp _ _

/-! ## Proposals and accesses of training are given up (R169, R375, R379) -/

theorem State.steady_withdraw (s : State) (c : QE → Bool) : s.Steady (s.withdraw c) := by
  refine .foldl (fun t x => ?_) _ s
  dsimp only
  split
  · exact ((t.steady_setSub _ _).trans (State.steady_setEng _ _ _)).trans (State.steady_mapQE _ _ _)
  · exact .refl t

theorem State.steady_dropTrain (s : State) (sc rk : Nat) : s.Steady (s.dropTrain sc rk) :=
  ((s.steady_withdraw _).trans (State.steady_filterQEs _ _)).trans (State.steady_mapQEs _ _ _)

theorem State.steady_epUnmark (s : State) (sc rk : Nat) : s.Steady (s.epUnmark sc rk) := by
  unfold State.epUnmark
  split
  · split
    · exact s.steady_setErase _ _
    · exact .refl s
  · exact .refl s

theorem State.steady_pendGroup (s : State) (sc rk g : Nat) (f : Trim → Trim) : s.Steady (s.pendGroup sc rk g f) := .of_eq rfl id rfl

theorem State.steady_restoreGroup (s : State) (sc rk g : Nat) : s.Steady (s.restoreGroup sc rk g) :=
  .foldl (fun t _ => t.steady_pendGroup _ _ _ _) _ s

theorem State.steady_epAbort (s : State) (sc rk : Nat) : s.Steady (s.epAbort sc rk) := by
  unfold State.epAbort
  split
  · exact .refl s
  split
  · rename_i r _ _ _ x rest _ _
    have hgone := (s.steady_dropTrain sc rk).trans
      (State.steady_setEpRank _ sc rk (some { r with todo := rest ++ [x], begun := false, bad := 0 }))
    have hcount (t : State) : t.Steady (((t.bump Reg.BOOK_CNT1_ABORT).set1 Reg.BOOK_EVT_ABORT).epUnmark sc rk) :=
      ((t.steady_setFld (by decide) _).trans (State.steady_setFld _ (by decide) 1)).trans (State.steady_epUnmark _ sc rk)
    dsimp only
    split
    · exact hgone.trans (hcount _)
    · exact (hgone.trans (State.steady_restoreGroup _ _ _ _)).trans (hcount _)
  · exact .refl s

theorem State.steady_epAbortCh (s : State) (c : Nat) : s.Steady (s.epAbortCh c) :=
  .foldl (fun _ sc => .foldl (fun t rk => t.steady_epAbort sc rk) _ _) _ s

theorem State.steady_epDrop (s : State) (c : Nat) : s.Steady (s.epDrop c) :=
  (State.Steady.foldl (fun _ sc => .foldl (fun t rk => (t.steady_epUnmark sc rk).trans (State.steady_dropTrain _ sc rk)) _ _) _ s).trans
    (State.steady_setEp _ c _)

/-! ## A pass goes on (R369, R370) -/

theorem State.steady_epEnd (s : State) (c : Nat) : s.Steady (s.epEnd c) := by
  have hlast : (Reg.BOOK_PASS_LAST c).Elsewhere := .inr (by simp only [FRef.key, regKey, Reg.BOOK_PASS_LAST]; omega)
  rw [State.epEnd]
  split
  · exact ((s.steady_setEp c _).trans (State.steady_setFld _ hlast _)).trans (State.steady_setFld _ (by decide) 1)
  · exact .refl s

theorem State.steady_epBegin (s : State) (sc rk fuel : Nat) : s.Steady (s.epBegin sc rk fuel) := by
  induction fuel generalizing s with
  | zero => exact .refl s
  | succ fuel ih =>
    have hset := s.steady_setEpRank sc rk
    rw [State.epBegin]
    split
    · exact .refl s
    split
    · exact .refl s
    · exact s.steady_epEnd _
    dsimp only
    split
    · split
      · exact (hset _).trans (ih _)
      split
      · exact hset _
      · exact ((s.steady_setFld (by decide) 1).trans (State.steady_setEpRank _ sc rk _)).trans (ih _)
    · split
      · exact hset _
      · exact (s.steady_setErase _ _).trans (State.steady_setEpRank _ sc rk _)

theorem State.steady_epResume (s : State) (c : Nat) : s.Steady (s.epResume c) :=
  .foldl (fun _ sc => .foldl (fun t rk => by
    split
    · exact t.steady_epBegin sc rk 24
    · exact .refl t) _ _) _ s

end Sys2Proof.Machine

/-! SUPPORT and settlement of the statement about the SLEEP vote (O41). -/

namespace Sys2Proof.Machine

open Sys2Proof

/-! ## The commands in service -/

section
variable {s : State} (h : s.serving = true)
include h

theorem exec_idleTimerExpiry : exec .idleTimerExpiry s = .next (s.done s.idleExpiry) := by
  show execIdleTimerExpiry s = _
  exact act_next h _

theorem exec_voteAgree (v : Nat) : exec (.voteAgree v) s = .next (s.done (s.voteAgree v)) := by
  show execVoteAgree v s = _
  exact act_next h _

theorem exec_voteRefuse (v : Nat) : exec (.voteRefuse v) s = .next (s.done (s.voteRefuse v)) := by
  show execVoteRefuse v s = _
  exact act_next h _

theorem exec_voteWithdraw (v : Nat) : exec (.voteWithdraw v) s = .next (s.done (s.voteWithdraw v)) := by
  show execVoteWithdraw v s = _
  exact act_next h _

theorem exec_voteTimeout : exec .voteTimeout s = .next (s.done s.voteTimeout) := by
  show execVoteTimeout s = _
  exact act_next h _

end

/-! ## A vote ends without SLEEP (R417, R418) -/

theorem State.touchIdle_regs (s : State) : s.touchIdle.regs = s.regs := rfl
theorem State.touchIdle_mode (s : State) : s.touchIdle.mode = s.mode := rfl
theorem State.touchIdle_vote (s : State) : s.touchIdle.power.vote = s.power.vote := rfl

theorem State.countRefusal_mode (s : State) (v : Nat) : (s.countRefusal v).mode = s.mode := s.setFld_mode _ _

/-- The registers of a vote are none of the counts of refusals. -/
theorem State.countRefusal_fld (s : State) (v : Nat) {f : FRef} (h : f.key ≠ 0x2060 ∧ f.key ≠ 0x2064) : (s.countRefusal v).fld f = s.fld f := by
  obtain ⟨hlow, hhigh⟩ := h
  refine State.setFld_fld_ne _ _ _ _ ?_
  simp only [FRef.key, regKey] at hlow hhigh ⊢
  omega

/-- The vote is over, with what ended it. -/
def State.voteEnded (s : State) (cause : Nat) : State :=
  (State.setFld { s with power := { s.power with vote := none, idle := none } } Reg.PWRM_VOTE_LAST cause).set1 Reg.PWRM_EVT_REFUSED

theorem State.voteEnded_mode (s : State) (cause : Nat) : (s.voteEnded cause).mode = s.mode := by
  rw [State.voteEnded, State.set1_mode, State.setFld_mode]

theorem State.voteEnded_vote (s : State) (cause : Nat) : (s.voteEnded cause).power.vote = none := by
  rw [State.voteEnded, State.set1_power, State.setFld_power]

theorem State.voteEnded_fld {f : FRef} (hlast : Reg.PWRM_VOTE_LAST.Apart f) (hevt : Reg.PWRM_EVT_REFUSED.Apart f) (s : State) (cause : Nat) :
    (s.voteEnded cause).fld f = s.fld f := by
  rw [State.voteEnded, State.set1, State.setFld_fld_apart hevt, State.setFld_fld_apart hlast]
  rfl

/-- Every voter resumes its work. -/
def State.votersResume (s : State) : State := (List.range 4).foldl (fun s c => s.epResume c) s

theorem State.steady_votersResume (s : State) : s.Steady s.votersResume := .foldl State.steady_epResume _ s

theorem State.abortVote_eq (s : State) (cause : Nat) : s.abortVote cause = (s.voteEnded cause).votersResume.touchIdle := rfl

theorem State.abortVote_mode (s : State) (cause : Nat) : (s.abortVote cause).mode = s.mode := by
  rw [State.abortVote_eq, State.touchIdle_mode, (State.steady_votersResume _).mode, State.voteEnded_mode]

theorem State.abortVote_vote (s : State) (cause : Nat) : (s.abortVote cause).power.vote = none := by
  rw [State.abortVote_eq, State.touchIdle_vote, (State.steady_votersResume _).power, State.voteEnded_vote]

theorem State.abortVote_fld (s : State) (cause : Nat) {f : FRef} (hlo : 0x1000 ≤ f.key) (hhi : f.key < 0x3000) :
    (s.abortVote cause).fld f = (s.voteEnded cause).fld f := by
  rw [State.abortVote_eq, State.fld_of_regs (State.touchIdle_regs _), (State.steady_votersResume _).fld f hlo hhi]

/-- An aborted vote records what ended it. -/
theorem State.abortVote_last (s : State) {cause : Nat} (h : cause < 16) : (s.abortVote cause).fld Reg.PWRM_VOTE_LAST = cause := by
  rw [s.abortVote_fld cause (by decide) (by decide), State.voteEnded, State.set1, State.setFld_fld_apart (by decide)]
  exact State.setFld_fld_same _ (by decide) (by decide) h

theorem State.abortVote_refused (s : State) (cause : Nat) : (s.abortVote cause).flag Reg.PWRM_EVT_REFUSED = true := by
  rw [State.flag, s.abortVote_fld cause (by decide) (by decide)]
  exact State.set1_flag_same _ (by decide) (by decide)

/-- A voter's reason ends the vote. -/
theorem State.countRefusal_abortVote (s : State) {v : Nat} (hv : v < 8) :
    ((s.countRefusal v).abortVote v).power.vote = none ∧ ((s.countRefusal v).abortVote v).mode = s.mode ∧
      ((s.countRefusal v).abortVote v).fld Reg.PWRM_VOTE_LAST = v ∧ ((s.countRefusal v).abortVote v).flag Reg.PWRM_EVT_REFUSED = true :=
  ⟨State.abortVote_vote _ v, (State.abortVote_mode _ v).trans (s.countRefusal_mode v), State.abortVote_last _ (by omega),
    State.abortVote_refused _ v⟩

/-! ## The voters answer (R416-R418) -/

/-- Which voters have agreed. -/
def State.setAgreed (s : State) (a : Nat) : State := { s with power := { s.power with agreed := a } }.setFld Reg.PWRM_VOTE_AGREED a

theorem State.setAgreed_mode (s : State) (a : Nat) : (s.setAgreed a).mode = s.mode := State.setFld_mode _ _ _
theorem State.setAgreed_power (s : State) (a : Nat) : (s.setAgreed a).power = { s.power with agreed := a } := State.setFld_power _ _ _

/-- Voter 5 gives up the runs of training before it agrees. -/
def State.voterReady (s : State) (v : Nat) : State := if v = 5 then (List.range 4).foldl (fun s c => s.epAbortCh c) s else s

theorem State.steady_voterReady (s : State) (v : Nat) : s.Steady (s.voterReady v) := by
  unfold State.voterReady
  split
  · exact .foldl State.steady_epAbortCh _ s
  · exact .refl s

theorem State.setMode_mode (s : State) (m : Mode) : (s.setMode m).mode = m := by
  unfold State.setMode
  split
  · assumption
  · rw [State.set1_mode]

theorem State.setMode_power (s : State) (m : Mode) : (s.setMode m).power = s.power := by
  unfold State.setMode
  split
  · rfl
  · rw [State.set1_power]

section
variable {s : State} {v : Nat}

theorem State.voteAgree_of_none (h : s.power.vote = none) (v : Nat) : s.voteAgree v = s := if_pos (by simp [h])

theorem State.voteRefuse_of_none (h : s.power.vote = none) (v : Nat) : s.voteRefuse v = s := if_pos (by simp [h])

theorem State.voteWithdraw_of_none (h : s.power.vote = none) (v : Nat) : s.voteWithdraw v = s := if_pos (by simp [h])

theorem State.voteTimeout_of_none (h : s.power.vote = none) : s.voteTimeout = s := by rw [State.voteTimeout, h]

variable (hvote : s.power.vote.isSome = true) (hv : v < 8)
include hvote

include hv

/-- The state in which a voter has agreed. -/
theorem State.voteAgree_of_willing (hnew : s.power.agreed.testBit v = false) (hwilling : s.voterRefuses v = false) :
    s.voteAgree v = if s.power.agreed ||| 2 ^ v = 0xFF then ((s.voterReady v).setAgreed (s.power.agreed ||| 2 ^ v)).commitSleep
      else (s.voterReady v).setAgreed (s.power.agreed ||| 2 ^ v) := by
  have hagreed : (s.voterReady v).power.agreed = s.power.agreed := congrArg Power.agreed (s.steady_voterReady v).power
  rw [State.voteAgree, if_neg (by simp [Option.isSome_iff_ne_none.1 hvote, hv, hnew, hwilling]), ← hagreed]
  rfl

theorem State.voteRefuse_of_reason (hnew : s.power.agreed.testBit v = false) (hreason : s.voterRefuses v = true) :
    s.voteRefuse v = (s.countRefusal v).abortVote v := if_neg (by simp [Option.isSome_iff_ne_none.1 hvote, hv, hnew, hreason])

theorem State.voteWithdraw_of_reason (hold : s.power.agreed.testBit v = true) (hreason : s.voterRefuses v = true) :
    s.voteWithdraw v = ((s.setAgreed (s.power.agreed ^^^ 2 ^ v)).countRefusal v).abortVote v :=
  if_neg (by simp [Option.isSome_iff_ne_none.1 hvote, hv, hold, hreason])

end

theorem State.commitSleep_power (s : State) :
    s.commitSleep.power = { s.power with vote := none, idle := none, sleep := .entering, latched := none } := by
  rw [State.commitSleep, State.setMode_power]

theorem State.commitSleep_mode (s : State) : s.commitSleep.mode = .sleep := s.setMode_mode .sleep

theorem State.commitSleep_sleepFrom (s : State) : s.commitSleep.sleepFrom = s.mode := rfl

/-! ## A vote begins, and times out (R414, R417, R418) -/

/-- The idle timer has run out. -/
def State.idleOver (s : State) : State :=
  s.advanceTo (s.power.idle.getD s.tempo + ns (1000 * min 1000000 (max 1 (s.fld Reg.PWRM_SLP_IDLE))))

/-- A vote is under way, and no voter has agreed. -/
def State.voteBegun (s : State) : State :=
  { s with power := { s.power with vote := some s.tempo, agreed := 0 } }.setFld Reg.PWRM_VOTE_AGREED 0

theorem State.idleExpiry_of_idle {s : State} (hen : s.flag Reg.PWRM_SLP_EN = true) (hservice : s.inService = true) (hidle : s.isIdle = true)
    (hnone : s.power.vote = none) : s.idleExpiry = s.idleOver.voteBegun := if_neg (by simp [hen, hservice, hidle, hnone])

theorem State.voteBegun_power (s : State) : s.voteBegun.power = { s.power with vote := some s.tempo, agreed := 0 } := State.setFld_power _ _ _

theorem State.voteBegun_mode (s : State) : s.voteBegun.mode = s.mode := State.setFld_mode _ _ _

/-- The refusals a time-out stands for: those of the voters that had not agreed. -/
def State.countMissing (s : State) : State :=
  ((List.range 8).filter (fun v => !s.power.agreed.testBit v)).foldl (fun s v => s.countRefusal v) s

theorem State.countMissing_mode (s : State) : s.countMissing.mode = s.mode := foldl_keeps State.mode (fun t v _ => t.countRefusal_mode v) s

theorem State.countMissing_fld (s : State) {f : FRef} (h : f.key ≠ 0x2060 ∧ f.key ≠ 0x2064) : s.countMissing.fld f = s.fld f :=
  foldl_keeps (State.fld · f) (fun t v _ => t.countRefusal_fld v h) s

/-- The time of a vote is over. -/
def State.voteLate (s : State) (t : Tempo) : State := s.advanceTo (t + ns (1000 * max 1 (s.fld Reg.PWRM_SLPT_VTMO)))

theorem State.voteTimeout_of_some {s : State} {t : Tempo} (h : s.power.vote = some t) :
    s.voteTimeout = ((s.voteLate t).bump Reg.PWRM_ABTCNT_TIMEOUT).countMissing.abortVote 9 := by
  rw [State.voteTimeout, h]
  rfl

/-- Settles O41. That a voter's word with no vote under way changes nothing is log 4. -/
theorem sleepVote : Obligations.SleepVote := by
  unfold Obligations.SleepVote
  refine ⟨fun s hserve hen hservice hidle hnone => ?_,
    fun v s hserve hvote hv => ⟨fun hnew hwilling => ?_, fun hnew hreason => ?_, fun hold hreason => ?_⟩,
    fun s hserve => ⟨fun hvote => ?_, fun hnone => ⟨?_, fun v => ⟨?_, ?_, ?_⟩⟩⟩⟩
  · rw [exec_idleTimerExpiry hserve, State.idleExpiry_of_idle hen hservice hidle hnone]
    refine ⟨_, rfl, ?_, ?_, ?_, State.setFld_fld_same _ (by decide) (by decide) (by decide)⟩
    · rw [State.voteBegun_power]
      rfl
    · rw [State.voteBegun_power]
    · rw [State.voteBegun_mode, State.idleOver, State.advanceTo_mode]
  · have hready := s.steady_voterReady v
    rw [exec_voteAgree hserve, State.voteAgree_of_willing hvote hv hnew hwilling]
    refine ⟨_, rfl, ?_, fun hall => ?_, fun hsome => ?_⟩
    · split
      · rw [State.commitSleep_power, State.setAgreed_power]
      · rw [State.setAgreed_power]
    · rw [if_pos hall, State.commitSleep_mode, State.commitSleep_sleepFrom, State.setAgreed_mode, hready.mode, State.commitSleep_power]
      exact ⟨rfl, rfl, rfl, rfl⟩
    · rw [if_neg hsome, State.setAgreed_mode, State.setAgreed_power, hready.mode, hready.power]
      exact ⟨rfl, rfl⟩
  · rw [exec_voteRefuse hserve, State.voteRefuse_of_reason hvote hv hnew hreason]
    exact ⟨_, rfl, s.countRefusal_abortVote hv⟩
  · rw [exec_voteWithdraw hserve, State.voteWithdraw_of_reason hvote hv hold hreason, ← s.setAgreed_mode (s.power.agreed ^^^ 2 ^ v)]
    exact ⟨_, rfl, State.countRefusal_abortVote _ hv⟩
  · obtain ⟨t, ht⟩ := Option.isSome_iff_exists.1 hvote
    rw [exec_voteTimeout hserve, State.voteTimeout_of_some ht]
    refine ⟨_, rfl, State.abortVote_vote _ 9, ?_, State.abortVote_last _ (by decide), ?_⟩
    · rw [State.abortVote_mode, State.countMissing_mode, State.bump_mode, State.voteLate, State.advanceTo_mode]
    · rw [State.abortVote_fld _ 9 (by decide) (by decide), State.voteEnded_fld (by decide) (by decide), State.countMissing_fld _ (by decide),
        State.bump_fld_same (f := Reg.PWRM_ABTCNT_TIMEOUT) _ 1 (by decide) (by decide), State.voteLate, State.advanceTo_fld]
      rfl
  · rw [exec_voteTimeout hserve, State.voteTimeout_of_none hnone]
  · rw [exec_voteAgree hserve, State.voteAgree_of_none hnone]
  · rw [exec_voteRefuse hserve, State.voteRefuse_of_none hnone]
  · rw [exec_voteWithdraw hserve, State.voteWithdraw_of_none hnone]

end Sys2Proof.Machine

/-! SUPPORT and settlement of the statement about SIDE_DXFER and the dynamic address (O37). -/

namespace Sys2Proof.Machine

open Sys2Proof

/-! ## The word of SIDE_DXFER (R462) -/

/-- The word that begins a transaction. -/
def dxferWord (wr : Bool) (ch dev : BitVec 2) (reg data : BitVec 8) : Word :=
  wordOf [(Reg.SIDE_DXFER_GO, 1), (Reg.SIDE_DXFER_WR, b2n wr), (Reg.SIDE_DXFER_CH, ch.toNat), (Reg.SIDE_DXFER_DEV, dev.toNat),
    (Reg.SIDE_DXFER_REG, reg.toNat), (Reg.SIDE_DXFER_DATA, data.toNat)]

theorem dxferWord_fields (wr : Bool) (ch dev : BitVec 2) (reg data : BitVec 8) :
    let w := dxferWord wr ch dev reg data
    Reg.SIDE_DXFER_GO.get w = 1 ∧ Reg.SIDE_DXFER_WR.get w = b2n wr ∧ Reg.SIDE_DXFER_CH.get w = ch.toNat ∧
      Reg.SIDE_DXFER_DEV.get w = dev.toNat ∧ Reg.SIDE_DXFER_REG.get w = reg.toNat ∧ Reg.SIDE_DXFER_DATA.get w = data.toNat := by
  have hwr := b2n_lt_two wr
  have hch := ch.isLt
  have hdev := dev.isLt
  have hreg := reg.isLt
  have hdata := data.isLt
  simp only [dxferWord, wordOf, FRef.get, Reg.SIDE_DXFER_GO, Reg.SIDE_DXFER_WR, Reg.SIDE_DXFER_CH, Reg.SIDE_DXFER_DEV, Reg.SIDE_DXFER_REG,
    Reg.SIDE_DXFER_DATA, List.foldl_cons, List.foldl_nil, BitVec.toNat_ofNat, Nat.shiftRight_eq_div_pow]
  norm_num
  omega

/-! ## A transaction begins (R462) -/

/-- The register while the transaction runs: what was written, with the last one's ERR. -/
def State.dxferBegun (s : State) (w : Word) : State :=
  (s.setWord Reg.SIDE_DXFER_GO.key (w &&& 0xFC00FFFF)).setFld Reg.SIDE_DXFER_ERR (s.fld Reg.SIDE_DXFER_ERR)

theorem State.dxferWrite_of_busy {s : State} (h : s.flag Reg.SIDE_DXFER_GO = true) (w : Word) : s.dxferWrite w = s := if_pos h

theorem State.dxferWrite_of_go {s : State} (h : s.flag Reg.SIDE_DXFER_GO = false) (wr : Bool) (ch dev : BitVec 2) (reg data : BitVec 8) :
    s.dxferWrite (dxferWord wr ch dev reg data) = (s.dxferBegun (dxferWord wr ch dev reg data)).emit
      (.dimmBus ch.toNat dev.toNat reg.toNat wr (if wr then data.toNat else 0)) := by
  obtain ⟨hgo, hwr, hch, hdev, hreg, hdata⟩ := dxferWord_fields wr ch dev reg data
  rw [State.dxferWrite, if_neg (by simp [h])]
  dsimp only
  rw [if_neg (by rw [hgo]; decide), hwr, hch, hdev, hreg, hdata]
  cases wr <;> rfl

theorem State.dxferBegun_outputs (s : State) (w : Word) : (s.dxferBegun w).outputs = s.outputs := by
  rw [State.dxferBegun, State.setFld_outputs, State.setWord_outputs]

theorem State.dxferBegun_mode (s : State) (w : Word) : (s.dxferBegun w).mode = s.mode := by
  rw [State.dxferBegun, State.setFld_mode, State.setWord_mode]

/-- GO's bit is one of those written. -/
theorem get_go_and (w : Word) : Reg.SIDE_DXFER_GO.get (w &&& 0xFC00FFFF) = Reg.SIDE_DXFER_GO.get w := by
  have hbit (x : Word) : Reg.SIDE_DXFER_GO.get x = (x >>> 31).toNat % 2 := by rw [BitVec.toNat_ushiftRight]; rfl
  have hmask : (w &&& 0xFC00FFFF) >>> 31 = w >>> 31 := by
    ext i hi
    simp only [BitVec.getElem_ushiftRight, BitVec.getLsbD_and]
    by_cases hzero : i = 0
    · subst hzero; simp
    · rw [BitVec.getLsbD_of_ge w (31 + i) (by omega), Bool.false_and]
  rw [hbit, hmask, hbit]

theorem State.dxferBegun_go (s : State) (wr : Bool) (ch dev : BitVec 2) (reg data : BitVec 8) :
    (s.dxferBegun (dxferWord wr ch dev reg data)).flag Reg.SIDE_DXFER_GO = true := by
  rw [State.dxferBegun, State.setFld_flag_apart (by decide), State.flag, State.fld, State.setWord_word, get_go_and,
    (dxferWord_fields wr ch dev reg data).1]
  rfl

section
variable {s : State} {agent : BitVec 4} (hfree : s.pageFree agent 4)
include hfree

/-- A write of the register on a free page is answered OK, whatever it does. -/
theorem State.portWrite_dxfer {u : State} {w : Word} (hu : s.dxferWrite w = u) (hmode : u.mode = s.mode) :
    s.portWrite agent Reg.SIDE_DXFER_GO.key w true true = u.okAck := by
  have hawake : u.mode ≠ .sleep := by rw [hmode]; exact hfree.2.1
  have hown : s.ownWrite agent.toNat 4 0x064 w true true = some u := by rw [← hu]; rfl
  exact State.mgtWrite_own hfree rfl (by decide) (by decide) rfl (by decide) (fun h => absurd h (by decide)) (by decide) hown hawake

theorem exec_sideDxferRead (ch dev : BitVec 2) (reg : BitVec 8) : exec (.sideDxferRead agent ch dev reg) s =
    .next (keepPins s (s.portWrite agent Reg.SIDE_DXFER_GO.key (dxferWord false ch dev reg 0) true true)) := by
  have hword : dxferWord false ch dev reg 0 = wordOf [(Reg.SIDE_DXFER_GO, 1), (Reg.SIDE_DXFER_CH, ch.toNat),
      (Reg.SIDE_DXFER_DEV, dev.toNat), (Reg.SIDE_DXFER_REG, reg.toNat)] := by simp [dxferWord, wordOf, b2n]
  rw [hword]
  show execSideDxferRead agent ch dev reg s = _
  exact serve_next hfree.1 _

theorem exec_sideDxferWrite (ch dev : BitVec 2) (reg data : BitVec 8) : exec (.sideDxferWrite agent ch dev reg data) s =
    .next (keepPins s (s.portWrite agent Reg.SIDE_DXFER_GO.key (dxferWord true ch dev reg data) true true)) := by
  show execSideDxferWrite agent ch dev reg data s = _
  exact serve_next hfree.1 _

/-- With no transaction under way one begins. -/
theorem State.portWrite_dxfer_begins (hidle : s.flag Reg.SIDE_DXFER_GO = false) (wr : Bool) (ch dev : BitVec 2) (reg data : BitVec 8) :
    ∃ u : State, s.portWrite agent Reg.SIDE_DXFER_GO.key (dxferWord wr ch dev reg data) true true = u.okAck ∧
      u.flag Reg.SIDE_DXFER_GO = true ∧
      u.outputs = s.outputs ++ [.dimmBus ch.toNat dev.toNat reg.toNat wr (if wr then data.toNat else 0)] := by
  refine ⟨_, State.portWrite_dxfer hfree (State.dxferWrite_of_go hidle wr ch dev reg data) ?_, ?_, ?_⟩
  · rw [State.emit_mode, State.dxferBegun_mode]
  · rw [State.emit_flag, State.dxferBegun_go]
  · rw [State.emit_outputs', State.dxferBegun_outputs]

theorem State.portWrite_dxfer_ignored (hbusy : s.flag Reg.SIDE_DXFER_GO = true) (w : Word) :
    s.portWrite agent Reg.SIDE_DXFER_GO.key w true true = s.okAck := State.portWrite_dxfer hfree (State.dxferWrite_of_busy hbusy w) rfl

end

/-! ## It ends (R462) -/

/-- The transaction is over; ERR tells whether a byte was refused. -/
def State.dxferEnded (s : State) (ack : Bool) : State := (s.clr Reg.SIDE_DXFER_GO).setFld Reg.SIDE_DXFER_ERR (b2n (!ack))

/-- The byte a read returned. -/
def State.dxferByte (s : State) (ack : Bool) (data : Nat) : State :=
  if ack && !s.flag Reg.SIDE_DXFER_WR then s.setFld Reg.SIDE_DXFER_DATA data else s

/-- Its event. -/
def State.dxferEvent (s : State) (ack : Bool) : State := s.set1 (if ack then Reg.SIDE_EVT_XFER_DONE else Reg.SIDE_EVT_XFER_ERR)

theorem State.dxferDone_of_idle {s : State} (h : s.flag Reg.SIDE_DXFER_GO = false) (ack : Bool) (data : Nat) : s.dxferDone ack data = s :=
  if_pos (by simp [h])

theorem State.dxferDone_of_busy {s : State} (h : s.flag Reg.SIDE_DXFER_GO = true) (ack : Bool) (data : Nat) :
    s.dxferDone ack data = ((s.dxferEnded ack).dxferByte ack data).dxferEvent ack := by
  rw [State.dxferDone, if_neg (by simp [h])]
  cases ack <;> rfl

theorem State.dxferByte_fld {f : FRef} (h : Reg.SIDE_DXFER_DATA.Apart f) (s : State) (ack : Bool) (data : Nat) :
    (s.dxferByte ack data).fld f = s.fld f := by
  unfold State.dxferByte
  split
  · exact State.setFld_fld_apart h s data
  · rfl

theorem State.dxferEvent_fld {f : FRef} (h : f.key ≠ Reg.SIDE_EVT_XFER_DONE.key) (s : State) (ack : Bool) : (s.dxferEvent ack).fld f = s.fld f :=
  s.setFld_fld_ne _ f 1 (by cases ack <;> exact h)

theorem State.dxferEvent_set (s : State) (ack : Bool) :
    (if ack then (s.dxferEvent ack).flag Reg.SIDE_EVT_XFER_DONE else (s.dxferEvent ack).flag Reg.SIDE_EVT_XFER_ERR) = true := by
  cases ack with
  | false => exact s.set1_flag_same (f := Reg.SIDE_EVT_XFER_ERR) (by decide) (by decide)
  | true => exact s.set1_flag_same (f := Reg.SIDE_EVT_XFER_DONE) (by decide) (by decide)

theorem State.dxferEnded_frame (s : State) (ack : Bool) (data : Nat) :
    { ((s.dxferEnded ack).dxferByte ack data).dxferEvent ack with regs := s.regs } = s := by
  rw [State.dxferEvent, State.set1, State.setFld_frame, State.dxferByte]
  split
  · rw [State.setFld_frame, State.dxferEnded, State.setFld_frame, State.clr, State.setFld_frame]
  · rw [State.dxferEnded, State.setFld_frame, State.clr, State.setFld_frame]

/-- What the register shows of a transaction that is over. -/
theorem State.dxferDone_shows (s : State) (ack : Bool) (data : BitVec 8) :
    let u := ((s.dxferEnded ack).dxferByte ack data.toNat).dxferEvent ack
    u.flag Reg.SIDE_DXFER_GO = false ∧ u.flag Reg.SIDE_DXFER_ERR = !ack ∧
      (ack = true → s.flag Reg.SIDE_DXFER_WR = false → u.fld Reg.SIDE_DXFER_DATA = data.toNat) := by
  refine ⟨?_, ?_, fun hack hread => ?_⟩
  · rw [State.flag, State.dxferEvent_fld (by decide), State.dxferByte_fld (by decide), State.dxferEnded, State.setFld_fld_apart (by decide)]
    exact s.clr_flag_same (by decide) (by decide)
  · refine State.flag_of_fld ?_
    rw [State.dxferEvent_fld (by decide), State.dxferByte_fld (by decide), State.dxferEnded]
    exact State.setFld_fld_same _ (by decide) (by decide) (b2n_lt_two _)
  · subst hack
    have hwr : (s.dxferEnded true).flag Reg.SIDE_DXFER_WR = false := by
      rw [State.dxferEnded, State.setFld_flag_apart (by decide), State.clr, State.setFld_flag_apart (by decide), hread]
    rw [State.dxferEvent_fld (by decide), State.dxferByte, if_pos (by simp [hwr])]
    exact State.setFld_fld_same _ (by decide) (by decide) data.isLt

section
variable {s : State} (h : s.serving = true)
include h

theorem exec_sideDxferDone (ack : Bool) (data : BitVec 8) :
    exec (.sideDxferDone ack data) s = .next (keepPins s (s.dxferDone ack data.toNat)) := by
  show execSideDxferDone ack data s = _
  exact serve_next h _

theorem exec_dynamicAddressAssignment (a : BitVec 7) :
    exec (.dynamicAddressAssignment a) s = .next (keepPins s (s.assignAddr a.toNat)) := by
  show execDynamicAddressAssignment a s = _
  exact serve_next h _

end

/-- Settles O37. That a write while a transaction runs is ignored is log 47; that SIDE_DXFER_DONE with none changes nothing is log 4. -/
theorem sidebandTransfers : Obligations.SidebandTransfers := by
  unfold Obligations.SidebandTransfers
  refine ⟨fun agent ch dev reg data s hfree => ⟨fun hidle => ⟨?_, ?_⟩, fun hbusy => ⟨?_, ?_⟩⟩,
    fun ack data s hserve => ⟨fun hbusy => ?_, fun hidle => ?_⟩,
    fun a s hserve => ?_⟩
  · obtain ⟨u, hwrite, hgo, hout⟩ := State.portWrite_dxfer_begins hfree hidle false ch dev reg 0
    rw [exec_sideDxferRead hfree, hwrite]
    exact ⟨u, rfl, hgo, hout⟩
  · obtain ⟨u, hwrite, hgo, hout⟩ := State.portWrite_dxfer_begins hfree hidle true ch dev reg data
    rw [exec_sideDxferWrite hfree, hwrite]
    exact ⟨u, rfl, hgo, hout⟩
  · rw [exec_sideDxferRead hfree, State.portWrite_dxfer_ignored hfree hbusy]
  · rw [exec_sideDxferWrite hfree, State.portWrite_dxfer_ignored hfree hbusy]
  · obtain ⟨hgo, herr, hbyte⟩ := s.dxferDone_shows ack data
    rw [exec_sideDxferDone hserve, State.dxferDone_of_busy hbusy]
    exact ⟨_, rfl, hgo, herr, hbyte, State.dxferEvent_set _ ack, s.dxferEnded_frame ack data.toNat⟩
  · rw [exec_sideDxferDone hserve, State.dxferDone_of_idle hidle]
    rfl
  · rw [exec_dynamicAddressAssignment hserve]
    have hapart : [(Reg.SIDE_TCFG_I3C, 1), (Reg.SIDE_TCFG_DADDR, a.toNat)].Pairwise fun p q => q.1.Apart p.1 :=
      List.pairwise_pair.2 (show Reg.SIDE_TCFG_DADDR.Apart Reg.SIDE_TCFG_I3C by decide)
    refine ⟨_, rfl, ?_, State.flag_of_fld (b := true) ?_, State.setFlds_frame _ s⟩
    · exact State.setFlds_fld_of_mem (.tail _ (.head _)) hapart ⟨by decide, by decide, a.isLt⟩ s
    · exact State.setFlds_fld_of_mem (.head _) hapart ⟨by decide, by decide, by decide⟩ s

end Sys2Proof.Machine

/-! SUPPORT and settlement of the statement about the modules' events (O35). -/

namespace Sys2Proof.Machine

open Sys2Proof

/-! ## The commands in service -/

section
variable {s : State} (h : s.serving = true) {c : Nat} (hb : s.chanBuilt c = true)
include h

theorem exec_thermalPoll (mods : List TsPair) : exec (.thermalPoll mods) s = .next (keepPins s (s.thermalPoll mods)) := by
  show execThermalPoll mods s = _
  exact serve_next h _

include hb

theorem exec_spdReadDone (outcome : BitVec 2) (words : List Word) :
    exec (.spdReadDone c outcome words) s = .next (s.done (s.spdDone c outcome.toNat words)) := by
  show execSpdReadDone c outcome words s = _
  exact actIf_next hb h _

theorem exec_pmicPowerGood : exec (.pmicPowerGood c) s = .next (s.done (s.pmicGood c)) := by
  show execPmicPowerGood c s = _
  exact actIf_next hb h _

theorem exec_pmicPgoodTimeout : exec (.pmicPgoodTimeout c) s = .next (s.done (s.pmicTimeout c)) := by
  show execPmicPgoodTimeout c s = _
  exact actIf_next hb h _

end

/-! ## SPD_READ_DONE (R444, R461) -/

/-- Entries put one after another under different keys each read as put. -/
theorem tget_foldl_tput {α : Type} [DecidableEq α] (d : α) (base : Nat) (v : Nat → α) (t : Tab α) (n : Nat) {i : Nat} (hi : i < n) :
    tget d ((List.range n).foldl (fun t i => tput d (base + i) (v i) t) t) (base + i) = v i := by
  induction n with
  | zero => omega
  | succ n ih =>
    rw [List.range_succ, List.foldl_append, List.foldl_cons, List.foldl_nil, tget_tput]
    by_cases hn : i = n
    · rw [if_pos (by omega), hn]
    · rw [if_neg (by omega), ih (by omega)]

/-- The words a module answered with. -/
def spdKept (c : Nat) (words : List Word) (t : Tab Nat) : Tab Nat :=
  (List.range 256).foldl (fun t i => tput 0 (256 * c + i) (nth 0 words i).toNat t) t

theorem spdKept_get (c : Nat) (words : List Word) (t : Tab Nat) {i : Nat} (hi : i < 256) :
    tget 0 (spdKept c words t) (256 * c + i) = (nth 0 words i).toNat := by
  unfold spdKept
  exact tget_foldl_tput 0 (256 * c) (fun i => (nth 0 words i).toNat) t 256 hi

/-- A module that answered leaves its words. -/
def State.spdWords (s : State) (c outcome : Nat) (words : List Word) : State :=
  if outcome = 3 then s else { s with startup := { s.startup with spdCopy := spdKept c words s.startup.spdCopy } }

theorem State.spdWords_regs (s : State) (c outcome : Nat) (words : List Word) : (s.spdWords c outcome words).regs = s.regs := by
  unfold State.spdWords
  split <;> rfl

theorem State.spdWords_spdCopy {outcome : Nat} (h : outcome ≠ 3) (s : State) (c : Nat) (words : List Word) :
    (s.spdWords c outcome words).startup.spdCopy = spdKept c words s.startup.spdCopy := by rw [State.spdWords, if_neg h]

/-- The outcomes of the modules read so far, with this one's. -/
def State.spdShown (s : State) (c outcome : Nat) : State :=
  let s := s.setFld Reg.SIDE_SPDSTAT_SPD (s.fld Reg.SIDE_SPDSTAT_SPD + outcome * 4 ^ c)
  if 2 ≤ outcome then s.set1 Reg.SIDE_EVT_SPD_ERR else s

/-- The event of the last module. -/
def State.spdAll (s : State) : State :=
  if (List.range 4).all (fun c => !s.chanBuilt c || decide ((s.fld Reg.SIDE_SPDSTAT_SPD / 4 ^ c) % 4 ≠ 0)) then s.set1 Reg.SIDE_EVT_SPD_DONE else s

theorem State.spdDone_of_first {s : State} {c outcome : Nat} (hc : c < 4) (hsome : outcome ≠ 0) (hout : outcome < 4)
    (hfirst : s.fld Reg.SIDE_SPDSTAT_SPD / 4 ^ c % 4 = 0) (words : List Word) :
    s.spdDone c outcome words = ((s.spdWords c outcome words).spdShown c outcome).spdAll := by
  rw [State.spdDone, if_neg (by omega)]
  rfl

theorem State.spdDone_of_read {s : State} {c : Nat} (hread : s.fld Reg.SIDE_SPDSTAT_SPD / 4 ^ c % 4 ≠ 0) (outcome : Nat) (words : List Word) :
    s.spdDone c outcome words = s := if_pos (.inr (.inr (.inr hread)))

theorem State.spdAll_fld {f : FRef} (h : Reg.SIDE_EVT_SPD_DONE.Apart f) (s : State) : s.spdAll.fld f = s.fld f := by
  unfold State.spdAll
  split
  · exact State.setFld_fld_apart h s 1
  · rfl

theorem State.spdAll_startup (s : State) : s.spdAll.startup = s.startup := by
  unfold State.spdAll
  split
  · exact State.set1_startup _ _
  · rfl

theorem State.spdShown_startup (s : State) (c outcome : Nat) : (s.spdShown c outcome).startup = s.startup := by
  unfold State.spdShown
  dsimp only
  split
  · rw [State.set1_startup, State.setFld_startup]
  · rw [State.setFld_startup]

/-- A field of four two-bit places takes an outcome in an empty one. -/
theorem spd_place {n c outcome : Nat} (hn : n < 256) (hc : c < 4) (hout : outcome < 4) (hempty : n / 4 ^ c % 4 = 0) :
    n + outcome * 4 ^ c < 256 ∧ (n + outcome * 4 ^ c) / 4 ^ c % 4 = outcome := by
  interval_cases c <;> omega

theorem State.spdShown_spd {s : State} {c outcome : Nat} (hc : c < 4) (hout : outcome < 4) (hempty : s.fld Reg.SIDE_SPDSTAT_SPD / 4 ^ c % 4 = 0) :
    (s.spdShown c outcome).fld Reg.SIDE_SPDSTAT_SPD / 4 ^ c % 4 = outcome := by
  obtain ⟨hfits, hplace⟩ := spd_place (s.fld_lt Reg.SIDE_SPDSTAT_SPD) hc hout hempty
  have hset := s.setFld_fld_same (f := Reg.SIDE_SPDSTAT_SPD) (by decide) (by decide) hfits
  have hshown : (s.spdShown c outcome).fld Reg.SIDE_SPDSTAT_SPD = s.fld Reg.SIDE_SPDSTAT_SPD + outcome * 4 ^ c := by
    unfold State.spdShown
    dsimp only
    split
    · rw [State.set1, State.setFld_fld_apart (by decide), hset]
    · exact hset
  rw [hshown, hplace]

theorem State.spdShown_err {outcome : Nat} (h : 2 ≤ outcome) (s : State) (c : Nat) : (s.spdShown c outcome).flag Reg.SIDE_EVT_SPD_ERR = true := by
  rw [State.spdShown, if_pos h]
  exact State.set1_flag_same _ (by decide) (by decide)

/-! ## PMIC_POWER_GOOD and PMIC_PGOOD_TIMEOUT (R445) -/

/-- A bit set reads 1. -/
theorem State.setBit_fbit_same (s : State) {f : FRef} {i : Nat} (hf : f.lo ≤ f.hi) (hf32 : f.hi < 32) (hi : i < f.hi + 1 - f.lo) :
    (s.setBit f i true).fbit f i = true := by
  have hfits : s.fld f ||| 2 ^ i < 2 ^ (f.hi + 1 - f.lo) := Nat.or_lt_two_pow (s.fld_lt f) (Nat.pow_lt_pow_right (by decide) hi)
  rw [State.fbit, State.setBit, if_pos rfl, s.setFld_fld_same hf hf32 hfits, Nat.testBit_or, Nat.testBit_two_pow_self, Bool.or_true]

/-- The module's power is recorded. -/
def State.pmicShown (s : State) (c : Nat) : State := (s.setPhy c { s.phy c with pmic := true }).setBit Reg.SIDE_SPDSTAT_PGOOD c true

theorem State.pmicGood_of_powered {s : State} {c : Nat} (h : (s.phy c).phase = .powered) : s.pmicGood c = (s.pmicShown c).tryRelease c := if_pos h

theorem State.pmicGood_of_other {s : State} {c : Nat} (h : (s.phy c).phase ≠ .powered) : s.pmicGood c = s := if_neg h

theorem State.pmicShown_phy (s : State) (c : Nat) : ((s.pmicShown c).phy c).pmic = true := by
  rw [State.pmicShown, State.setBit, State.setFld_phy, State.setPhy_phy, if_pos rfl]

/-- The release of a channel's reset is the PHY's phase and an output. -/
theorem State.tryRelease_pmic (s : State) (c : Nat) : ((s.tryRelease c).phy c).pmic = (s.phy c).pmic := by
  unfold State.tryRelease
  dsimp only
  split
  · rw [State.emit_phy, State.setPhy_phy, if_pos rfl]
  · rfl

theorem State.tryRelease_regs (s : State) (c : Nat) : (s.tryRelease c).regs = s.regs := by
  unfold State.tryRelease
  dsimp only
  split <;> rfl

/-- The time a module has for its power is over. -/
def State.pmicLate (s : State) (c : Nat) : State :=
  (s.advanceTo ((s.phy c).tStart + ns (1000000 * max 1 (s.fld Reg.SIDE_DCFG_PMTMO)))).set1 Reg.SIDE_EVT_PMIC_FAIL

theorem State.pmicTimeout_of_waiting {s : State} {c : Nat} (h : (s.phy c).phase = .powered) (hpmic : (s.phy c).pmic = false) :
    s.pmicTimeout c = ((s.pmicLate c).bringFail c 4).trainEnd := if_pos ⟨h, hpmic⟩

theorem State.pmicTimeout_of_other {s : State} {c : Nat} (h : (s.phy c).phase ≠ .powered) : s.pmicTimeout c = s := if_neg fun hboth => h hboth.1

theorem State.pmicLate_frame (s : State) (c : Nat) : { s.pmicLate c with regs := s.regs, tempo := s.tempo, wraps := s.wraps } = s := by
  have hevent (t : State) : { t.set1 Reg.SIDE_EVT_PMIC_FAIL with regs := s.regs, tempo := s.tempo, wraps := s.wraps } =
      { t with regs := s.regs, tempo := s.tempo, wraps := s.wraps } := by
    rw [State.set1, State.setFld, State.setWord]
  rw [State.pmicLate, hevent]
  exact (congrArg (fun t : State => { t with regs := s.regs }) (s.advanceTo_frame _) :)

theorem State.pmicLate_fail (s : State) (c : Nat) : (s.pmicLate c).flag Reg.SIDE_EVT_PMIC_FAIL = true := by
  rw [State.pmicLate]
  exact State.set1_flag_same _ (by decide) (by decide)

/-! ## THERMAL_POLL (R445) -/

/-- Of steps each of which touches what belongs to it, one's own part is as that step alone makes it. -/
theorem foldl_own {α β γ : Type} {g : β → γ} {f : β → α → β} {l : List α} {a : α} (ha : a ∈ l) (hl : l.Nodup)
    (h : ∀ t x, x ≠ a → g (f t x) = g t) (b : β) : ∃ t, g t = g b ∧ g (l.foldl f b) = g (f t a) := by
  induction l generalizing b with
  | nil => cases ha
  | cons x l ih =>
    obtain ⟨hx, hl⟩ := List.nodup_cons.1 hl
    rcases List.mem_cons.1 ha with rfl | hmem
    · exact ⟨b, rfl, foldl_keeps g (fun t y hy => h t y fun heq => hx (heq ▸ hy)) _⟩
    · obtain ⟨t, ht, hfold⟩ := ih hmem hl (f b x)
      exact ⟨t, ht.trans (h b x fun heq => hx (heq ▸ hmem)), hfold⟩

/-- A sensor's temperature is shown where it answered. -/
def State.setTemp (s : State) (f : FRef) (o : Option Int) : State :=
  match o with
  | some t => s.setFld f (twos 11 t)
  | none => s

theorem State.setTemp_fld_apart {f g : FRef} (h : f.Apart g) (s : State) (o : Option Int) : (s.setTemp f o).fld g = s.fld g := by
  cases o with
  | none => rfl
  | some t => exact State.setFld_fld_apart h s _

theorem State.setTemp_fld_same {f : FRef} (hf : f.lo ≤ f.hi) (hf32 : f.hi < 32) (hwide : f.hi + 1 - f.lo = 11) (s : State) (o : Option Int) :
    (s.setTemp f o).fld f = (match o with | some t => twos 11 t | none => s.fld f) := by
  cases o with
  | none => rfl
  | some t => exact s.setFld_fld_same hf hf32 (hwide ▸ twos_lt 11 t)

/-- What the sensors of a module answered. -/
def State.moduleShown (s : State) (c : Nat) (m : TsPair) : State :=
  ((s.setFlds [(Reg.SIDE_TS_V0 c, b2n m.ts0.isSome), (Reg.SIDE_TS_V1 c, b2n m.ts1.isSome)]).setTemp (Reg.SIDE_TS_TS0 c) m.ts0).setTemp
    (Reg.SIDE_TS_TS1 c) m.ts1

theorem State.setTemp_word_ne {f : FRef} {k : Nat} (h : k ≠ f.key) (s : State) (o : Option Int) : (s.setTemp f o).word k = s.word k := by
  cases o with
  | none => rfl
  | some t => exact s.setWord_word_ne _ _ _ h

/-- Each module has a register of its own. -/
theorem State.moduleShown_word_ne {c j : Nat} (h : j ≠ c) (s : State) (m : TsPair) :
    (s.moduleShown j m).word (Reg.SIDE_TS_V0 c).key = s.word (Reg.SIDE_TS_V0 c).key := by
  have hne (f : FRef) (hf : f.key = (Reg.SIDE_TS_V0 j).key) : (Reg.SIDE_TS_V0 c).key ≠ f.key := by
    rw [hf]
    simp only [FRef.key, regKey, Reg.SIDE_TS_V0]
    omega
  rw [State.moduleShown, State.setTemp_word_ne (hne (Reg.SIDE_TS_TS1 j) rfl), State.setTemp_word_ne (hne (Reg.SIDE_TS_TS0 j) rfl)]
  exact (State.setWord_word_ne _ _ _ _ (hne _ rfl)).trans (State.setWord_word_ne _ _ _ _ (hne _ rfl))

theorem FRef.Apart.symm {f g : FRef} (h : f.Apart g) : g.Apart f := ⟨h.2.1, h.1, h.2.2.imp Ne.symm Or.symm⟩

theorem FRef.apart_of_lt {f g : FRef} (h : f.hi < g.lo) (hg : g.lo ≤ g.hi) (hg32 : g.hi < 32) : f.Apart g := ⟨by omega, hg32, .inr (.inl h)⟩

/-- From the lowest bit up: TS0, V0, TS1, V1. -/
theorem ts_apart (c : Nat) : (Reg.SIDE_TS_V0 c).Apart (Reg.SIDE_TS_V1 c) ∧
    ((Reg.SIDE_TS_TS0 c).Apart (Reg.SIDE_TS_V0 c) ∧ (Reg.SIDE_TS_TS0 c).Apart (Reg.SIDE_TS_V1 c)) ∧
    ((Reg.SIDE_TS_V0 c).Apart (Reg.SIDE_TS_TS1 c) ∧ (Reg.SIDE_TS_TS1 c).Apart (Reg.SIDE_TS_V1 c)) ∧
    (Reg.SIDE_TS_TS0 c).Apart (Reg.SIDE_TS_TS1 c) :=
  ⟨FRef.apart_of_lt (show 15 < 31 by decide) (le_refl 31) (show 31 < 32 by decide),
    ⟨FRef.apart_of_lt (show 10 < 15 by decide) (le_refl 15) (show 15 < 32 by decide),
      FRef.apart_of_lt (show 10 < 31 by decide) (le_refl 31) (show 31 < 32 by decide)⟩,
    ⟨FRef.apart_of_lt (show 15 < 16 by decide) (show 16 ≤ 26 by decide) (show 26 < 32 by decide),
      FRef.apart_of_lt (show 26 < 31 by decide) (le_refl 31) (show 31 < 32 by decide)⟩,
    FRef.apart_of_lt (show 10 < 16 by decide) (show 16 ≤ 26 by decide) (show 26 < 32 by decide)⟩

/-- The register of a module shows who answered, and the temperatures of those that did. -/
theorem State.moduleShown_shows (s : State) (c : Nat) (m : TsPair) :
    (s.moduleShown c m).flag (Reg.SIDE_TS_V0 c) = m.ts0.isSome ∧ (s.moduleShown c m).flag (Reg.SIDE_TS_V1 c) = m.ts1.isSome ∧
      (s.moduleShown c m).fld (Reg.SIDE_TS_TS0 c) = (match m.ts0 with | some t => twos 11 t | none => s.fld (Reg.SIDE_TS_TS0 c)) ∧
      (s.moduleShown c m).fld (Reg.SIDE_TS_TS1 c) = (match m.ts1 with | some t => twos 11 t | none => s.fld (Reg.SIDE_TS_TS1 c)) := by
  obtain ⟨hv0v1, ⟨ht0v0, ht0v1⟩, ⟨hv0t1, ht1v1⟩, ht0t1⟩ := ts_apart c
  have hone (b : Bool) : b2n b < 2 ^ 1 := b2n_lt_two b
  have hpair : [(Reg.SIDE_TS_V0 c, b2n m.ts0.isSome), (Reg.SIDE_TS_V1 c, b2n m.ts1.isSome)].Pairwise fun p q => q.1.Apart p.1 :=
    List.pairwise_pair.2 hv0v1.symm
  have hkeep {f : FRef} (h0 : (Reg.SIDE_TS_V0 c).Apart f) (h1 : (Reg.SIDE_TS_V1 c).Apart f) :
      (s.setFlds [(Reg.SIDE_TS_V0 c, b2n m.ts0.isSome), (Reg.SIDE_TS_V1 c, b2n m.ts1.isSome)]).fld f = s.fld f :=
    (State.setFld_fld_apart h1 _ _).trans (State.setFld_fld_apart h0 _ _)
  rw [State.moduleShown]
  refine ⟨State.flag_of_fld ?_, State.flag_of_fld ?_, ?_, ?_⟩
  · rw [State.setTemp_fld_apart hv0t1.symm, State.setTemp_fld_apart ht0v0]
    exact State.setFlds_fld_of_mem (.head _) hpair ⟨le_refl 15, show 15 < 32 by decide, hone _⟩ s
  · rw [State.setTemp_fld_apart ht1v1, State.setTemp_fld_apart ht0v1]
    exact State.setFlds_fld_of_mem (.tail _ (.head _)) hpair ⟨le_refl 31, show 31 < 32 by decide, hone _⟩ s
  · rw [State.setTemp_fld_apart ht0t1.symm, State.setTemp_fld_same (Nat.zero_le _) (show 10 < 32 by decide) rfl, hkeep ht0v0.symm ht0v1.symm]
  · rw [State.setTemp_fld_same (show 16 ≤ 26 by decide) (show 26 < 32 by decide) rfl, State.setTemp_fld_apart ht0t1, hkeep hv0t1 ht1v1.symm]

/-- The poll of the modules present. -/
def State.polled (s : State) (mods : List TsPair) : State :=
  ((List.range 4).filter s.startup.present.contains).foldl (fun s c => s.moduleShown c (nth ⟨none, none⟩ mods c)) s

theorem State.thermalPoll_of_on {s : State} (hper : s.fld Reg.SIDE_DCFG_TSPER ≠ 0) (hphase : 3 ≤ s.fld Reg.GLOB_STAT_PHASE) (mods : List TsPair) :
    s.thermalPoll mods = (s.periodic tmrThermal (1000000 * s.fld Reg.SIDE_DCFG_TSPER)).polled mods := by
  rw [State.thermalPoll]
  dsimp only
  rw [if_neg (by omega)]
  rfl

theorem State.thermalPoll_of_off {s : State} (h : s.fld Reg.SIDE_DCFG_TSPER = 0) (mods : List TsPair) : s.thermalPoll mods = s := if_pos (.inl h)

/-- A present module's register is as its own answer left it. -/
theorem State.polled_word {s : State} {c : Nat} (hc : c < 4) (hpresent : c ∈ s.startup.present) (mods : List TsPair) :
    ∃ t : State, t.word (Reg.SIDE_TS_V0 c).key = s.word (Reg.SIDE_TS_V0 c).key ∧
      (s.polled mods).word (Reg.SIDE_TS_V0 c).key = (t.moduleShown c (nth ⟨none, none⟩ mods c)).word (Reg.SIDE_TS_V0 c).key :=
  foldl_own (g := fun t : State => t.word (Reg.SIDE_TS_V0 c).key)
    (List.mem_filter.2 ⟨List.mem_range.2 hc, List.contains_iff_mem.2 hpresent⟩) (List.nodup_range.filter _)
    (fun t _ hj => State.moduleShown_word_ne hj t _) s

/-- What a module that is present answered is shown. -/
theorem State.polled_shows {s : State} {c : Nat} (hc : c < 4) (hpresent : c ∈ s.startup.present) (mods : List TsPair) {m : TsPair}
    (hm : m = nth ⟨none, none⟩ mods c) :
    (s.polled mods).flag (Reg.SIDE_TS_V0 c) = m.ts0.isSome ∧ (s.polled mods).flag (Reg.SIDE_TS_V1 c) = m.ts1.isSome ∧
      (s.polled mods).fld (Reg.SIDE_TS_TS0 c) = (match m.ts0 with | some t => twos 11 t | none => s.fld (Reg.SIDE_TS_TS0 c)) ∧
      (s.polled mods).fld (Reg.SIDE_TS_TS1 c) = (match m.ts1 with | some t => twos 11 t | none => s.fld (Reg.SIDE_TS_TS1 c)) := by
  obtain ⟨t, hbefore, hafter⟩ := State.polled_word hc hpresent mods
  rw [← hm] at hafter
  have hshown (f : FRef) (hf : f.key = (Reg.SIDE_TS_V0 c).key) : (s.polled mods).fld f = (t.moduleShown c m).fld f := by
    rw [State.fld, hf, hafter, State.fld, hf]
  have hwas (f : FRef) (hf : f.key = (Reg.SIDE_TS_V0 c).key) : t.fld f = s.fld f := by
    rw [State.fld, hf, hbefore, State.fld, hf]
  rw [State.flag, State.flag, hshown (Reg.SIDE_TS_V0 c) rfl, hshown (Reg.SIDE_TS_V1 c) rfl, hshown (Reg.SIDE_TS_TS0 c) rfl,
    hshown (Reg.SIDE_TS_TS1 c) rfl, ← hwas (Reg.SIDE_TS_TS0 c) rfl, ← hwas (Reg.SIDE_TS_TS1 c) rfl]
  exact t.moduleShown_shows c m

/-- Settles O35. That an event of a module in another state, and a poll turned off, change nothing is log 4. -/
theorem moduleEventsAreShown : Obligations.ModuleEventsAreShown := by
  unfold Obligations.ModuleEventsAreShown
  refine ⟨fun c outcome words s hserve hb hc => ⟨fun hsome hfirst => ?_, fun hread => ?_⟩,
    fun c s hserve hb hc => ⟨fun hpowered => ⟨?_, fun hpmic => ?_⟩, fun hother => ⟨?_, ?_⟩⟩,
    fun mods s hserve => ⟨fun hper hphase => ?_, fun hoff => ?_⟩⟩
  · have hregs := s.spdWords_regs c outcome.toNat words
    have hspd := State.spdShown_spd (s := s.spdWords c outcome.toNat words) hc outcome.isLt (by rw [State.fld_of_regs hregs, hfirst])
    have hne : outcome.toNat ≠ 0 := fun h => hsome (BitVec.eq_of_toNat_eq h)
    rw [exec_spdReadDone hserve hb, State.spdDone_of_first hc hne outcome.isLt hfirst]
    refine ⟨_, rfl, ?_, fun herr => ?_, fun hanswered i hi => ?_⟩
    · rw [State.spdAll_fld (by decide), hspd]
    · rw [State.flag, State.spdAll_fld (by decide)]
      exact State.spdShown_err herr _ c
    · have hanswered' : outcome.toNat ≠ 3 := fun h => hanswered (BitVec.eq_of_toNat_eq h)
      rw [State.spdAll_startup, State.spdShown_startup, State.spdWords_spdCopy hanswered', spdKept_get c words _ hi]
  · rw [exec_spdReadDone hserve hb, State.spdDone_of_read hread]
  · rw [exec_pmicPowerGood hserve hb, State.pmicGood_of_powered hpowered]
    refine ⟨(s.pmicShown c).tryRelease c, rfl, ?_, ?_⟩
    · rw [State.tryRelease_pmic, State.pmicShown_phy]
    · rw [State.fbit, State.fld_of_regs (State.tryRelease_regs _ c)]
      exact State.setBit_fbit_same (s.setPhy c _) (f := Reg.SIDE_SPDSTAT_PGOOD) (by decide) (by decide) hc
  · rw [exec_pmicPgoodTimeout hserve hb, State.pmicTimeout_of_waiting hpowered hpmic]
    exact ⟨s.pmicLate c, rfl, s.pmicLate_fail c, s.pmicLate_frame c⟩
  · rw [exec_pmicPowerGood hserve hb, State.pmicGood_of_other hother]
  · rw [exec_pmicPgoodTimeout hserve hb, State.pmicTimeout_of_other hother]
  · have hframe := s.periodic_frame tmrThermal (1000000 * s.fld Reg.SIDE_DCFG_TSPER)
    rw [exec_thermalPoll hserve, State.thermalPoll_of_on hper hphase]
    refine ⟨_, rfl, fun c hc hpresent m hm => ?_⟩
    have hpresent' : c ∈ (s.periodic tmrThermal (1000000 * s.fld Reg.SIDE_DCFG_TSPER)).startup.present :=
      (congrArg (fun t : State => t.startup.present) hframe).symm ▸ hpresent
    have hfld (f : FRef) : (s.periodic tmrThermal (1000000 * s.fld Reg.SIDE_DCFG_TSPER)).fld f = s.fld f := (congrArg (State.fld · f) hframe :)
    have hshows := State.polled_shows hc hpresent' mods hm
    rwa [hfld, hfld] at hshows
  · rw [exec_thermalPoll hserve, State.thermalPoll_of_off hoff]
    rfl

end Sys2Proof.Machine

/-! SUPPORT and settlement of the statement about FAULT_NOTE (O58). -/

namespace Sys2Proof.Machine

open Sys2Proof

/-- A message that a sleeping tile's ring stop handles without waking it takes effect in every mode (R149, R152). -/
theorem receive_of_quiet {s : State} (hserve : s.serving = true) (hring : s.build.ring = true) {m : RingIn} (hquiet : quietMsg m = true)
    (corr : Nat) : receive s corr m = .next (s.done ((s.bump Reg.RING_CNT0_CORR corr).ringTake m)) := by
  rw [receive, actIf_next hring hserve, State.ringArrive]
  dsimp only
  rw [if_neg (by simp [hquiet])]

theorem exec_faultNote {s : State} (hserve : s.serving = true) (hring : s.build.ring = true) (corr : Nat) (src : BitVec 5) (cls : BitVec 2)
    (srcNo : BitVec 8) (t : Tempo) : exec (.faultNote corr src cls srcNo t) s =
      .next (s.done ((s.bump Reg.RING_CNT0_CORR corr).ringNote src.toNat cls.toNat srcNo.toNat t)) := by
  show execFaultNote corr src cls srcNo t s = _
  exact receive_of_quiet hserve hring rfl corr

/-- The fields a note of another tile is shown in. -/
def noteFields (src cls srcNo : Nat) (t : Tempo) : List (FRef × Nat) :=
  [(Reg.RING_NOTE_TILE, src), (Reg.RING_NOTE_SRC, srcNo), (Reg.RING_NOTE_CLASS, cls), (Reg.RING_NOTET_TEMPO, t.toNat / 256), (Reg.RING_EVT_NOTE, 1)]

theorem State.ringNote_of_own {s : State} {src : Nat} (h : src = s.tileNo) (cls srcNo : Nat) (t : Tempo) : s.ringNote src cls srcNo t = s := if_pos h

theorem State.ringNote_of_other {s : State} {src : Nat} (h : src ≠ s.tileNo) (cls srcNo : Nat) (t : Tempo) :
    s.ringNote src cls srcNo t = s.setFlds (noteFields src cls srcNo t) := if_neg h

/-- These fields, without their values. -/
def noteRegs : List FRef := [Reg.RING_NOTE_TILE, Reg.RING_NOTE_SRC, Reg.RING_NOTE_CLASS, Reg.RING_NOTET_TEMPO, Reg.RING_EVT_NOTE]

theorem noteFields_map (src cls srcNo : Nat) (t : Tempo) : (noteFields src cls srcNo t).map Prod.fst = noteRegs := rfl

theorem noteFields_apart (src cls srcNo : Nat) (t : Tempo) : (noteFields src cls srcNo t).Pairwise fun p q => q.1.Apart p.1 := by
  have hregs : noteRegs.Pairwise fun f g => g.Apart f := by decide
  rw [← noteFields_map src cls srcNo t] at hregs
  exact List.pairwise_map.1 hregs

/-- Each field of the note reads as the note says. -/
theorem State.setFlds_note {src cls srcNo : Nat} {t : Tempo} {f : FRef} {v : Nat} (hmem : (f, v) ∈ noteFields src cls srcNo t) (hfits : f.Fits v)
    (s : State) : (s.setFlds (noteFields src cls srcNo t)).fld f = v :=
  State.setFlds_fld_of_mem hmem (noteFields_apart src cls srcNo t) hfits s

/-- Registers written together are of the register store. -/
theorem State.bump_setFlds_frame (s : State) (f : FRef) (n : Nat) (l : List (FRef × Nat)) : { (s.bump f n).setFlds l with regs := s.regs } = s := by
  have hfields : { (s.bump f n).setFlds l with regs := s.regs } = { s.bump f n with regs := s.regs } :=
    foldl_keeps (fun t : State => { t with regs := s.regs }) (fun t (p : FRef × Nat) _ => t.setFld_frame p.1 p.2 s.regs) _
  rw [hfields, State.bump, State.setFld_frame]

/-- Settles O58. -/
theorem faultNoteOnlyShows : Obligations.FaultNoteOnlyShows := by
  unfold Obligations.FaultNoteOnlyShows
  refine fun corr src cls srcNo t s hserve hring => ⟨fun hother => ?_, fun hown => ?_⟩
  · have hother' : src.toNat ≠ (s.bump Reg.RING_CNT0_CORR corr).tileNo := by rwa [State.bump_ringCorr_tileNo]
    have htempo : t.toNat / 256 < 2 ^ 32 := by have := t.isLt; omega
    have hshown (f : FRef) (v : Nat) (hmem : (f, v) ∈ noteFields src.toNat cls.toNat srcNo.toNat t) (hfits : f.Fits v) :=
      State.setFlds_note hmem hfits (s.bump Reg.RING_CNT0_CORR corr)
    rw [exec_faultNote hserve hring, State.ringNote_of_other hother']
    refine ⟨_, rfl, State.flag_of_fld (b := true) (hshown Reg.RING_EVT_NOTE 1 (by simp [noteFields]) ?_),
      hshown Reg.RING_NOTE_TILE src.toNat (by simp [noteFields]) ?_, hshown Reg.RING_NOTE_SRC srcNo.toNat (by simp [noteFields]) ?_,
      hshown Reg.RING_NOTE_CLASS cls.toNat (by simp [noteFields]) ?_, hshown Reg.RING_NOTET_TEMPO (t.toNat / 256) (by simp [noteFields]) ?_, ?_,
      fun g hg hg32 hall => ?_⟩
    · exact ⟨by decide, by decide, by decide⟩
    · exact ⟨by decide, by decide, src.isLt⟩
    · exact ⟨by decide, by decide, srcNo.isLt⟩
    · exact ⟨by decide, by decide, cls.isLt⟩
    · exact ⟨by decide, by decide, htempo⟩
    · exact s.bump_setFlds_frame _ corr _
    · have h32 : ∀ f ∈ Reg.RING_CNT0_CORR :: noteRegs, f.hi < 32 := by decide
      have hapart : ∀ f ∈ Reg.RING_CNT0_CORR :: noteRegs, f.Apart g := fun f hf =>
        ⟨h32 f hf, hg32, by simpa [or_assoc] using List.all_eq_true.1 hall f hf⟩
      have hnote : ∀ p ∈ noteFields src.toNat cls.toNat srcNo.toNat t, p.1.Apart g := fun p hp =>
        hapart p.1 (.tail _ (noteFields_map src.toNat cls.toNat srcNo.toNat t ▸ List.mem_map_of_mem hp))
      rw [State.setFlds_fld_apart _ hnote, State.bump, State.setFld_fld_apart (hapart _ (.head _))]
  · have hown' : src.toNat = (s.bump Reg.RING_CNT0_CORR corr).tileNo := by rwa [State.bump_ringCorr_tileNo]
    rw [exec_faultNote hserve hring, State.ringNote_of_own hown']

end Sys2Proof.Machine

/-! SUPPORT. The fault collector's registers: status bits, the first fault, the log queue and its words (O45, O46). -/

namespace Sys2Proof.Machine

open Sys2Proof

/-! ## Status bits (R484, R488) -/

/-- Every source of R484 has its row. -/
theorem srcRow_of_mem {x : SrcRow} (h : x ∈ srcTable) : srcRow x.no = some x := by
  have hrows : ∀ x ∈ srcTable, srcRow x.no = some x := by decide
  exact hrows x h

theorem FLTC_STS_key (n : Nat) : (Reg.FLTC_STS_STS n).key = 0x1044 + 4 * n := by
  simp only [FRef.key, regKey, Reg.FLTC_STS_STS]
  omega

/-- The bits of a status register written 1 that a write clears: set, and not of class F. -/
def State.clears (s : State) (j : Nat) (w : Word) (no : Nat) : Bool :=
  decide (no / 32 = j) && w.getLsbD (no % 32) && s.stsBit no && (match srcRow no with | some x => decide (x.cls ≠ 3) | none => false)

/-- A word made of the bits `i` below `n` for which `c` holds. -/
def maskOf (c : Nat → Bool) (n : Nat) : Nat := (List.range n).foldl (fun m i => if c i then m ||| 2 ^ i else m) 0

theorem maskOf_testBit (c : Nat → Bool) (n i : Nat) : (maskOf c n).testBit i = (decide (i < n) && c i) := by
  induction n with
  | zero => simp [maskOf]
  | succ n ih =>
    rw [maskOf, List.range_succ, List.foldl_append, List.foldl_cons, List.foldl_nil, ← maskOf]
    have hstep : (if c n then maskOf c n ||| 2 ^ n else maskOf c n).testBit i = ((maskOf c n).testBit i || (decide (i = n) && c n)) := by
      cases hc : c n with
      | false => simp
      | true => simp [Nat.testBit_or, Nat.testBit_two_pow, eq_comm]
    rw [hstep, ih]
    by_cases hin : i = n
    · subst hin; simp
    · have hlt : i < n + 1 ↔ i < n := by omega
      simp [hin, hlt]

theorem maskOf_lt (c : Nat → Bool) (n : Nat) : maskOf c n < 2 ^ n :=
  Nat.lt_pow_two_of_testBit _ fun i hi => by rw [maskOf_testBit, decide_eq_false (by omega), Bool.false_and]

/-- A write of 1 of status bits, but for the loop it may let send again. -/
def State.statusCleared (s : State) (j : Nat) (w : Word) : State :=
  (s.stopTimers (s.clears j w)).setFld (Reg.FLTC_STS_STS j) (s.fld (Reg.FLTC_STS_STS j) ^^^ maskOf (fun i => s.clears j w (32 * j + i)) 32)

/-- The loop may send again. -/
def State.loopFreed (s : State) : State := { s with power := { s.power with vstop := false } }

theorem State.clearStatus_eq (s : State) (j : Nat) (w : Word) :
    s.clearStatus j w = if s.clears j w 0x2C then (s.statusCleared j w).loopFreed else s.statusCleared j w := rfl

theorem State.clearStatus_regs (s : State) (j : Nat) (w : Word) : (s.clearStatus j w).regs = (s.statusCleared j w).regs := by
  rw [State.clearStatus_eq]
  split
  · rw [State.loopFreed]
  · rfl

theorem State.clearStatus_timers (s : State) (j : Nat) (w : Word) :
    (s.clearStatus j w).fault.timers = s.fault.timers.filter (fun t => !s.clears j w t.src) := by
  have hcleared : (s.statusCleared j w).fault = (s.stopTimers (s.clears j w)).fault := State.setFld_fault _ _ _
  rw [State.clearStatus_eq]
  split
  · rw [State.loopFreed, hcleared, State.stopTimers]
  · rw [hcleared, State.stopTimers]

theorem State.clearStatus_mode (s : State) (j : Nat) (w : Word) : (s.clearStatus j w).mode = s.mode := by
  have hcleared : (s.statusCleared j w).mode = s.mode := State.setFld_mode _ _ _
  rw [State.clearStatus_eq]
  split
  · rw [State.loopFreed, hcleared]
  · exact hcleared

theorem State.statusCleared_fld (s : State) (j : Nat) (w : Word) : (s.statusCleared j w).fld (Reg.FLTC_STS_STS j) =
    s.fld (Reg.FLTC_STS_STS j) ^^^ maskOf (fun i => s.clears j w (32 * j + i)) 32 :=
  State.setFld_fld_same _ (Nat.zero_le _) (show 31 < 32 by decide) (Nat.xor_lt_two_pow (s.fld_lt _) (maskOf_lt _ 32))

theorem State.statusCleared_fld_other {i j : Nat} (h : i ≠ j) (s : State) (w : Word) :
    (s.statusCleared j w).fld (Reg.FLTC_STS_STS i) = s.fld (Reg.FLTC_STS_STS i) :=
  State.setFld_fld_ne _ _ _ _ (by rw [FLTC_STS_key, FLTC_STS_key]; omega)

/-- A status bit after a write: set before, and not cleared. -/
theorem State.clearStatus_stsBit (s : State) (j : Nat) (w : Word) (no : Nat) :
    (s.clearStatus j w).stsBit no = (s.stsBit no && !s.clears j w no) := by
  rw [State.stsBit, State.fbit, State.fld_of_regs (s.clearStatus_regs j w)]
  by_cases hj : no / 32 = j
  · have hno : 32 * j + no % 32 = no := by omega
    have hset : (s.fld (Reg.FLTC_STS_STS j)).testBit (no % 32) = s.stsBit no := by rw [State.stsBit, State.fbit, hj]
    rw [hj, State.statusCleared_fld, Nat.testBit_xor, maskOf_testBit, hno, hset, decide_eq_true (Nat.mod_lt no (by decide)), Bool.true_and]
    cases hsts : s.stsBit no with
    | true => simp
    | false => simp [State.clears, hsts]
  · have hkeep : s.clears j w no = false := by simp [State.clears, hj]
    rw [State.statusCleared_fld_other hj, hkeep, Bool.not_false, Bool.and_true]
    rfl

/-! ## Words of full registers -/

/-- A register that is one field of 32 bits. -/
theorem State.word_of_fld {s : State} {f : FRef} (hlo : f.lo = 0) (hhi : f.hi = 31) : s.word f.key = BitVec.ofNat 32 (s.fld f) := by
  apply BitVec.eq_of_toNat_eq
  rw [State.fld, FRef.get, hlo, hhi, BitVec.toNat_ofNat]
  simp [Nat.mod_eq_of_lt (s.word f.key).isLt]

/-! ## The log queue (R502, R504) -/

theorem State.logPop_of_empty {s : State} (h : s.fault.log = []) (upset : BitVec 128) : s.logPop upset = s.set1 Reg.FLTC_LOGSTAT_UNDER := by
  rw [State.logPop, h]

/-- The words of a record in their registers. -/
def logFields (r : FaultRec) : List (FRef × Nat) :=
  [(Reg.FLTC_LOGPOP_W0, r.w0.toNat), (Reg.FLTC_LOGW_W 1, r.w1.toNat), (Reg.FLTC_LOGW_W 2, r.w2.toNat), (Reg.FLTC_LOGW_W 3, r.w3.toNat)]

/-- The oldest record leaves the queue for its registers. -/
def State.logTaken (s : State) (r : FaultRec) (rest : List FaultRec) : State :=
  ({ s with fault := { s.fault with log := rest } } : State).setFlds (logFields r)

/-- Where no stored bit has flipped, the record's own words are shown and nothing is counted. -/
theorem State.logPop_of_intact {s : State} {r : FaultRec} {rest : List FaultRec} (h : s.fault.log = r :: rest) :
    s.logPop 0 = (((s.logTaken r rest).bump Reg.FLTC_LOGECC_CE 0).bump Reg.FLTC_LOGECC_UE 0).logLevel := by
  have hsecded : secded 2 (0 : BitVec 128).toNat = (0, 0) := by decide
  have hbits (i : Nat) : ((0 : BitVec 128).toNat >>> (64 * i)) % 2 ^ 64 = 0 := by simp
  have hzero (w : Word) (j : Nat) : w ^^^ BitVec.ofNat 32 (0 >>> (32 * j)) = w := by simp
  simp only [State.logPop, h, hsecded, hbits, ite_self, hzero, if_true]
  rfl

theorem State.logLevel_fault (s : State) : s.logLevel.fault = s.fault := (congrArg State.fault (s.level_frame _ _ _ _ _ _) :)

theorem State.logLevel_fld {f : FRef} (hstat : f.key ≠ 0x1080) (hevt : f.key ≠ 0x1014) (s : State) : s.logLevel.fld f = s.fld f :=
  State.level_fld hstat hevt hevt _ _ _

theorem State.setFlds_fault (s : State) (l : List (FRef × Nat)) : (s.setFlds l).fault = s.fault := (congrArg State.fault (State.setFlds_frame l s) :)

theorem State.logTaken_fault (s : State) (r : FaultRec) (rest : List FaultRec) : (s.logTaken r rest).fault = { s.fault with log := rest } := by
  rw [State.logTaken, State.setFlds_fault]

theorem logFields_apart (r : FaultRec) : (logFields r).Pairwise fun p q => q.1.Apart p.1 := by
  have hregs : [Reg.FLTC_LOGPOP_W0, Reg.FLTC_LOGW_W 1, Reg.FLTC_LOGW_W 2, Reg.FLTC_LOGW_W 3].Pairwise fun f g => g.Apart f := by decide
  have hmap : (logFields r).map Prod.fst = [Reg.FLTC_LOGPOP_W0, Reg.FLTC_LOGW_W 1, Reg.FLTC_LOGW_W 2, Reg.FLTC_LOGW_W 3] := rfl
  rw [← hmap] at hregs
  exact List.pairwise_map.1 hregs

/-- A popped record's words are those of their registers. -/
theorem State.logPop_word {s : State} {r : FaultRec} {rest : List FaultRec} (h : s.fault.log = r :: rest) {f : FRef} {w : Word}
    (hmem : (f, w.toNat) ∈ logFields r) (hkey : 0x1070 ≤ f.key ∧ f.key < 0x1080) (hlo : f.lo = 0) (hhi : f.hi = 31) :
    (s.logPop 0).word f.key = w := by
  obtain ⟨hlow, hhigh⟩ := hkey
  have hfits : f.Fits w.toNat := ⟨by omega, by omega, by rw [hlo, hhi]; exact w.isLt⟩
  have hecc : Reg.FLTC_LOGECC_CE.key = 0x1088 ∧ Reg.FLTC_LOGECC_UE.key = 0x1088 := by decide
  rw [State.word_of_fld hlo hhi, State.logPop_of_intact h, State.logLevel_fld (by omega) (by omega), State.bump_fld_ne _ _ _ (by omega),
    State.bump_fld_ne _ _ _ (by omega), State.logTaken, State.setFlds_fld_of_mem hmem (logFields_apart r) hfits, BitVec.ofNat_toNat,
    BitVec.setWidth_eq]

theorem State.logPop_log {s : State} {r : FaultRec} {rest : List FaultRec} (h : s.fault.log = r :: rest) : (s.logPop 0).fault.log = rest := by
  rw [State.logPop_of_intact h, State.logLevel_fault, State.bump_fault, State.bump_fault, State.logTaken_fault]

end Sys2Proof.Machine

/-! SUPPORT and settlement of the statement about the fault collector's registers (O46). -/

namespace Sys2Proof.Machine

open Sys2Proof

/-! ## FAULT_REPORT and CHECK_TIMER_EXPIRY (R486, R492) -/

section
variable {s : State} (h : s.serving = true)
include h

theorem exec_faultReport (src loc aux : Nat) (akind : Bool) (addr : Nat) :
    exec (.faultReport src loc aux akind addr) s = .next (keepPins s (s.reportFault src loc aux akind addr)) := by
  show execFaultReport src loc aux akind addr s = _
  exact serve_next h _

theorem exec_checkTimerExpiry : exec .checkTimerExpiry s = .next (s.done s.chkExpire) := by
  show execCheckTimerExpiry s = _
  exact act_next h _

end

theorem State.reportFault_of_listed {src : Nat} (h : (srcRow src).isSome = true) (s : State) (loc aux : Nat) (akind : Bool) (addr : Nat) :
    s.reportFault src loc aux akind addr = s.raise src ⟨loc % 256, aux % 2 ^ 16, akind, addr % 2 ^ 46⟩ := by
  obtain ⟨x, hx⟩ := Option.isSome_iff_exists.1 h
  rw [State.reportFault, hx]

theorem State.reportFault_of_unlisted {src : Nat} (h : srcRow src = none) (s : State) (loc aux : Nat) (akind : Bool) (addr : Nat) :
    s.reportFault src loc aux akind addr = s := by rw [State.reportFault, h]

/-- The record of a Check Timer that has run out. -/
def escReport (t : ChkTimer) : Report := ⟨t.dl, t.src, 0, 0, false, 0, false, false, true⟩

/-- A Check Timer has run out. -/
def State.timerOut (s : State) (t : ChkTimer) : State :=
  { s with fault := { s.fault with timers := s.fault.timers.erase t, reports := s.fault.reports ++ [escReport t] } }

theorem State.chkExpire_of_some {s : State} {t : ChkTimer} (h : s.firstTimer = some t) :
    s.chkExpire = ((s.advanceTo t.dl).timerOut t).set1 Reg.FLTC_EVT_ESC := by
  rw [State.chkExpire, h]
  rfl

theorem State.chkExpire_of_none {s : State} (h : s.firstTimer = none) : s.chkExpire = s := by rw [State.chkExpire, h]

/-! ## Software's writes (R488, R489, R501) -/

section
variable {s : State} {agent : BitVec 4}

theorem State.portWrite_status (hfree : s.pageFree agent 1) (high : Bool) (w : Word) :
    s.portWrite agent (Reg.FLTC_STS_STS (b2n high)).key w true true = (s.clearStatus (b2n high) w).okAck := by
  have hawake : (s.clearStatus (b2n high) w).mode ≠ .sleep := by rw [State.clearStatus_mode]; exact hfree.2.1
  cases high with
  | false =>
    exact State.mgtWrite_own hfree rfl (by decide) (by decide) rfl (by decide) (fun h => absurd h (by decide)) (by decide)
      (show s.ownWrite agent.toNat 1 0x044 w true true = some (s.clearStatus 0 w) from rfl) hawake
  | true =>
    exact State.mgtWrite_own hfree rfl (by decide) (by decide) rfl (by decide) (fun h => absurd h (by decide)) (by decide)
      (show s.ownWrite agent.toNat 1 0x048 w true true = some (s.clearStatus 1 w) from rfl) hawake

theorem exec_faultStatusClear (hfree : s.pageFree agent 1) (high : Bool) (w : Word) :
    exec (.faultStatusClear agent high w) s = .next (keepPins s (s.clearStatus (b2n high) w).okAck) := by
  show execFaultStatusClear agent high w s = _
  rw [execFaultStatusClear, serve_next hfree.1, State.portWrite_status hfree]

theorem State.setFlds_mode (s : State) (l : List (FRef × Nat)) : (s.setFlds l).mode = s.mode := (congrArg State.mode (State.setFlds_frame l s) :)

theorem State.clearFirst_mode (s : State) : s.clearFirst.mode = s.mode := s.setFlds_mode _

theorem exec_firstFaultClear (hfree : s.pageFree agent 1) : exec (.firstFaultClear agent) s = .next (keepPins s s.clearFirst.okAck) := by
  have hawake : s.clearFirst.mode ≠ .sleep := by rw [State.clearFirst_mode]; exact hfree.2.1
  have hown : s.ownWrite agent.toNat 1 0x064 (wordOf [(Reg.FLTC_FFCTL_VLD, 1)]) true true = some s.clearFirst := rfl
  have hwrite : s.portWrite agent Reg.FLTC_FFCTL_VLD.key (wordOf [(Reg.FLTC_FFCTL_VLD, 1)]) true true = s.clearFirst.okAck :=
    State.mgtWrite_own hfree rfl (by decide) (by decide) rfl (by decide) (fun h => absurd h (by decide)) (by decide) hown hawake
  show execFirstFaultClear agent s = _
  rw [execFirstFaultClear, serve_next hfree.1, hwrite]

/-- The fields of the first-fault register and of the sources seen after it. -/
def firstRegs : List FRef :=
  [Reg.FLTC_FF_FF 0, Reg.FLTC_FF_FF 1, Reg.FLTC_FF_FF 2, Reg.FLTC_FF_FF 3, Reg.FLTC_FFCTL_VLD, Reg.FLTC_SEEN_SEEN 0, Reg.FLTC_SEEN_SEEN 1]

theorem State.clearFirst_eq (s : State) : s.clearFirst = s.setFlds (firstRegs.map (·, 0)) := rfl

theorem State.clearFirst_fld (s : State) {f : FRef} (h : f ∈ firstRegs) : s.clearFirst.fld f = 0 := by
  have hwithin : ∀ f ∈ firstRegs, f.lo ≤ f.hi ∧ f.hi < 32 := by decide
  have hregs : firstRegs.Pairwise fun f g => g.Apart f := by decide
  rw [State.clearFirst_eq]
  exact State.setFlds_fld_of_mem (List.mem_map_of_mem (f := (·, 0)) h) (List.pairwise_map.2 hregs)
    ⟨(hwithin f h).1, (hwithin f h).2, Nat.two_pow_pos _⟩ s

variable {page : Nat}

theorem exec_force (hpage : page < 0x1C) (hfree : s.pageFree agent page) (w : Word) :
    exec (.force agent page w) s = .next (keepPins s (s.force page w).okAck) := by
  have hawake : (s.force page w).mode ≠ .sleep := hfree.2.1
  have hbody : s.writeBody agent.toNat page 0x020 w true true = (stOk, s.force page w) := rfl
  have hwrite : s.portWrite agent (page * 0x1000 + 0x20) w true true = (s.force page w).okAck :=
    State.portWrite_of_body hfree hpage (by decide) hbody hawake
  show execForce agent page w s = _
  rw [execForce, serve_next hfree.1, hwrite]

end

/-- The page under which a page's force bits stand in R484. -/
def forcePage (page : Nat) : Nat := if 0x8 ≤ page ∧ page ≤ 0xF then 0x8 else if 0x18 ≤ page ∧ page ≤ 0x1B then 0x18 else page

/-- The sources a write of force bits reports. -/
def State.forcedRows (s : State) (page : Nat) (w : Word) : List SrcRow :=
  srcTable.filter (fun r => decide (r.page = forcePage page) && w.getLsbD r.bit && (decide (r.cls ≠ 3) || s.flag Reg.FLTC_CFG_FORCE_F))

theorem State.force_reports (s : State) (page : Nat) (w : Word) : ∃ loc : Nat, (s.force page w).fault.reports =
    s.fault.reports ++ (s.forcedRows page w).map (fun r => ⟨s.tempo, r.no, loc, 0, false, 0, true, false, false⟩) := by
  simp only [State.force, State.forcedRows, forcePage, Bool.and_eq_true, decide_eq_true_eq]
  exact ⟨_, rfl⟩

/-- Each source whose force bit is written is reported, stamped now. -/
theorem State.exists_report_of_forced {s : State} {page : Nat} {w : Word} {x : SrcRow} (h : x ∈ s.forcedRows page w) :
    ∃ r ∈ (s.force page w).fault.reports, r.src = x.no ∧ r.forced = true ∧ r.stamp = s.tempo := by
  obtain ⟨loc, hreports⟩ := s.force_reports page w
  rw [hreports]
  exact ⟨_, List.mem_append_right _ (List.mem_map_of_mem h), rfl, rfl, rfl⟩

theorem State.mem_forcedRows {s : State} {page : Nat} {w : Word} {x : SrcRow} (hx : x ∈ srcTable) (hpage : x.page = forcePage page)
    (hbit : w.getLsbD x.bit = true) (hcls : x.cls ≠ 3 ∨ s.flag Reg.FLTC_CFG_FORCE_F = true) : x ∈ s.forcedRows page w :=
  List.mem_filter.2 ⟨hx, by simpa [hpage, hbit] using hcls⟩

/-! ## LOG_POP (R502, R504) -/

section
variable {s : State} {agent : BitVec 4} (hfree : s.pageFree agent 1)
include hfree

/-- A read of the log's pop register returns the word it has just moved. -/
theorem State.mgtRead_logPop (upset : BitVec 128) : s.mgtRead agent.toNat Reg.FLTC_LOGPOP_W0.key upset =
    (s.logPop upset).emit (.mgt ((s.logPop upset).readWord agent.toNat 1 0x070) 0) := by
  obtain ⟨-, hawake, hagent, hclaim⟩ := hfree
  have hwake : s.wakeAccess 1 4 = s := if_pos (.inr (.inr hawake))
  have htouch : s.touchClaim agent.toNat 1 = s := by simp [State.touchClaim, hclaim]
  have hkey : Reg.FLTC_LOGPOP_W0.key / 0x1000 = 1 ∧ Reg.FLTC_LOGPOP_W0.key % 0x1000 = 0x070 := by decide
  simp only [State.mgtRead, State.busRead, hagent, hkey, hwake, htouch, State.readEffect, Bool.not_true, Bool.false_eq_true, if_false, and_self,
    if_true]
  rfl

theorem exec_logPop (upset : BitVec 128) : exec (.logPop agent upset) s =
    .next (keepPins s ((s.logPop upset).emit (.mgt ((s.logPop upset).readWord agent.toNat 1 0x070) 0))) := by
  show execLogPop agent upset s = _
  rw [execLogPop, serve_next hfree.1, State.mgtRead_logPop hfree]

end

/-- The pop register shows its stored word to every agent. -/
theorem State.readWord_logPop (s : State) (agent : Nat) : s.readWord agent 1 0x070 = s.word Reg.FLTC_LOGPOP_W0.key := by
  have hstaged : accMask 1 0x070 .rs = 0 := by decide +kernel
  have hread : readMask 1 0x070 = BitVec.allOnes 32 := by decide +kernel
  have hheader : s.headerWord agent 1 0x070 = none := rfl
  have hlive : s.live 1 0x070 = [] := rfl
  have hbuilt : s.pageBuilt 1 = true := rfl
  have hkey : regKey 1 0x070 = Reg.FLTC_LOGPOP_W0.key := rfl
  have hall : ~~~(0 : Word) = BitVec.allOnes 32 := rfl
  simp only [State.readWord, hheader, hbuilt, hlive, hstaged, hread, List.foldl_nil, hkey, hall]
  simp only [Nat.reduceLeDiff, Nat.reduceEqDiff, false_and, and_false, if_false, BitVec.and_allOnes]
  exact (congrArg (_ ||| ·) BitVec.and_zero).trans BitVec.or_zero

/-- Settles O46. That CHECK_TIMER_EXPIRY with no timer changes nothing is log 4. -/
theorem faultRegistersAct : Obligations.FaultRegistersAct := by
  unfold Obligations.FaultRegistersAct
  refine ⟨fun src loc aux akind addr s hserve => ⟨fun hlisted => ?_, fun hunlisted => ?_⟩,
    fun s hserve => ⟨fun t ht => ?_, fun hnone => ?_⟩,
    fun agent s hfree => ⟨fun high w => ?_, ?_, fun r rest hlog => ?_, fun upset hempty => ?_⟩, fun agent page w s hpage hfree => ?_⟩
  · rw [exec_faultReport hserve, State.reportFault_of_listed hlisted]
    rfl
  · rw [exec_faultReport hserve, State.reportFault_of_unlisted hunlisted]
    rfl
  · rw [exec_checkTimerExpiry hserve, State.chkExpire_of_some ht]
    refine ⟨_, rfl, ?_, State.set1_flag_same _ (by decide) (by decide), escReport t, ?_, rfl, rfl, rfl⟩
    · rw [State.set1_fault, State.timerOut, State.advanceTo_fault]
    · rw [State.set1_fault, State.timerOut]
      exact List.mem_append_right _ (List.mem_singleton.2 rfl)
  · rw [exec_checkTimerExpiry hserve, State.chkExpire_of_none hnone]
  · rw [exec_faultStatusClear hfree]
    refine ⟨_, rfl, fun x hx => ⟨?_, fun hset hclear t ht htsrc => ?_⟩⟩
    · rw [State.clearStatus_stsBit, State.clears, srcRow_of_mem hx]
      cases s.stsBit x.no <;> simp
    · have hcleared : s.clears (b2n high) w x.no = true := by
        rw [State.clearStatus_stsBit, hset] at hclear
        simpa using hclear
      rw [State.clearStatus_timers, List.mem_filter, htsrc, hcleared] at ht
      exact absurd ht.2 (by decide)
  · rw [exec_firstFaultClear hfree]
    have hff : ∀ i < 4, Reg.FLTC_FF_FF i ∈ firstRegs := by decide
    exact ⟨_, rfl, State.flag_of_fld (b := false) (s.clearFirst_fld (by decide)), fun i hi => s.clearFirst_fld (hff i hi),
      s.clearFirst_fld (by decide), s.clearFirst_fld (by decide)⟩
  · have hword (f : FRef) (w : Word) := State.logPop_word (s := s) hlog (f := f) (w := w)
    rw [exec_logPop hfree, State.readWord_logPop, hword Reg.FLTC_LOGPOP_W0 r.w0 (by simp [logFields]) (by decide) rfl rfl]
    exact ⟨_, rfl, State.logPop_log hlog, hword (Reg.FLTC_LOGW_W 1) r.w1 (by simp [logFields]) (by decide) rfl rfl,
      hword (Reg.FLTC_LOGW_W 2) r.w2 (by simp [logFields]) (by decide) rfl rfl,
      hword (Reg.FLTC_LOGW_W 3) r.w3 (by simp [logFields]) (by decide) rfl rfl⟩
  · rw [exec_logPop hfree, State.logPop_of_empty hempty]
    exact ⟨_, _, rfl, State.set1_flag_same _ (by decide) (by decide), State.set1_fault _ _⟩
  · rw [exec_force hpage hfree]
    exact ⟨_, rfl, fun x hx hxpage hbit hcls => State.exists_report_of_forced (State.mem_forcedRows hx hxpage hbit hcls)⟩

end Sys2Proof.Machine

/-! SUPPORT. What the lattices, the issue of commands and a channel's self-refresh leave as it is (O45). -/

namespace Sys2Proof.Machine

open Sys2Proof

/-! ## The state's operations -/

theorem State.Steady.ite {s t u : State} {c : Prop} [Decidable c] (ht : s.Steady t) (hu : s.Steady u) : s.Steady (if c then t else u) := by
  split
  · exact ht
  · exact hu

theorem State.steady_emit (s : State) (o : Output) : s.Steady (s.emit o) := .of_eq rfl id rfl

theorem State.steady_raise (s : State) (n : Nat) (w : Place) : s.Steady (s.raise n w) := .of_eq rfl id rfl

theorem State.steady_setGroup (s : State) (k : Nat) (x : Group) : s.Steady (s.setGroup k x) := .of_eq rfl id rfl

theorem State.steady_setPort (s : State) (p : Nat) (x : Port) : s.Steady (s.setPort p x) := .of_eq rfl id rfl

theorem State.steady_setPhy (s : State) (c : Nat) (x : Phy) : s.Steady (s.setPhy c x) := .of_eq rfl id rfl

theorem State.steady_setSlot (s : State) (k : Nat) (x : Slot) : s.Steady (s.setSlot k x) := .of_eq rfl id rfl

theorem State.steady_setScrub (s : State) (c : Nat) (x : Scrub) : s.Steady (s.setScrub c x) := .of_eq rfl id rfl

theorem State.steady_setTrack (s : State) (i : Nat) (x : Option Track) : s.Steady (s.setTrack i x) := .of_eq rfl id rfl

theorem State.steady_ring (s : State) (x : RingSt) : s.Steady { s with ring := x } := .of_eq rfl id rfl

theorem State.steady_reqs (s : State) (l : List Req) : s.Steady { s with reqs := l } := .of_eq rfl id rfl

theorem State.steady_mapReq (s : State) (rid : Nat) (f : Req → Req) : s.Steady (s.mapReq rid f) := s.steady_reqs _

theorem State.steady_dropReq (s : State) (rid : Nat) : s.Steady (s.dropReq rid) := s.steady_reqs _

theorem State.steady_wbuf (s : State) (l : List WLine) : s.Steady { s with wbuf := l } := .of_eq rfl id rfl

theorem State.steady_mapLines (s : State) (c : WLine → Bool) (f : WLine → WLine) : s.Steady (s.mapLines c f) := s.steady_wbuf _

/-- What the ring stop sends. -/
theorem State.OnlySends.steady {s t : State} (h : s.OnlySends t) : s.Steady t :=
  .of_eq (congrArg State.standing h.rest :) (fun hnone => (congrArg State.qes h.rest :).trans hnone) h.regs

theorem State.steady_sendAwait (s : State) (type dst arg : Nat) (payload : List (BitVec 128)) (forWhat : Nat) :
    s.Steady (s.sendAwait type dst arg payload forWhat) := by
  unfold State.sendAwait
  dsimp only
  split
  · exact s.steady_ring _
  · exact (s.onlySends_send _ _ _ _).steady.trans (State.steady_ring _ _)

/-! ## The lattice takes a command (R204, R208, R239, R249-R252) -/

theorem State.steady_bankAct (s : State) (sc rk bk row : Nat) (nbr : Bool) : s.Steady (s.bankAct sc rk bk row nbr) := by
  have hset := s.steady_setEng (engOf sc rk bk) (engAct (s.eng (engOf sc rk bk)) (s.chDec (sc / 2)).rowBits row nbr)
  exact .ite ((hset.trans (State.steady_setFld _ (by decide) 1)).trans ((State.steady_setFld _ (by decide) _).trans (State.steady_raise _ _ _))) hset

theorem State.steady_engRefreshed (s : State) (b : Nat) : s.Steady (s.engRefreshed b) := by
  unfold State.engRefreshed
  dsimp only
  exact .ite (s.steady_setEng _ _) (s.steady_setEng _ _)

theorem State.steady_groupRefreshed (s : State) (sc rk j : Nat) : s.Steady (s.groupRefreshed sc rk j) := by
  have hforced : s.Steady (if s.forced sc rk j then s.bump Reg.REFD_CNT1_FORCED else s) := .ite (s.steady_setFld (by decide) _) (.refl s)
  exact (hforced.trans (State.steady_setGroup _ _ _)).trans (.foldl State.steady_engRefreshed _ _)

theorem State.steady_closeNotice (s : State) (b : Nat) : s.Steady (s.closeNotice b) := s.steady_setEng _ _

theorem State.steady_followCmd (s : State) (sc : Nat) (c : Cmd) (rk bk row tag : Nat) : s.Steady (s.followCmd sc c rk bk row tag) := by
  unfold State.followCmd
  dsimp only
  split
  · exact .ite ((s.steady_bankAct sc rk bk row _).trans (State.steady_setEng _ _ _)) (s.steady_bankAct sc rk bk row _)
  · split
    · refine .ite (.ite ?_ (s.steady_setEng _ _)) (.refl s)
      exact (s.steady_setEng _ _).trans (State.steady_setFld _ (by decide) _)
    · exact .refl s
  · exact .ite ((s.steady_setEng _ _).trans (State.steady_setFld _ (by decide) _)) (.refl s)
  · exact .ite ((s.steady_setEng _ _).trans (State.steady_setFld _ (by decide) _)) (.refl s)
  · exact s.steady_groupRefreshed _ _ _
  · refine State.Steady.trans ?_ (State.steady_groupRefreshed _ _ _ _)
    exact .ite (s.steady_setFld (by decide) 1) (.ite (s.steady_ring _) (.refl s))
  · exact .foldl (fun t _ => t.steady_closeNotice _) _ s
  · exact .foldl (fun t _ => t.steady_setEng _ _) _ s
  · exact .refl s

theorem State.steady_takeSlot (s : State) (sc : Nat) (c : Cmd) (rk bk row col tag slot ma val : Nat) :
    s.Steady (s.takeSlot sc c rk bk row col tag slot ma val) := (s.steady_setSub _ _).trans (State.steady_followCmd _ _ _ _ _ _ _)

theorem State.steady_verdict (s : State) (sc : Nat) (v : Verdict) : s.Steady (s.verdict sc v) := s.steady_setSub _ _

theorem State.steady_runSeqs (s : State) (sc k2 fuel : Nat) (l : List SeqCmd) (waiting : List (Nat × Nat)) :
    s.Steady (s.runSeqs sc k2 fuel l waiting) := by
  induction fuel generalizing s l waiting with
  | zero => rw [State.runSeqs]; exact .refl s
  | succ fuel ih =>
    cases l with
    | nil => simp only [State.runSeqs]; exact .refl s
    | cons q rest =>
      have hwait (t : State) (w : List (Nat × Nat)) :
          t.Steady ((t.setSub sc { t.sub sc with seqs := (t.sub sc).seqs ++ [q] }).runSeqs sc k2 fuel rest w) :=
        (t.steady_setSub _ _).trans (ih _ _ _)
      have hdone (t : State) : t.Steady (if q.why = 0 then (t.set1 Reg.TIMG_EVT_MR_DONE).clr Reg.TIMG_MRCMD_GO else t) :=
        .ite ((t.steady_setFld (by decide) 1).trans (State.steady_setFld _ (by decide) 0)) (.refl t)
      rw [State.runSeqs]
      refine .ite (hwait s _) ?_
      split
      · exact hwait s _
      · exact .ite (((s.steady_setSub _ _).trans (hdone _)).trans (ih _ _ _)) (hwait s _)
      · split
        · refine .trans ?_ (ih _ _ _)
          exact (s.steady_takeSlot _ _ _ _ _ _ _ _ _ _).trans (.ite (State.steady_verdict _ _ _) (.refl _))
        · exact hwait s _

theorem State.steady_keep (s : State) (sc : Nat) (p : Proposal) (why nb : Nat) : s.Steady (s.keep sc p why nb) :=
  .ite (s.steady_verdict _ _) (s.steady_setSub _ _)

theorem State.steady_consider (s : State) (sc k : Nat) (held : List Nat) (p : Proposal) : s.Steady (s.consider sc k held p) := by
  unfold State.consider
  dsimp only
  refine .ite (s.steady_keep _ _ _ _) (.ite (s.steady_setSub _ _) (.ite (s.steady_verdict _ _) ?_))
  split
  · exact (s.steady_takeSlot _ _ _ _ _ _ _ _ _ _).trans (State.steady_verdict _ _ _)
  · exact s.steady_keep _ _ _ _

theorem State.steady_latticeTick (s : State) (sc : Nat) : s.Steady (s.latticeTick sc) := by
  unfold State.latticeTick
  dsimp only
  exact (((s.steady_setSub _ _).trans (State.steady_runSeqs _ _ _ _ _ _)).trans (.foldl (fun t p => t.steady_consider _ _ _ p) _ _)).trans
    (State.steady_setSub _ _ _)

end Sys2Proof.Machine

/-! SUPPORT. What the issue of commands, a channel's self-refresh and its stop leave as it is (O45). -/

namespace Sys2Proof.Machine

open Sys2Proof

/-! ## Answers and the write data buffer (R37, R42, R48, R50, R54, R146) -/

/-- A field of a port's page. -/
theorem FRef.elsewhere_of_port {f : FRef} (hpage : 0x8000 ≤ f.key) : f.Elsewhere := .inr (by omega)

theorem State.steady_levels (s : State) : s.Steady s.levels where
  standing := (congrArg State.standing s.levels_frame :)
  qes hnone := (congrArg State.qes s.levels_frame :).trans hnone
  fld _ hlo _ := State.levels_fld hlo s

theorem State.steady_emitCredits (s : State) (p n : Nat) : s.Steady (s.emitCredits p n) := by
  have hfull : s.Steady ((List.range (n / 8)).foldl (fun s _ => s.emit (.credits p 8)) s) := .foldl (fun t _ => t.steady_emit _) _ s
  exact .ite hfull (hfull.trans (State.steady_emit _ _))

theorem State.steady_giveCredits (s : State) (p : Nat) : s.Steady (s.giveCredits p) :=
  .ite (.refl s) ((s.steady_setPort p _).trans (State.steady_emitCredits _ p _))

theorem State.steady_badFlit (s : State) (p : Nat) : s.Steady (s.badFlit p) := by
  have hpage : 0x8000 ≤ (Reg.HPT_EVT_WD_BAD p).key := by simp only [FRef.key, regKey, Reg.HPT_EVT_WD_BAD]; omega
  exact (s.steady_setFld (FRef.elsewhere_of_port hpage) 1).trans (State.steady_giveCredits _ p)

theorem State.steady_noteData (s : State) (rid : Option Nat) : s.Steady (s.noteData rid) := by
  cases rid with
  | none => exact .refl s
  | some i => exact s.steady_mapReq i _

theorem State.steady_putWd (s : State) (p : Nat) (f : WdFlit) : s.Steady (s.putWd p f) := by
  have hput (bad : Bool) (rid : Option Nat) (w : WLine) :
      s.Steady (if bad then s.badFlit p else ((s.noteData rid).pushLine w).levels) :=
    .ite (s.steady_badFlit p) (((s.steady_noteData rid).trans (State.steady_wbuf _ _)).trans (State.steady_levels _))
  simp only [State.putWd]
  split <;> exact hput _ _ _

theorem State.steady_takeHeldWd (s : State) (free n : Nat) : s.Steady (s.takeHeldWd free n) := by
  induction n generalizing s free with
  | zero => exact .refl s
  | succ n ih =>
    rw [State.takeHeldWd]
    split
    next => exact .refl s
    next p _ =>
      have hpage : 0x8000 ≤ (Reg.HPT_EVT_CRD_OVER p).key := by simp only [FRef.key, regKey, Reg.HPT_EVT_CRD_OVER]; omega
      split
      next f rest _ _ =>
        have htaken := (s.steady_setPort p { s.port p with wdHeld := rest }).trans (State.steady_setFld _ (FRef.elsewhere_of_port hpage) 1)
        exact (htaken.trans (State.steady_putWd _ p f)).trans (ih _ _)
      next => exact .refl s

theorem State.steady_dropLines (s : State) (gone : WLine → Bool) : s.Steady (s.dropLines gone) := by
  have hcredits (l : List Nat) (t : State) : t.Steady (l.foldl (fun s p => s.giveCredits p) t) := .foldl (fun t p => t.steady_giveCredits p) l t
  have hfreed := (s.steady_wbuf (s.wbuf.filter (fun w => !gone w))).trans (hcredits ((s.wbuf.filter gone).filterMap (·.own)) _)
  exact (hfreed.trans (State.steady_levels _)).trans (State.steady_takeHeldWd _ _ _)

theorem State.steady_freeLines (s : State) (gone : WLine → Bool) : s.Steady (s.freeLines gone) :=
  .ite (s.steady_dropLines gone) (.refl s)

theorem State.steady_fwdFlitSent (s : State) (r : Req) (st : Status) : s.Steady (s.fwdFlitSent r st) := by
  have howes := s.steady_mapReq r.rid (fun r => { r with owed := r.owed - 1 })
  exact .ite ((howes.trans (.ite (State.steady_dropLines _ _) (.refl _))).trans (State.steady_dropReq _ _)) howes

theorem State.steady_respond (s : State) (r : Req) (idx : Nat) (st : Status) (mis : Bool) (data : LineData) (entry : Bool) :
    s.Steady (s.respond r idx st mis data entry) := by
  cases horg : r.org with
  | port p =>
    simp only [State.respond, horg]
    exact ((s.steady_setPort p _).trans (State.steady_mapReq _ _ _)).trans (State.steady_levels _)
  | ring t m =>
    simp only [State.respond, horg]
    exact (s.onlySends_send _ _ _ _).steady.trans (State.steady_fwdFlitSent _ r st)

theorem State.steady_answer (s : State) (rid : Nat) (st : Status) (mis : Bool) : s.Steady (s.answer rid st mis) := by
  cases hr : s.req? rid with
  | none => simp only [State.answer, hr]; exact .refl s
  | some r =>
    simp only [State.answer, hr]
    exact (s.steady_mapReq rid _).trans (State.steady_respond _ _ _ _ _ _ _)

theorem State.steady_answerRest (s : State) (left : List QE) (r : Req) (st : Status) : s.Steady (s.answerRest left r st) := by
  have hlines (l : List Nat) : s.Steady (l.foldl (fun s i => s.respond r i st false zeroLine) s) :=
    .foldl (fun t _ => t.steady_respond _ _ _ _ _ _) l s
  unfold State.answerRest
  extract_lets made
  exact .ite (.refl s) (.ite (s.steady_answer _ _ _) ((hlines _).trans (State.steady_mapReq _ _ _)))

/-! ## Commands issue (R53, R214, R290) -/

theorem State.steady_countWb (s : State) (upset : LineData) : s.Steady (s.countWb upset) := by
  have hce := s.steady_setFld (f := Reg.GLOB_BUFCE_WB_CE) (by decide)
  exact .ite (hce _) ((hce _).trans ((State.steady_setFld _ (by decide) _).trans (State.steady_setFld _ (by decide) 1)))

theorem State.steady_checkPop (s : State) (q : QE) (more : LineData) : s.Steady (s.checkPop q more) := by
  unfold State.checkPop
  refine .ite ?_ (.refl s)
  split
  · exact .refl s
  · refine (s.steady_countWb _).trans (.ite ?_ (State.steady_mapLines _ _ _))
    exact ((State.steady_raise _ _ _).trans (State.steady_mapReq _ _ _)).trans (State.steady_mapQEs _ _ _)

theorem State.steady_inject (s : State) (q : QE) (b : Burst) : s.Steady (s.inject q b).2 := by
  unfold State.inject
  extract_lets
  split
  · exact (s.steady_setFld (by decide) 0).trans (State.steady_setFld _ (by decide) 1)
  · exact .refl s

theorem State.steady_freeDrained (s : State) (rid idx : Nat) : s.Steady (s.freeDrained rid idx) := .ite (.refl s) (s.steady_freeLines _)

theorem State.steady_startIdle (s : State) (q : QE) (c : Cmd) : s.Steady (s.startIdle q c) := by
  unfold State.startIdle
  split
  · refine (s.steady_mapQE _ _).trans (.ite (.refl _) ?_)
    split
    · exact State.steady_setEng _ _ _
    · exact .refl _
  · exact s.steady_mapQE _ _

theorem State.steady_issueWrite (s : State) (sc : Nat) (i : Issue) (more : LineData) : s.Steady (s.issueWrite sc i more) := by
  unfold State.issueWrite
  split
  · exact .refl s
  rename_i q0 _
  extract_lets s1 q b far s2
  have hpopped : s.Steady s2 := (s.steady_checkPop q0 more).trans (State.steady_mapQEs _ _ _)
  have hinjected := hpopped.trans (State.steady_inject s2 q b)
  generalize s2.inject q b = x at hinjected
  obtain ⟨burst, t⟩ := x
  dsimp -zeta only
  extract_lets s3 s4 u s5 s6 s7
  have hsent : t.Steady s4 := (t.steady_mapQE _ _).trans (.foldl (fun t _ => t.steady_sendAwait _ _ _ _ _) _ _)
  have hdriven : t.Steady s6 := (hsent.trans (State.steady_setSub _ _ _)).trans (State.steady_emit _ _)
  exact (hinjected.trans hdriven).trans (.trans (.ite (State.steady_freeDrained _ _ _) (.refl _)) (State.steady_startIdle s7 _ _))

theorem State.steady_issueRead (s : State) (sc : Nat) (i : Issue) : s.Steady (s.issueRead sc i) := by
  unfold State.issueRead
  extract_lets u i s1
  have hopen : s.Steady s1 := s.steady_setSub _ _
  split
  · exact hopen
  · exact hopen.trans ((State.steady_mapQE _ _ _).trans (State.steady_startIdle _ _ _))

theorem State.steady_zqIssued (s : State) (sc : Nat) (i : Issue) : s.Steady (s.zqIssued sc i) :=
  .ite (.trans (.ite (s.steady_setFld (by decide) 1) (.refl s)) (State.steady_setSub _ _ _)) (s.steady_setSub _ _)

theorem State.steady_issueNext (s : State) (sc : Nat) (more : LineData) : s.Steady (s.issueNext sc more) := by
  unfold State.issueNext
  split
  · exact .refl s
  rename_i i _
  extract_lets u s1 s2 v
  have hsent : s.Steady s2 := (s.steady_setSub _ _).trans (State.steady_emit s1 _)
  refine hsent.trans ?_
  cases i.cmd with
  | rd | rda => exact s2.steady_issueRead _ _
  | wr | wra => exact s2.steady_issueWrite _ _ _
  | mrr => exact s2.steady_setSub _ _
  | mrw => exact s2.steady_emit _
  | zqs | zql => exact s2.steady_zqIssued _ _
  | act | pre | preab | refab | refsb | rfmab | rfmsb | sre | srx => exact .refl s2

theorem State.steady_issueAll (s : State) (sc : Nat) : s.Steady (s.issueAll sc) := .foldl (fun t _ => t.steady_issueNext _ _) _ s

/-! ## A channel enters self-refresh (R225) -/

theorem State.steady_skipIdle (s : State) (sc rk why : Nat) : s.Steady (s.skipIdle sc rk why) := by
  unfold State.skipIdle
  extract_lets u
  refine .ite (.refl s) ?_
  split
  · exact .refl s
  · exact s.steady_setSub _ _

theorem State.steady_tickUntil (s : State) (sc rk why fuel : Nat) : s.Steady (s.tickUntil sc rk why fuel) := by
  induction fuel generalizing s with
  | zero => exact .refl s
  | succ fuel ih => exact .ite (((s.steady_skipIdle _ _ _).trans (State.steady_latticeTick _ _)).trans (ih _)) (.refl s)

theorem State.steady_directFrom (s : State) (sc start : Nat) (c : Cmd) (rk bk row col tag ma val : Nat) :
    s.Steady (s.directFrom sc start c rk bk row col tag ma val) := by
  unfold State.directFrom
  extract_lets x s1 s2
  have hticked : s.Steady s2 := (s.steady_setSub _ _).trans (State.steady_tickUntil s1 _ _ _ _)
  split
  · exact hticked
  extract_lets s3 u s4
  have hissued : s2.Steady s4 :=
    ((State.Steady.foldl (fun t _ => t.steady_issueNext _ _) _ s2).trans (State.steady_setSub _ _ _)).trans (State.steady_emit _ _)
  split
  · exact (hticked.trans hissued).trans (State.steady_zqIssued _ _ _)
  · exact (hticked.trans hissued).trans (State.steady_zqIssued _ _ _)
  · exact hticked.trans hissued

theorem State.steady_oweLatch (s : State) (sc rk : Nat) : s.Steady (s.oweLatch sc rk) := .ite (.refl s) (s.steady_directFrom _ _ _ _ _ _ _ _ _ _)

theorem State.steady_enterSr (s : State) (sc rk : Nat) : s.Steady (s.enterSr sc rk).1 := by
  unfold State.enterSr
  extract_lets t s1 u s2 s3 x
  have hticked : s1.Steady s3 := (s1.steady_setSub _ _).trans (State.steady_tickUntil s2 _ _ _ _)
  exact (((s.steady_oweLatch sc rk).trans hticked).trans (State.steady_issueAll _ _)).trans (State.steady_emit _ _)

theorem State.steady_quietSeqs (s : State) (sc rk : Nat) : s.Steady (s.quietSeqs sc rk) :=
  (s.steady_tickUntil _ _ _ _).trans (State.steady_setSub _ _ _)

theorem State.steady_holdChannel (s : State) (c : Nat) : s.Steady (s.holdChannel c) := .foldl (fun t _ => t.steady_setSub _ _) _ s

/-- Ranks that enter self-refresh one after the other, with the slot of the last SRE. -/
theorem State.steady_foldl_enterSr (sc : Nat) (l : List Nat) (r : State × Nat) :
    r.1.Steady (l.foldl (fun r rk => ((r.1.enterSr sc rk).1, max r.2 (r.1.enterSr sc rk).2)) r).1 :=
  List.foldlRecOn (motive := fun x : State × Nat => r.1.Steady x.1) l _ (.refl _) fun _ hx _ _ => hx.trans (State.steady_enterSr _ _ _)

theorem State.steady_channelSr (s : State) (c : Nat) : s.Steady (s.channelSr c) := by
  unfold State.channelSr
  extract_lets s1 awake s2 r
  have hquiet : s.Steady s2 := (s.steady_holdChannel c).trans
    (.foldl (fun t _ => (State.Steady.foldl (fun t _ => t.steady_quietSeqs _ _) _ t).trans (State.steady_issueAll _ _)) _ _)
  have hslept : s2.Steady r.1 :=
    List.foldlRecOn (motive := fun x : State × Nat => s2.Steady x.1) _ _ (.refl s2) fun x hx sc _ => hx.trans (State.steady_foldl_enterSr sc _ x)
  exact (hquiet.trans hslept).trans (.ite (.refl _) (State.steady_emit _ _))

end Sys2Proof.Machine

/-! SUPPORT and settlement of the statement about a report of class F (O45). -/

namespace Sys2Proof.Machine

open Sys2Proof

theorem State.steady_setFlds (s : State) (l : List (FRef × Nat)) (hl : ∀ p ∈ l, p.1.Elsewhere) : s.Steady (s.setFlds l) :=
  List.foldlRecOn (motive := s.Steady) l _ (.refl s) fun _ ht p hp => ht.trans (State.steady_setFld _ (hl p hp) _)

/-! ## A channel stops (R155, R225, R317, R321) -/

theorem State.steady_freeTrack (s : State) (c l : Nat) : s.Steady (s.freeTrack c l) := by
  unfold State.freeTrack
  split
  · exact s.steady_setTrack _ _
  · exact .refl s

theorem State.steady_dropOwn (s : State) (c : Nat) : s.Steady (s.dropOwn c) := by
  refine (s.steady_filterQEs _).trans (.foldl (fun t q => ?_) _ _)
  have hscrub : t.Steady (if q.link = 0 then t.setScrub c { t.scrubOf c with busy := false } else t.freeTrack q.loc.ch q.loc.l) :=
    .ite (t.steady_setScrub _ _) (t.steady_freeTrack _ _)
  have hmig : t.Steady (match t.mig with
      | some m => { t with mig := some { m with busy := false, next := m.cur } }
      | none => t) := by
    split
    · exact .of_eq rfl id rfl
    · exact .refl t
  cases q.src with
  | scrub | scrubWrite | scrubVerify => exact hscrub
  | repairRd => exact t.steady_mapQE _ _
  | migRd | migWr => exact hmig
  | _ => exact .refl t

theorem State.steady_stopChannel (s : State) (c : Nat) (intact : Bool) : s.Steady (s.stopChannel c intact) := by
  have hlock : (Reg.CHN_PLL_LOCK c).Elsewhere := .inr (by simp only [FRef.key, regKey, Reg.CHN_PLL_LOCK]; omega)
  have htemp : (Reg.CHN_TEMP_VALID c).Elsewhere := .inr (by simp only [FRef.key, regKey, Reg.CHN_TEMP_VALID]; omega)
  unfold State.stopChannel
  extract_lets begun s1 x s2 s3 s4
  have hslept : s.Steady s1 := .ite (s.steady_channelSr c) (.refl s)
  have hdark : s1.Steady s2 := (s1.steady_setPhy c _).trans (State.steady_setFlds _ _ (by simp [hlock, htemp]))
  have hdropped : s2.Steady s3 := (s2.steady_dropOwn c).trans (State.steady_epDrop _ c)
  have hcut : s3.Steady s4 := .ite ((s3.steady_setFld (by decide) 0).trans (State.steady_setFld _ (by decide) 1)) (.refl s3)
  refine (((hslept.trans hdark).trans hdropped).trans hcut).trans (.foldl (fun t k => ?_) _ s4)
  exact (t.steady_setSub _ _).trans (.foldl (fun u _ => u.steady_setEng _ _) _ _)

/-! ## What every stop of service ends (R321, R397, R466, R474, R494) -/

theorem State.steady_rmGoEnd (s : State) : s.Steady s.rmGoEnd := .ite (.refl s) (s.steady_setFld (by decide) 0)

theorem State.steady_stopBackground (s : State) : s.Steady s.stopBackground := by
  unfold State.stopBackground
  extract_lets s1 repair startup s2
  have hdropped : s.Steady s1 := .foldl (fun t c => (t.steady_epDrop c).trans (State.steady_setScrub _ _ _)) _ s
  clear_value s1
  have hended : s1.Steady s2 := .of_eq rfl (fun h => congrArg (List.filter _) h) rfl
  have hcopies : s2.Steady (s2.dropCopies (fun _ => true) true) := .of_eq rfl id rfl
  exact ((hdropped.trans hended).trans hcopies).trans (State.steady_rmGoEnd _)

theorem State.steady_verifyClear (s : State) (cause : Nat) (v1 v2 : Bool) : s.Steady (s.verifyClear cause v1 v2) := by
  have hset {t : State} {f : FRef} (h : f.Elsewhere) := State.steady_setFld t h
  exact .ite (((hset (by decide) 1).trans (hset (by decide) cause)).trans (hset (by decide) 1))
    (((hset (by decide) 1).trans (hset (by decide) 1)).trans (State.steady_raise _ _ _))

theorem State.steady_lostKey (s : State) (p : Nat) (a : HLine) : s.Steady (s.lostKey p a) :=
  ((s.steady_setFld (by decide) _).trans (State.steady_setFld _ (by decide) 1)).trans (State.steady_raise _ _ _)

theorem State.steady_clearOver (s : State) : s.Steady s.clearOver := .of_eq rfl id rfl

theorem State.steady_clearKeys (s : State) (cause : Nat) (v1 v2 : Bool) : s.Steady (s.clearKeys cause v1 v2) := by
  unfold State.clearKeys
  extract_lets hit lines s1 past s2 s3 s4 s5 z c s6
  have hlost : s.Steady s1 := .foldl (fun t x => t.steady_lostKey _ _) _ s
  have hpoisoned : s1.Steady s4 := ((s1.steady_reqs _).trans (State.steady_mapQEs s2 _ _)).trans (State.steady_mapQEs s3 _ _)
  have hemptied : s4.Steady s5 := .foldl (fun t k => .ite (.refl t) (t.steady_setSlot _ _)) _ s4
  clear_value s5
  have hover : s5.Steady s6 := s5.steady_clearOver
  exact (((hlost.trans hpoisoned).trans hemptied).trans hover).trans
    ((s6.steady_setFld (by decide) _).trans (State.steady_verifyClear _ _ _ _))

theorem State.steady_setRec (s : State) (i v : Nat) : s.Steady (s.setRec i v) := .of_eq rfl id rfl

theorem State.steady_recShown (s : State) : s.Steady s.recShown :=
  .foldl (fun t i => t.steady_setFld (.inr (by simp only [FRef.key, regKey, Reg.BIST_REC_REC]; omega)) _) _ s

theorem State.steady_sliceCut (s : State) : s.Steady s.sliceCut := by
  unfold State.sliceCut
  split
  · exact (s.steady_setRec _ _).trans (State.steady_setFld _ (by decide) 1)
  · exact .refl s

theorem State.steady_finishRecord (s : State) : s.Steady s.finishRecord := by
  have hstat (t : State) (phase : Nat) : t.Steady (t.setFlds [(Reg.BIST_STAT_PHASE, phase), (Reg.BIST_STAT_SLICE, 0xF), (Reg.BIST_EVT_DONE, 1)]) :=
    t.steady_setFlds _ (by simp; decide)
  have hbist (t : State) (b : Bist) : t.Steady { t with bist := b } := .of_eq rfl id rfl
  exact (((s.steady_setRec 15 _).trans (State.steady_recShown _)).trans (hstat _ _)).trans (hbist _ _)

theorem State.steady_haltSlices (s : State) : s.Steady s.haltSlices := by
  cases hrun : s.bist.run with
  | false => rw [State.haltSlices_of_idle hrun]; exact .refl s
  | true => rw [State.haltSlices_of_run hrun]; exact s.steady_sliceCut.trans (State.steady_finishRecord _)

/-! ## Requests held at the pins are taken (R31, R37, R42, R101) -/

theorem State.steady_flushPull (s : State) (cov : List Nat) (d : Tempo) : s.Steady (s.flushPull cov d) :=
  .of_eq rfl (fun h => by rw [State.flushPull, h]; rfl) rfl

theorem State.steady_joinOrphans (s : State) (p : Nat) (op : Op) (f : RqFlit) (rid : Nat) : s.Steady (s.joinOrphans p op f rid) := by
  have hpage : 0x8000 ≤ (Reg.HPT_EVT_WD_BAD p).key := by simp only [FRef.key, regKey, Reg.HPT_EVT_WD_BAD]; omega
  unfold State.joinOrphans
  refine .ite ?_ (.refl s)
  extract_lets s1 extra
  have hjoined : s.Steady s1 := s.steady_mapLines _ _
  exact .ite (hjoined.trans ((s1.steady_setFld (FRef.elsewhere_of_port hpage) 1).trans (State.steady_freeLines _ _))) hjoined

theorem State.steady_acceptRq (s : State) (p : Nat) (h : HeldRq) : s.Steady (s.acceptRq p h) := by
  have hpage : 0x8000 ≤ (Reg.HPT_EVT_DUP_TAG p).key := by simp only [FRef.key, regKey, Reg.HPT_EVT_DUP_TAG]; omega
  unfold State.acceptRq
  extract_lets f rid dl flush dup cov r s1 s2 s3 s4 s5 s6
  have hnumbered : s.Steady s1 := .of_eq rfl id rfl
  clear_value s1
  generalize s1.modeStatus p = st
  cases st with
  | some st =>
    have hdone : s2.Steady s3 := .ite (.refl s2) (s2.steady_joinOrphans _ _ _ _)
    exact ((hnumbered.trans (s1.steady_reqs _)).trans hdone).trans (State.steady_respond _ _ _ _ _ _ _)
  | none =>
    have hnoted : s1.Steady s4 := .ite (s1.steady_setFld (FRef.elsewhere_of_port hpage) 1) (.refl s1)
    have hplaced : s4.Steady s6 := (s4.steady_reqs _).trans (.ite (s5.steady_flushPull _ _) (.refl s5))
    exact ((hnumbered.trans hnoted).trans hplaced).trans (.ite (.refl s6) (s6.steady_joinOrphans _ _ _ _))

theorem State.steady_takeHeldRq (s : State) (p n : Nat) : s.Steady (s.takeHeldRq p n) := by
  induction n generalizing s with
  | zero => exact .refl s
  | succ n ih =>
    rw [State.takeHeldRq]
    split
    · exact .refl s
    · exact .ite (.refl s) (((s.steady_setPort p _).trans (State.steady_acceptRq _ _ _)).trans (ih _))

theorem State.steady_takeAllHeld (s : State) : s.Steady s.takeAllHeld := .foldl (fun t _ => t.steady_takeHeldRq _ _) _ s

/-! ## A report is filed (R488, R489, R500) -/

/-- From `s` to `t` the mode and the status bits stand. -/
structure State.Filed (s t : State) : Prop where
  mode : t.mode = s.mode
  fld : ∀ f : FRef, 0x1044 ≤ f.key → f.key ≤ 0x1048 → t.fld f = s.fld f

theorem State.Filed.trans {s t u : State} (hst : s.Filed t) (htu : t.Filed u) : s.Filed u :=
  ⟨htu.mode.trans hst.mode, fun f hlo hhi => (htu.fld f hlo hhi).trans (hst.fld f hlo hhi)⟩

theorem State.Filed.of_regs {s t : State} (hmode : t.mode = s.mode) (hregs : t.regs = s.regs) : s.Filed t :=
  ⟨hmode, fun f _ _ => State.fld_of_regs hregs f⟩

theorem State.filed_setFld (s : State) {f : FRef} (h : f.key < 0x1044 ∨ 0x1048 < f.key) (v : Nat) : s.Filed (s.setFld f v) where
  mode := rfl
  fld g hlo hhi := State.setFld_fld_ne s f g v (by omega)

theorem State.filed_firstFault (s : State) (r : Report) : s.Filed (s.firstFault r) := by
  have hseen : 0x1048 < (Reg.FLTC_SEEN_SEEN (r.src / 32)).key := by simp only [FRef.key, regKey, Reg.FLTC_SEEN_SEEN]; omega
  unfold State.firstFault
  split
  · exact .of_regs rfl rfl
  split
  · exact s.filed_setFld (.inr hseen) _
  · have hset (t : State) (i v : Nat) : t.Filed (t.setFld (Reg.FLTC_FF_FF i) v) :=
      t.filed_setFld (.inr (by simp only [FRef.key, regKey, Reg.FLTC_FF_FF]; omega)) v
    exact ((((hset s 0 _).trans (hset _ 1 _)).trans (hset _ 2 _)).trans (hset _ 3 _)).trans
      (State.filed_setFld _ (by decide) 1)

theorem State.filed_logLevel (s : State) : s.Filed s.logLevel where
  mode := (congrArg State.mode (s.level_frame _ _ _ _ _ _) :)
  fld _ hlo hhi := State.logLevel_fld (by omega) (by omega) s

theorem State.filed_logPush (s : State) (x : FaultRec) : s.Filed (s.logPush x) := by
  unfold State.logPush
  split
  · exact (s.filed_setFld (by decide) _).trans (State.filed_setFld _ (by decide) 1)
  · have hkept : s.Filed { s with fault := { s.fault with log := s.fault.log ++ [x] } } := .of_regs rfl rfl
    exact hkept.trans (State.filed_logLevel _)

theorem State.filed_countClass (s : State) (c : Nat) : s.Filed (s.countClass c) := by
  unfold State.countClass
  split <;> exact (s.filed_setFld (by decide) _).trans (State.filed_setFld _ (by decide) 1)

theorem State.OnlySends.filed {s t : State} (h : s.OnlySends t) : s.Filed t := .of_regs (congrArg State.mode h.rest :) h.regs

/-- What R488 does with a report of class F before HALT: its status bit, the first-fault register, the log, the counter, the FAULT_NOTE. -/
def State.fileFatal (s : State) (r : Report) : State :=
  (((((s.setBit (Reg.FLTC_STS_STS (r.src / 32)) (r.src % 32) true).firstFault r).logPush (recordOf r)).countClass 3).broadcast 0x11
    (3 + r.src * 4 + r.stamp.toNat * 2 ^ 10) [])

theorem State.handle_of_fatal {r : Report} (hcls : r.cls = 3) (s : State) (v1 v2 : Bool) :
    s.handle v1 v2 r = (s.fileFatal r).enterHalt (if r.src = 0x3A then some (r.loc / 64) else none) v1 v2 := by
  simp only [State.handle, hcls, State.fileFatal, reduceIte, Nat.reduceLeDiff]

section
variable (s : State) (r : Report)

theorem State.filed_fileFatal : (s.setBit (Reg.FLTC_STS_STS (r.src / 32)) (r.src % 32) true).Filed (s.fileFatal r) :=
  (((State.filed_firstFault _ r).trans (State.filed_logPush _ _)).trans (State.filed_countClass _ 3)).trans (State.onlySends_broadcast _ _ _ _).filed

theorem State.fileFatal_mode : (s.fileFatal r).mode = s.mode := (s.filed_fileFatal r).mode

variable {r} in
theorem State.fileFatal_stsBit (h : r.src < 64) : (s.fileFatal r).stsBit r.src = true := by
  have hlo : 0x1044 ≤ (Reg.FLTC_STS_STS (r.src / 32)).key := by rw [FLTC_STS_key]; omega
  have hhi : (Reg.FLTC_STS_STS (r.src / 32)).key ≤ 0x1048 := by rw [FLTC_STS_key]; omega
  rw [State.stsBit, State.fbit, (s.filed_fileFatal r).fld _ hlo hhi]
  have hword : (Reg.FLTC_STS_STS (r.src / 32)).lo = 0 ∧ (Reg.FLTC_STS_STS (r.src / 32)).hi = 31 := ⟨rfl, rfl⟩
  exact s.setBit_fbit_same (by omega) (by omega) (by omega)

end

/-! ## HALT is entered (R494, R495) -/

/-- The tile in HALT, its work not yet ended. -/
def State.haltBegun (s : State) : State :=
  let s := (s.deadSlot (fun _ => true)).setMode .halt
  { s with
    memReady := false
    power := { s.power with sleep := .awake, vote := none, idle := none, latched := none, coreOn := true, crypOn := true }
    fault := { s.fault with timers := [] }
    locks := [] }

theorem State.deadSlot_regs (s : State) (gone : Req → Bool) : (s.deadSlot gone).regs = s.regs := by
  unfold State.deadSlot
  split
  · split <;> rfl
  · rfl

theorem State.setMode_fld (s : State) (m : Mode) {f : FRef} (h : 0x1000 ≤ f.key) : (s.setMode m).fld f = s.fld f := by
  have hevt : Reg.GLOB_EVT_MODE_CHG.key < 0x1000 := by decide
  unfold State.setMode
  split
  · rfl
  · exact State.setFld_fld_ne _ _ _ _ (by omega)

theorem State.haltBegun_fld (s : State) {f : FRef} (h : 0x1000 ≤ f.key) : s.haltBegun.fld f = s.fld f :=
  ((s.deadSlot (fun _ => true)).setMode_fld .halt h).trans (State.fld_of_regs (s.deadSlot_regs _) f)

theorem State.haltBegun_mode (s : State) : s.haltBegun.mode = .halt := State.setMode_mode _ _

/-- The background work has ended, and the keys are cleared where HALT clears them. -/
def State.haltQuiet (s : State) (v1 v2 : Bool) : State :=
  let s := s.stopBackground
  if s.flag Reg.CRYP_CFG_HALT_CLR && s.build.crypt then s.clearKeys 3 v1 v2 else s

theorem State.steady_haltQuiet (s : State) (v1 v2 : Bool) : s.Steady (s.haltQuiet v1 v2) :=
  s.steady_stopBackground.trans (.ite (State.steady_clearKeys _ 3 v1 v2) (.refl _))

/-- The queues are dropped. -/
def State.haltDropped (s : State) : State := { s with qes := [] }

/-- Then the requests are answered, the lines of dropped writes are freed, the channels stop, and requests at the pins are taken. -/
def State.haltEnded (s : State) (gone : List QE) (phyFatal : Option Nat) : State :=
  let s := s.reqs.foldl (fun s r => s.answerRest gone r .halted) s
  let s := s.freeLines (fun w => gone.any (fun q => q.ofWrite && w.rid == some q.rid) && !s.reqs.any (fun r => w.rid == some r.rid))
  let s := (List.range 4).foldl (fun s c => if s.chanBuilt c then s.stopChannel c (s.intact c phyFatal) else s) s
  s.haltSlices.takeAllHeld

theorem State.steady_haltEnded (s : State) (gone : List QE) (phyFatal : Option Nat) : s.Steady (s.haltEnded gone phyFatal) := by
  unfold State.haltEnded
  extract_lets s1 s2 s3
  have hanswered : s.Steady s1 := .foldl (fun t r => t.steady_answerRest _ _ _) _ s
  have hstopped : s2.Steady s3 := .foldl (fun t c => .ite (t.steady_stopChannel _ _) (.refl t)) _ s2
  exact ((hanswered.trans (s1.steady_freeLines _)).trans hstopped).trans ((State.steady_haltSlices _).trans (State.steady_takeAllHeld _))

theorem State.enterHalt_of_running {s : State} (h : s.mode ≠ .halt) (phyFatal : Option Nat) (v1 v2 : Bool) : s.enterHalt phyFatal v1 v2 =
    (s.haltBegun.haltQuiet v1 v2).haltDropped.haltEnded (s.haltBegun.haltQuiet v1 v2).qes phyFatal := by
  rw [State.enterHalt, if_neg h]
  extract_lets s1 fault power s2 s3 s4
  have hbegun : s.haltBegun = s2 := rfl
  rw [hbegun]
  clear_value s2
  have hquiet : s2.haltQuiet v1 v2 = s4 := by rw [State.haltQuiet]
  rw [hquiet]
  clear_value s4
  rfl

/-- What holds of the tile once it is in HALT. -/
theorem State.enterHalt_halted {s : State} (h : s.mode ≠ .halt) (phyFatal : Option Nat) (v1 v2 : Bool) :
    (s.enterHalt phyFatal v1 v2).standing = s.haltBegun.standing ∧ (s.enterHalt phyFatal v1 v2).qes = [] ∧
    ∀ n, n < 2 → (s.enterHalt phyFatal v1 v2).fld (Reg.FLTC_STS_STS n) = s.fld (Reg.FLTC_STS_STS n) := by
  have hbegun := s.haltBegun.steady_haltQuiet v1 v2
  rw [State.enterHalt_of_running h]
  generalize s.haltBegun.haltQuiet v1 v2 = w at hbegun
  have hended := w.haltDropped.steady_haltEnded w.qes phyFatal
  refine ⟨hended.standing.trans hbegun.standing, hended.qes rfl, fun n hn => ?_⟩
  have hlo : 0x1000 ≤ (Reg.FLTC_STS_STS n).key := by rw [FLTC_STS_key]; omega
  have hhi : (Reg.FLTC_STS_STS n).key < 0x3000 := by rw [FLTC_STS_key]; omega
  calc _
      = w.fld (Reg.FLTC_STS_STS n) := hended.fld _ hlo hhi
    _ = s.haltBegun.fld (Reg.FLTC_STS_STS n) := hbegun.fld _ hlo hhi
    _ = s.fld (Reg.FLTC_STS_STS n) := s.haltBegun_fld hlo

/-! ## The window closes (R486-R488) -/

theorem exec_captureWindowClose (v1 v2 : Bool) {s : State} (h : s.serving = true) :
    exec (.captureWindowClose v1 v2) s = .next (s.done (s.closeWindow v1 v2)) := by
  show execCaptureWindowClose v1 v2 s = _
  exact act_next h _

/-- The reports of window `w` are taken, at its close. -/
def State.windowTaken (s : State) (w : Nat) : State :=
  { s with fault := { s.fault with reports := s.fault.reports.filter (fun r => windowOf r.stamp ≠ w) } }.advanceTo (ns (8 * (w + 1) + 40))

theorem State.windowTaken_mode (s : State) (w : Nat) : (s.windowTaken w).mode = s.mode := State.advanceTo_mode _ _

/-- A report alone is the one its window holds. -/
theorem State.closeWindow_of_one {s : State} {r : Report} (h : s.fault.reports = [r]) (v1 v2 : Bool) :
    s.closeWindow v1 v2 = (s.windowTaken (windowOf r.stamp)).handle v1 v2 r := by
  have hnow : s.fault.reports.filter (fun x => windowOf x.stamp = windowOf r.stamp) = [r] := by simp [h]
  have hbest : best (fun a b : Report => earlier a.stamp b.stamp) s.fault.reports = some r := by rw [h]; rfl
  unfold State.closeWindow
  split
  next hnone => simp [h] at hnone
  next =>
    rw [hbest, Option.getD_some]
    dsimp only
    rw [hnow]
    rfl

/-- Settles O45. From the change of mode on, every step of HALT's entry keeps the mode, MEM_READY, the locks and the Check Timers, and the status
registers; from the dropping of the queues on, none adds an entry. -/
theorem fatalReportHalts : Obligations.FatalReportHalts := by
  unfold Obligations.FatalReportHalts
  intro v1 v2 r s hserve hreports hcls hsrc hmode
  have htmode := s.windowTaken_mode (windowOf r.stamp)
  rw [exec_captureWindowClose v1 v2 hserve, State.closeWindow_of_one hreports, State.handle_of_fatal hcls]
  generalize s.windowTaken (windowOf r.stamp) = t at htmode
  have hrunning : (t.fileFatal r).mode ≠ .halt := by rwa [t.fileFatal_mode, htmode]
  obtain ⟨hstanding, hqes, hsts⟩ := State.enterHalt_halted hrunning (if r.src = 0x3A then some (r.loc / 64) else none) v1 v2
  refine ⟨_, rfl, ?_, ?_, hqes, ?_, ?_, ?_⟩
  · exact (congrArg (·.1) hstanding :).trans (t.fileFatal r).haltBegun_mode
  · exact (congrArg (·.2.2.1) hstanding :)
  · exact (congrArg (·.2.2.2.2.1) hstanding :)
  · exact (congrArg (·.2.2.2.2.2) hstanding :)
  · rw [State.stsBit, State.fbit, hsts _ (by omega)]
    exact t.fileFatal_stsBit hsrc

end Sys2Proof.Machine
